-- ==== Sys2Proof/Word.lean ====
section
/-!
DEFINITION. Word.lean: the word types of the T740 and their plainest arithmetic (R10, R12, R127).
-/
namespace Sys2Proof

/-- A node, a fault detail, a CRC: 32 bits (R26). -/
abbrev Word := BitVec 32
/-- One byte of a transfer or a frame (R127). -/
abbrev Byte := BitVec 8
/-- A 64-bit word: a fault message (R510), a schedule row (R411). -/
abbrev Quad := BitVec 64

/-- The 32-bit two's complement value an exact integer wraps to. -/
def wrap32 (x : Int) : Int := (BitVec.ofInt 32 x).toInt
/-- The 64-bit two's complement value an exact integer wraps to. -/
def wrap64 (x : Int) : Int := (BitVec.ofInt 64 x).toInt
/-- Clamp an exact integer into `[lo, hi]`. -/
def clamp (lo hi x : Int) : Int := if x < lo then lo else if hi < x then hi else x
/-- Clamp into the signed 32-bit range. -/
def sat32 (x : Int) : Int := clamp (-2147483648) 2147483647 x
/-- Arithmetic right shift: division by a power of two rounding down. -/
def asr (x : Int) (s : Nat) : Int := x / (2 ^ s : Int)
/-- Bit `i` of a natural number. -/
def bitOf (x i : Nat) : Bool := x.testBit i
/-- The field `[hi:lo]` of a natural number (R10). -/
def field (x hi lo : Nat) : Nat := (x >>> lo) % 2 ^ (hi + 1 - lo)
/-- 1 for true, 0 for false. -/
def b2n (b : Bool) : Nat := if b then 1 else 0

end Sys2Proof
end

