-- ==== Sys2Proof/Machine/Store.lean ====
section
/-!
DEFINITION. Machine/Store.lean: byte encodings (R127), the sparse store in its one canonical form, and the shape of a
dictionary entry (R126–R130, R551).
-/
namespace Sys2Proof

/-- The low `n` bytes of a number, little-endian (R127). -/
def le : Nat → Nat → List Byte
  | 0, _ => []
  | n + 1, v => BitVec.ofNat 8 v :: le n (v / 256)
/-- The number a little-endian byte string holds (R127). -/
def leNat : List Byte → Nat
  | [] => 0
  | b :: bs => b.toNat + 256 * leNat bs
/-- The low `n` bytes of an integer in two's complement (R127). -/
def leInt (n : Nat) (v : Int) : List Byte := le n (v % (256 ^ n : Int)).toNat
/-- The two's complement integer of a little-endian byte string (R127). -/
def leSigned (bs : List Byte) : Int :=
  let v : Nat := leNat bs
  if 2 * v < 256 ^ bs.length then v else (v : Int) - 256 ^ bs.length
/-- `n` zero bytes. -/
def zeros (n : Nat) : List Byte := List.replicate n 0#8
/-- 7-bit ASCII bytes given by their codes. -/
def bytesOf (l : List Nat) : List Byte := l.map (BitVec.ofNat 8)
/-- A list cut into rows of `n` bytes; a last short row is kept. -/
def rowsOf (n : Nat) (bs : List Byte) : List (List Byte) :=
  (List.range ((bs.length + n - 1) / n)).map fun i => (bs.drop (n * i)).take n

/-! ### The sparse store: keys strictly rising, no entry equal to what an unlisted key reads as. -/

/-- A store of values by key. -/
abbrev Sparse (β : Type) := List (Nat × β)

section
variable {β : Type} [DecidableEq β]

/-- The listed value of a key. -/
def Sparse.find (l : Sparse β) (k : Nat) : Option β := (List.find? (fun e => e.1 == k) l).map (·.2)
/-- What a key reads as: its listed value, or the default of an unlisted key. -/
def Sparse.get (dflt : Nat → β) (l : Sparse β) (k : Nat) : β := (Sparse.find l k).getD (dflt k)
/-- Every entry of a key removed. -/
def Sparse.erase (l : Sparse β) (k : Nat) : Sparse β := l.filter fun e => e.1 != k
/-- An entry put in before the first key that is not below it. -/
def Sparse.insert : Sparse β → Nat → β → Sparse β
  | [], k, v => [(k, v)]
  | e :: l, k, v => if e.1 < k then e :: Sparse.insert l k v else (k, v) :: e :: l
/-- A write: the entry is listed unless its value is what an unlisted key reads as. -/
def Sparse.set (dflt : Nat → β) (l : Sparse β) (k : Nat) (v : β) : Sparse β :=
  if v = dflt k then Sparse.erase l k else Sparse.insert (Sparse.erase l k) k v
/-- Keys strictly rising. -/
def Sparse.rising : Sparse β → Bool
  | [] => true
  | [_] => true
  | a :: b :: l => decide (a.1 < b.1) && Sparse.rising (b :: l)
/-- The canonical form: keys strictly rising, no entry equal to its default. -/
def Sparse.wf (dflt : Nat → β) (l : Sparse β) : Bool :=
  Sparse.rising l && l.all fun e => decide (e.2 ≠ dflt e.1)

end

/-! ### Dictionary entries. -/

/-- The value of an entry: an integer or truth value, an FX32 with its shift (R12), or a byte string. -/
inductive Val where
  | num (n : Int)
  | fx (k : Int) (shift : Nat)
  | oct (b : List Byte)
  deriving DecidableEq, Repr

/-- A natural number as the value of an entry. -/
def Val.nat (n : Nat) : Val := .num n

/-- R127: the types. A fixed-length OCTETS states its length, a variable one its maximum, a TABLE its row size. -/
inductive Ty where
  | bool | u8 | u16 | u32 | u64 | i16 | i32 | i64 | fx32
  | octets (len : Nat) | octetsMax (max : Nat) | string (max : Nat) | table (row : Nat)
  deriving DecidableEq, Repr

/-- R128: the access codes. -/
inductive Access where
  | ro | rw | wo | rwr | rwc
  deriving DecidableEq, Repr

/-- R129: the persistence classes; retained objects in keep RAM and in the DOZE keep region differ, and volatile objects of
hardware units and of the application firmware differ at an application restart (R114). -/
inductive Persist where
  | stored | sealed | retained | keepRegion | volUnit | volApp
  deriving DecidableEq, Repr

/-- R130: the levels. -/
inductive Level where
  | basic | expert
  deriving DecidableEq, Repr

/-- R551, R153: an entry's own stated range or permitted set. -/
inductive Chk where
  /-- no range or set is stated -/
  | any
  /-- a range; outside it 0x0604_0002 -/
  | rng (lo hi : Nat)
  /-- a range with a step -/
  | step (lo hi st : Nat)
  /-- a permitted set; outside it 0x0604_0003 -/
  | set (vs : List Nat)
  /-- a range whose zero is rejected under R153 with 0x0609_0001 -/
  | nzRng (lo hi : Nat)
  /-- a range and one further value that means none -/
  | rngOr (lo hi none : Nat)
  /-- a signed range, symmetric about 0 -/
  | within (top : Nat)
  /-- R256: a range (0x0604_0002) and a step (0x0604_0003) -/
  | stepSet (lo hi st : Nat)
  /-- a mask with no bit outside these -/
  | bits (mask : Nat)
  /-- R302: no reserved bit; the direction 3 is rejected with 0x0604_0003 -/
  | cmpControl
  /-- R244: type, operator and reserved bits of a trigger condition -/
  | trigCond
  /-- R220: the sources an observer may take -/
  | obSource
  /-- R404: the three-bit fields of WALTZ_PAIR_SHIFT -/
  | pairShift
  /-- R441: the fields of a claim request -/
  | claimReq
  deriving DecidableEq, Repr

/-- One row of the object tables: an entry, or the entries of every unit of its kind. -/
structure ObjRow where
  base : Nat
  stride : Nat
  count : Nat
  sub : Nat
  subStride : Nat
  subCount : Nat
  ty : Ty
  acc : Access
  persist : Persist
  level : Level
  chk : Chk
  dflt : Val
  deriving DecidableEq, Repr

/-- Does the row's record lie at this index? -/
def ObjRow.coversIndex (r : ObjRow) (idx : Nat) : Bool :=
  r.base ≤ idx && (idx - r.base) % r.stride == 0 && (idx - r.base) / r.stride < r.count
/-- Does the row describe this entry? -/
def ObjRow.covers (r : ObjRow) (idx sub : Nat) : Bool :=
  r.coversIndex idx && r.sub ≤ sub && (sub - r.sub) % r.subStride == 0 && (sub - r.sub) / r.subStride < r.subCount

/-- R146: the abort codes. -/
abbrev AbortCode := Nat

/-- Judge a value against its own range or permitted set (R551); none when it may stand. [log 35, 137 DEDUCED] -/
def Chk.judge (c : Chk) (v : Int) : Option AbortCode :=
  match c with
  | .any => none
  | .rng lo hi => if lo ≤ v ∧ v ≤ hi then none else some 0x06040002
  | .step lo hi st => if lo ≤ v ∧ v ≤ hi ∧ v % st = 0 then none else some 0x06040002
  | .within top => if -(top : Int) ≤ v ∧ v ≤ top then none else some 0x06040002
  | .set vs => if vs.any (fun x => (x : Int) == v) then none else some 0x06040003
  | .nzRng lo hi => if v = 0 then some 0x06090001 else if lo ≤ v ∧ v ≤ hi then none else some 0x06040002
  | .rngOr lo hi n => if lo ≤ v ∧ v ≤ hi ∨ v = n then none else some 0x06040002
  | .stepSet lo hi st => if ¬(lo ≤ v ∧ v ≤ hi) then some 0x06040002 else if v % st = 0 then none else some 0x06040003
  | .bits m => if 0 ≤ v ∧ v.toNat ||| m = m then none else some 0x06040002
  | .cmpControl => if v % 32 ≠ 0 then some 0x06040002 else if v / 32 % 4 = 3 then some 0x06040003 else none
  | .trigCond =>
    if v / 2 ^ 60 % 16 ≤ 3 ∧ v / 2 ^ 56 % 16 ≤ 6 ∧ v / 2 ^ 42 % 4 = 0 then none else some 0x06040002
  | .obSource =>
    if 0 ≤ v ∧ v ≤ 0x0B ∨ 0x10 ≤ v ∧ v ≤ 0x1F ∨ 0x20 ≤ v ∧ v ≤ 0x25 ∨ v = 0xFF then none else some 0x06040002
  | .pairShift =>
    if v < 2 ^ 18 ∧ (List.range 6).all (fun n => decide (v / 8 ^ n % 8 ≤ 5)) then none else some 0x06040002
  | .claimReq =>
    if v / 2 ^ 12 % 2 ^ 14 ≠ 0 then some 0x06040002 else if v / 2 ^ 30 = 0 ∨ v / 2 ^ 30 = 3 then none else some 0x06040003

/-- R127: the encoding of a value under its type. -/
def Ty.encode (t : Ty) (v : Val) : List Byte :=
  match v with
  | .oct b => b
  | .fx k s => leInt 4 k ++ le 1 s
  | .num n =>
    match t with
    | .bool | .u8 => leInt 1 n
    | .u16 | .i16 => leInt 2 n
    | .u64 | .i64 => leInt 8 n
    | .fx32 => leInt 4 n ++ le 1 0
    | _ => leInt 4 n

/-- R127: the value of a byte string under a type, or the abort code of its rejection (R146, R153); 0x0604_0002 for a byte the
type does not admit. [log 205 DESIGN CHOICE] -/
def Ty.decode (t : Ty) (b : List Byte) : Except AbortCode Val :=
  let fixed (n : Nat) (v : Val) : Except AbortCode Val := if b.length = n then .ok v else .error 0x06040001
  match t with
  | .bool => if b.length = 1 then (if leNat b ≤ 1 then .ok (.num (leNat b)) else .error 0x06040002) else .error 0x06040001
  | .u8 => fixed 1 (.num (leNat b))
  | .u16 => fixed 2 (.num (leNat b))
  | .u32 => fixed 4 (.num (leNat b))
  | .u64 => fixed 8 (.num (leNat b))
  | .i16 => fixed 2 (.num (leSigned b))
  | .i32 => fixed 4 (.num (leSigned b))
  | .i64 => fixed 8 (.num (leSigned b))
  | .fx32 =>
    if b.length = 5 then
      (if leNat (b.drop 4) ≤ 31 then .ok (.fx (leSigned (b.take 4)) (leNat (b.drop 4))) else .error 0x06040002)
    else .error 0x06040001
  | .octets n => fixed n (.oct b)
  | .octetsMax n => if b.length ≤ n then .ok (.oct b) else .error 0x06040001
  | .string n => if b.length ≤ n then (if b.all (fun c => c.toNat ≤ 0x7F) then .ok (.oct b) else .error 0x06040002)
      else .error 0x06040001
  | .table r => if b.length % r = 0 then .ok (.oct b) else .error 0x06040001

end Sys2Proof
end

