-- ==== Sys2Proof/Syntax.lean ====
section
/-!
DEFINITION. Syntax.lean: the commands of the block, one constructor of Instr per row of spec/opcode_table.json, with the
operands the row's rules name. What the world outside decides (a level, a verdict, a measured count, a time) is an operand.
-/
namespace Sys2Proof

/-- R135: a dictionary client. -/
inductive Client where
  | ralune (network node : BitVec 8)
  | stream
  deriving DecidableEq, Repr

/-- A write to the dictionary (R551): its client, the global time in 10 ns counts and the always-on tick at which it is
carried out. -/
structure Writer where
  client : Client
  now : Nat
  tick : Nat
  flash : Bool
  deriving DecidableEq, Repr

/-- R140, R142: what a service message came by: a CAN FD or CAN XL frame of a port, or the stream port. -/
inductive Via where
  | fd (port : Fin 4) | xl (port : Fin 4) | stream
  deriving DecidableEq, Repr

/-- R140: a service message but for its service code: its transport and who sent it and when, its tag, index, sub-index,
flags, the 32-bit word of bytes [9:6], and its data. -/
structure Pdu where
  via : Via
  writer : Writer
  tag : Byte
  index : BitVec 16
  sub : Byte
  flags : Byte
  word : BitVec 32
  data : List Byte
  deriving DecidableEq, Repr

/-- R170: the references a converter may use. -/
inductive Ref where
  | internal | refin | sup (k : Fin 4)
  deriving DecidableEq, Repr

/-- R155, R156: what one integration of a converter gave: signed packet count, residue, integration time in count clocks,
and whether the integrator saturated. -/
structure Charge where
  packets : Int
  residue : BitVec 8
  w : Nat
  sat : Bool
  deriving DecidableEq, Repr

/-- R173, R174: what calibration measured of one converter, and whether its sequence was completed. -/
structure CalResult where
  offset : Int
  a : Int
  b : Int
  completed : Bool
  deriving DecidableEq, Repr

/-- R184–R186: what a channel's stable-level filters give at one filter clock: the new levels of A and B, or a pulse that
reverted before N samples. -/
inductive FbEvent where
  | levels (a b : Bool)
  | rejectedPulse
  deriving DecidableEq, Repr

/-- R201–R205: one SENT frame as it was timed: the time of its first falling edge, the length of its calibration pulse in
10 ns counts, the lengths in ticks of its status, data and CRC nibbles and of its pause pulse, and a slow message that it
completed: its ID, its data and whether its CRC holds. -/
structure SentFrame where
  start : Nat
  cal : Nat
  nibbles : List Nat
  pause : Option Nat
  deriving DecidableEq, Repr

/-- R360: a card message: type 1 issue, 2 renew, 3 pass, 4 release; for a pass the holder field names the successor, for
a release the expiry field is the hand-over edge. -/
structure Card where
  type : Nat
  reason : Nat
  issuer : Nat
  holder : Nat
  number : Nat
  expiry : Nat
  deriving DecidableEq, Repr

/-- R368: one cell of a shadow record: its number, the values read from A to D, the state words before the execution and
the output. -/
structure ShadowCell where
  cell : Nat := 0
  a : Int := 0
  b : Int := 0
  c : Int := 0
  d : Int := 0
  s0 : Int := 0
  s1 : Int := 0
  y : Int := 0
  deriving DecidableEq, Repr, Inhabited

/-- R368: a shadow record: opening time of its tick, beat number, cells, and position and speed of the source in use of
each enabled axis. -/
structure ShadowRecord where
  time : Nat
  beat : Nat
  cells : List ShadowCell
  pairs : List (Int × Int)
  deriving DecidableEq, Repr

/-- R419: a lane announcement. -/
structure Announcement where
  unit : Nat
  func : Nat
  lane : Nat
  size : Nat
  ticks : Nat
  signature : Nat
  deriving DecidableEq, Repr

/-- R17, R377: one message of the request interface: whether its CRC-16 holds, its sequence byte, the outputs named by
the power-arm request, the EB_OUT release request, the set-point mirrors, and the LEAD_OUT request. -/
structure Request where
  chap : Nat
  good : Bool
  seq : BitVec 8
  arm : BitVec 26
  eb : Bool
  speed : Option Nat
  demand : Int
  autonomy : Int
  travel1 : Option Int
  travel2 : Option Int
  /-- the lease expiry that a holder's request carries (R361), and the cut-in permission with its rank (R354) -/
  lease : Option Nat := none
  permission : Option Nat := none
  deriving DecidableEq, Repr

/-- R407, R417, R418, R421: a Ralune frame as received: its start by the lane's own global time in 10 ns counts, its
identifier, its format, whether it is of a kind the T740 does not take (classical, remote or extended), the SEC bit and the
SDT of a CAN XL frame, and its payload, header included. -/
structure RxFrame where
  start : Nat
  id : BitVec 11
  fd : Bool
  foreign : Bool
  sec : Bool
  sdt : Byte
  payload : List Byte
  deriving DecidableEq, Repr

/-- R422, R423: a reference frame: its sender's address and its stamp at the ball in ns of the lane's own time, receive-path
delay compensated; then its content. -/
structure RefFrame where
  /-- accepted as the lane's own transmission; the header's network byte (R418) -/
  own : Bool := false
  net : Byte
  sender : Nat
  stamp : Nat
  time : Nat
  reel : Nat
  beat : Nat
  prio : Nat
  uplink : Bool
  free : Bool
  signature : Nat
  step : Option (Nat × Int)
  confirms : List Nat
  deriving DecidableEq, Repr

/-- R378, R385, R422: a reference frame that the chaperone observes on a port's receive line: at its own clock, with the global time
and the confirmations in it. -/
structure RefSeen where
  port : Fin 4
  chap : Nat
  time : Nat
  confirms : List Nat
  deriving DecidableEq, Repr

/-- R485, R489–R491: a read that found an error: memory, access (0 fetch, 1 data, 2 loop engine, 3 DMA, 4 scrub), whether the
application firmware made it, address, the data and the check bits as they were read, in flash the bits in error instead, DMA
channel and bytes remaining, the cell of a loop-engine read, the dictionary entry whose two flash copies both failed or of whose
copies one did, and the event slot whose page it is (R491, R503). -/
structure EccError where
  m : Fin 11
  access : Fin 5
  app : Bool
  addr : BitVec 32
  data : Quad
  check : Byte
  bits : BitVec 16
  channel : Fin 16
  left : BitVec 24
  cell : Fin 256
  lost : Option Nat
  copy : Option Nat := none
  page : Option (Fin 8 × Nat) := none
  deriving DecidableEq, Repr

/-- R491: a DMA descriptor: source, destination, and a count of 64-bit words. -/
structure Descriptor where
  source : BitVec 32
  destination : BitVec 32
  words : BitVec 21
  deriving DecidableEq, Repr

/-- R64, R68: the two reads of the straps under the pull-ups and the two under the pull-downs, in the layout of R69, and the
always-on tick count at step 6. -/
structure StrapReads where
  up1 : BitVec 24
  up2 : BitVec 24
  down1 : BitVec 24
  down2 : BitVec 24
  done : Nat
  deriving DecidableEq, Repr

/-- R85, R94: when a wake source was recognised: the always-on tick count, the step of the entry under way, and the global
time; and what the straps read at a PARKED exit, in the first sequence and in the one after a restart (R64). -/
structure WakeAt where
  tick : Nat
  step : Fin 5
  now : Nat
  straps : StrapReads
  again : StrapReads
  deriving DecidableEq, Repr

/-- R206, R380: when a filtered hall code change came: the filter clock of the main die and the chaperone's own clock. -/
structure HallAt where
  clock : Nat
  chap : Nat
  /-- which filters the change has passed: the main die's HALL_FILTER, and the chaperone's own of 16 clocks (R206, R380) -/
  main : Bool := true
  own : Bool := true
  deriving DecidableEq, Repr
/-- R254: the leg whose bootstrap supply is too low, or is above its limit again. -/
structure BootLeg where
  leg : Fin 3
  back : Bool
  deriving DecidableEq, Repr
/-- R377: the EB_OUT ball voltage of a side-path message, in mV, and the chaperone's own clock at its arrival. -/
structure SideRead where
  ebMv : Nat
  chap : Nat
  deriving DecidableEq, Repr
/-- R380, R383: an axis and the chaperone's own clock at which it is judged. -/
structure AxisAt where
  axis : Fin 6
  chap : Nat
  deriving DecidableEq, Repr

/-- R92: a classical CAN frame as the cue decoder finds it. -/
structure CueFrame where
  extended : Bool
  id : BitVec 29
  dlc : Fin 9
  data : List Byte
  /-- received without error up to the end of its CRC delimiter -/
  good : Bool
  /-- a CAN FD or CAN XL frame -/
  foreign : Bool
  deriving DecidableEq, Repr

/-- R118–R124: how a phase of the shutdown self-test ended: passed, coverage A and B, the source ID of the first failing
block, duration in ms, junction temperature, and the units that failed phase 5 (memory and base address). -/
structure SstResult where
  passed : Bool
  covA : Byte
  covB : Byte
  src : BitVec 16
  ms : BitVec 16
  temp : Byte
  units : List (Fin 11 × BitVec 32)
  lin : List (List Int)
  deriving DecidableEq, Repr

/-- R103–R123: what a start finds on its way. -/
structure StartInput where
  /-- the keeper images of slots A and B verify (step 2) -/
  keeperA : Bool
  keeperB : Bool
  /-- the self-test record's CRC-32C holds (R101) -/
  record : Bool
  /-- the checkers that pass, in the order of R488, and the first miss as [15:8] pattern class and [7:0] bit (step 3) -/
  checkers : BitVec 14
  miss : BitVec 16
  /-- the first and the second copy of the retirement list can be read (step 4, R496) -/
  listA : Bool
  listB : Bool
  /-- the logic self-tests of a full start pass: the keeper pair, both application pairs, the loop engine (R105) -/
  keeperTest : Bool
  appTest : Bool
  loopTest : Bool
  /-- the application image of the active slot verifies, and the ROM profile's CRC holds (step 5, R389) -/
  app : Bool
  profile : Bool
  /-- phases 1, 2 and 5 pass when repeated (R123) -/
  repeat1 : Bool
  repeat2 : Bool
  repeat5 : Bool
  /-- the vehicle speed that the start forms is known and zero (R120, R123) -/
  standstill : Bool := true
  /-- the calibration runs of step 6, the second for the converters that failed -/
  cal1 : List CalResult
  cal2 : List CalResult
  /-- the references that settle at step 7, by their bits in REF_STATUS -/
  refs : BitVec 6
  /-- the chaperone's CRC-32C over the bank concerned where its array no longer reads as written (step 8, R387) -/
  bank : Option Word := none
  /-- µs from the trigger to step 8 -/
  micros : Nat
  deriving DecidableEq, Repr

/-- R471: a frame on the stream port: type, flags, sequence, offset, payload and CRC; whether it came whole, with no code
error in it, and the code errors met since the frame before; and, for the final frame of an image, whether the image verifies
(R108) and its release and security versions. -/
structure StreamFrame where
  type : Byte
  flags : Byte
  seq : BitVec 16
  offset : Word
  payload : List Byte
  crc : Word
  whole : Bool
  codeErrors : Nat
  verified : Bool
  version : BitVec 32
  secver : BitVec 16
  deriving DecidableEq, Repr

/-- R468, R483: of the TS2 sets received beside the credits: the skews found per lane, the protocol version and the role. -/
structure TsSeen where
  skew : BitVec 32
  version : Byte := 1
  role : Byte := 2
  deriving DecidableEq, Repr

/-- R407: the format of a sent frame: CAN FD, else CAN XL with these fields. -/
structure FrameFormat where
  fd : Bool
  sdt : Nat
  sec : Bool := false
  vcid : Nat := 0
  af : Nat := 0
  deriving DecidableEq, Repr

/-- What a lane sends or pulses. -/
inductive Emission where
  /-- R284: a STEPk pulse: the level STEPk goes to for it, and the level of DIRk -/
  | step (k : Nat) (pulse dir : Bool)
  /-- R364: a 2 µs pulse on LEAD_OUT, true high -/
  | leadPulse (high : Bool)
  /-- R367: a 300 ns test pulse on a gate of an axis: legs U, V, W high then low -/
  | gatePulse (axis gate : Nat)
  /-- R407, R417, R420: a frame put on a port: its format, its identifier and its payload -/
  | frame (port : Nat) (format : FrameFormat) (id : Nat) (payload : List Byte)
  /-- R471: a frame put on the stream port: type, flags, sequence, offset, payload and CRC -/
  | stream (type flags seq offset : Nat) (payload : List Byte) (crc : Nat)
  /-- R87: the PARKED notice on a port -/
  | parkedNotice (port : Nat)
  /-- R468: a CREDIT column for a class with its cumulative count -/
  | credit (cls count : Nat)
  /-- R492: the flash controller rewrites the block of a page -/
  | refresh (page : Nat)
  /-- R468, R469: IDLE columns; TS1 sets; TS2 sets with the credits advertised for both classes, the protocol version and the role -/
  | idle
  | ts1
  | ts2 (credits0 credits1 version role : Nat)
  deriving DecidableEq, Repr

/-- A command of the block: one constructor per row of the opcode table, under the row's mnemonic in lowerCamelCase. -/
inductive Instr where
  /-- R225. A tick edge opens a tick: units latch command nodes, nodes describing the ended tick are written and the pre-cell stages run. -/
  | tickEdge (cycles stalls failed : Nat)
  /-- R225. The cell window closes 2 µs before the next tick edge; trace sampling and trigger evaluation follow. -/
  | cellWindowClose
  /-- R27. A beat boundary in global time opens a beat, restarting the tick sequence and the per-beat work of every unit. -/
  | beatBoundary (sc : Vector Charge 16) (late : Bool)
  /-- R22. A trap or keeper decision restarts the application partition, disarming a lead first. -/
  | appPartitionRestart (cause : Fin 5)
  /-- R22. The reinitialised application firmware runs again and the lane rejoins as a follow. -/
  | appRestartComplete
  /-- R24. An uncorrectable keeper error, a keeper lockstep mismatch or CHAP_WDG makes the lane fail-silent. -/
  | keeperFault
  /-- R60. VCH leaves the chaperone reset band: every arm signal deasserts within 5 µs and SAFE_N is asserted. -/
  | chaperoneReset
  /-- R64. The chaperone leaves reset after VCH has been in band for the filter time, holds the main die in reset and samples the straps. -/
  | chaperoneResetRelease (first again : StrapReads) (tick : Nat)
  /-- R67. Every 10 ms the chaperone reads the straps without pulls, and two differing reads in a row are STRAP_PARITY. -/
  | strapServiceRead (word : BitVec 24)
  /-- R18. The chaperone's clock fails and every arm signal deasserts within 5 µs. -/
  | chapClockFail
  /-- R60. A supply falls below its under-voltage level for the filter time, raising SUPPLY_UV and any hardware action. -/
  | supplyUndervoltage (k : Fin 5) (action : Bool) (tick : Nat)
  /-- R60. A supply rises above its over-voltage level for the filter time, raising SUPPLY_OV or VACT_OV. -/
  | supplyOvervoltage (k : Fin 5)
  /-- R60. A supply crosses back past its recovery level and its flag clears. -/
  | supplyRecovery (k : Fin 5) (level : Fin 3)
  /-- R97. VBAT falls below its brown-out level, resetting the main die and the measurement die apart from the always-on domain. -/
  | brownOut (tick : Nat)
  /-- R55. A recognised low on RST_N resets the main die, and the chaperone disarms and drops LEAD_OUT. -/
  | pinReset (width : Nat) (taken : Bool) (tick : Nat)
  /-- R56. A boundary-scan instruction is selected; with EXTEST or INTEST the chaperone holds every arm signal deasserted. -/
  | boundaryScanInstruction (extOrInt trst : Bool)
  /-- R54. The HOLD net readback changes and the HOLD vote is re-evaluated. -/
  | holdReadbackChange (level : Bool)
  /-- R353. A filtered peer interlock line changes; an assertion seen while armed disarms the lane within 1 µs. -/
  | peerLeadInChange (p : Fin 2) (level : Bool) (now : Nat)
  /-- R74. A clock deviates beyond its limit for 100 µs and CLOCK_FAIL is raised. -/
  | clockDeviation (q : Fin 5) (ppm : Int)
  /-- R74. The timebase has not started 5 ms after being enabled, raising CLOCK_FAIL. -/
  | timebaseStartTimeout
  /-- R77. A client's vote mask changes and the closed vote set and target state are recomputed. -/
  | voteChange (client : Fin 5) (mask : BitVec 5)
  /-- R78. A withdrawn domain's hold-off expires and the domain drops once the domains that need it have dropped. -/
  | holdoffExpiry (d : Fin 4)
  /-- R84. A rising domain reports power-good, which commits its rise. -/
  | domainPowerGood (d : Fin 4)
  /-- R86. The PLLs and timebase oscillator stop and PD_MAIN goes to keep level. -/
  | dozeCommit
  /-- R87. PD_POWER, PD_MEAS, PD_DRAM and PD_MAIN switch off in that order. -/
  | parkedCommit
  /-- R84. DOZE_MAX expires in DOZE and the keep level is removed, moving the lane to PARKED. -/
  | dozeMaxExpiry
  /-- R81. The keeper's linger vote of 0x07 ends after WAKE_LINGER. -/
  | wakeLingerExpiry
  /-- R76. No valid frame for PORT_ACT_REELS reels withdraws a port's activity vote. -/
  | portActivityLapse (p : Fin 4)
  /-- R76. No partner vote for 2 reels withdraws that partner's vote. -/
  | partnerVoteLapse (p : Fin 2)
  /-- R93. KEY changes after its filter: in DOZE, PARKED or an entry a rising edge wakes the lane, otherwise it acts as a vote. -/
  | keyChange (level : Bool) (w : WakeAt)
  /-- R93. A filtered WAKE edge of the configured polarity wakes the lane. -/
  | wakePinEdge (rising : Bool) (w : WakeAt)
  /-- R92. The cue decoder receives a frame and wakes the lane on a match; 32 decoding errors also wake it. -/
  | cueFrame (p : Fin 2) (f : CueFrame) (w : WakeAt)
  /-- R91. The ISO 11898-2 wake-up pattern completes on port A or B. -/
  | wakeUpPattern (p : Fin 2) (w : WakeAt)
  /-- R91. A dominant phase of at least 1.0 µs on port A or B wakes the lane in mode 1. -/
  | dominantActivity (p : Fin 2) (width : Nat) (taken : Bool) (w : WakeAt)
  /-- R93. The always-on timer reaches TIMER_WAKE ticks after the commit point and wakes the lane. -/
  | aonTimerWake (w : WakeAt)
  /-- R93. A toggling SRX_CK in DOZE wakes the lane when STREAM_WAKE is set. -/
  | streamSignalDetect (w : WakeAt)
  /-- R88. VBAT becomes present after a PARKED wake, and the start sequence begins. -/
  | vbatArrival (tick : Nat)
  /-- R88. VBAT is still absent 2 s after a PARKED wake; HOLD is released and the lane returns to PARKED. -/
  | vbatWaitTimeout
  /-- R103. The lane starts from its trigger through the numbered start steps to hand-over to interlock mode. -/
  | startSequence (x : StartInput)
  /-- R112. The background initialisation of the shared SRAM remainder and trace SRAM completes, and recorder streaming starts. -/
  | backgroundInitDone
  /-- R106. START_PARTNER_WAIT runs out at step 10 and the lanes present settle leadership. -/
  | startPartnerWaitExpiry
  /-- R363. With no issue seen 10 ms later, the next eligible lane issues the card. -/
  | startCardRetry (now : Nat)
  /-- R99. The signature is not presented within START_LIMIT and the chaperone forces a main-die reset. -/
  | startSupervisionTimeout (tick : Nat)
  /-- R99. A fail-silent lane has stayed so for RECOVERY_DELAY, and the chaperone forces a recovery reset while the count allows. -/
  | recoveryDelayExpiry (tick : Nat)
  /-- R100. RESET_REQUEST written with 0x5A makes a keeper lane reset. -/
  | resetRequest (w : Writer)
  /-- R111. Writing SLOT_PREFERRED to a loaded inactive slot marks it trial for the next start. -/
  | slotPreferredWrite (w : Writer) (slot : Byte)
  /-- R111. 0xA5 written to SLOT_CONFIRM confirms the trial slot and advances FUSE_SECVER. -/
  | slotConfirm (w : Writer)
  /-- R115. A write to a stored or sealed object is committed to flash within 100 ms. -/
  | storedWriteCommit (key : BitVec 24)
  /-- R118. A shutdown self-test phase ends, its entry is committed and the next phase starts. -/
  | sstPhaseEnd (r : SstResult)
  /-- R141. A READ_INIT request opens a read and returns the total length and first data. -/
  | readInit (p : Pdu)
  /-- R141. A READ_SEG request returns data from the named offset. -/
  | readSeg (p : Pdu)
  /-- R143. A WRITE_INIT request opens a write with its total length and first data. -/
  | writeInit (p : Pdu)
  /-- R143. A WRITE_SEG request carries further write data, applied whole when the last byte arrives. -/
  | writeSeg (p : Pdu)
  /-- R141. A client's ABORT ends its transfer. -/
  | abort (p : Pdu)
  /-- R141. A request with an unknown or unavailable service code is answered by ABORT 0x0501_0004. -/
  | unknownService (p : Pdu)
  /-- R551. A completed write to an entry with no behaviour of its own is judged and applied or rejected. -/
  | registerWrite (w : Writer) (key : BitVec 24) (bytes : List Byte)
  /-- R148. A write to a sealed entry in a COMMISSION session is staged and SIG_STATE becomes 3. -/
  | sealedEntryWrite (w : Writer) (key : BitVec 24) (bytes : List Byte)
  /-- R149. SIG_CONFIRM is compared with SIG_COMPUTED and the staged set is checked and written to flash and the chaperone. -/
  | sigConfirm (w : Writer) (crc : Word)
  /-- R139. A session key is written in a COMMISSION session, or returned to unprovisioned with 16 zero bytes. -/
  | keyEntryWrite (w : Writer) (k : Fin 3) (bytes : List Byte)
  /-- R143. A transfer without a request for SEG_TIMEOUT is aborted with 0x0501_0002. -/
  | segTimeout (c : Client) (tag : Byte)
  /-- R137. A SESSION_OPEN request is answered with a lane nonce, or rejected under lockout, ownership or an unprovisioned key. -/
  | sessionOpen (p : Pdu) (code : Byte) (nonce : BitVec 128)
  /-- R137. A SESSION_RESPONSE is verified, opening the session or counting an authentication failure. -/
  | sessionResponse (p : Pdu) (mac : BitVec 256)
  /-- R141. A SESSION_CLOSE request closes the owner's session. -/
  | sessionClose (p : Pdu)
  /-- R135. No request from the owner for SESSION_IDLE seconds closes the session. -/
  | sessionIdleExpiry
  /-- R135. No frame from a Ralune owner for 3 reels closes the session. -/
  | sessionOwnerSilence
  /-- R137. An outstanding challenge with no response within 2 s lapses. -/
  | challengeLapse
  /-- R138. The authentication lockout time runs out. -/
  | lockoutExpiry
  /-- R159. IC_BLANK after gate sensing reports the low side on, an IC leg starts integrating. -/
  | icIntegrationStart (n : Fin 18)
  /-- R160. An IC leg stops integrating; residue, raw value, correction and reconstruction follow and the nodes are written. -/
  | icIntegrationEnd (n : Fin 18) (c : Charge)
  /-- R164. After 16 disarmed ticks a leg's average is checked against SHUNT_OFFSET_LIMIT. -/
  | shuntOffsetAverage (n : Fin 18)
  /-- R168. A scan row's settle time ends and its window starts at once or at the next tick edge. -/
  | gcSettleEnd (g : Fin 4)
  /-- R168. A GC window ends, its result is formed and the next row begins. -/
  | gcWindowEnd (g : Fin 4) (c : Charge)
  /-- R171. A reference has been stable for 4 consecutive 1 ms intervals and REF_SETTLED sets. -/
  | refSettledSet (r : Ref)
  /-- R171. A reference's condition fails, REF_SETTLED clears and ADC_REF_UNSETTLED is raised. -/
  | refSettledClear (r : Ref)
  /-- R107. A reference has not settled within 20 ms at step 7, raising ADC_REF_UNSETTLED. -/
  | refSettleTimeout (r : Ref)
  /-- R173. 0xC5 written to CAL_START starts self-calibration unless an output is armed. -/
  | calStart (w : Writer)
  /-- R174. A 24 ms calibration run ends and factors are written; failing converters recalibrate once. -/
  | calibrationComplete (res : List CalResult)
  /-- R180. A sensor supply goes into current limit or leaves its band for 1 ms and switches off. -/
  | supFault (k : Fin 4) (high : Bool)
  /-- R181. After 10 ms off a faulted sensor supply retries, latching off after SUP_RETRIES failures. -/
  | supRetry (k : Fin 4) (ok : Bool)
  /-- R181. 0x5A written to SUP_RESTART restarts latched-off sensor supplies. -/
  | supRestart (w : Writer)
  /-- R185. A filtered FB input edge counts by the channel's class and mode. -/
  | fbInputEdge (n : Fin 12) (e : FbEvent) (clock : Nat)
  /-- R189. The firmware's extension read returns the counter and accumulator and clears the accumulator. -/
  | extensionRead (n : Fin 12)
  /-- R190. A write of FB_EXT_REBASE sets FB_EXT_POSITION, clears the accumulator and sets EXT_VALID. -/
  | fbExtRebase (w : Writer) (n : Fin 12) (v : BitVec 64)
  /-- R191. Z is asserted in the gated state, setting the reference or checking for a slip. -/
  | indexEvent (n : Fin 12) (clock : Nat)
  /-- R194. Writing 0 to SLIP_COUNT clears it and the sticky INDEX_SLIP bit. -/
  | slipCountClear (w : Writer) (n : Fin 12)
  /-- R195. A write of FB_COUNTER presets the counter and rebases FB_EXT_POSITION without a crossing. -/
  | fbCounterPreset (w : Writer) (n : Fin 12) (v : Word)
  /-- R216. A write of FB_CLASS clears REF_VALID and disarms every compare unit of the channel. -/
  | fbClassWrite (w : Writer) (n : Fin 12) (v : Byte)
  /-- R192. A write of INDEX_CPR makes the next index event the new reference. -/
  | indexCprWrite (w : Writer) (n : Fin 12) (v : Word)
  /-- R199. An edge at a LATCHk ball is filtered and captured by each latch that selects it. -/
  | latchInputEdge (k : Fin 4) (rising : Bool) (time : Nat)
  /-- R197. 0x4C written to LATCH_COMMAND triggers a capture. -/
  | latchCommandLatch (w : Writer) (n : Fin 12)
  /-- R198. 0x41 written to LATCH_COMMAND re-arms a one-shot latch. -/
  | latchRearm (w : Writer) (n : Fin 12)
  /-- R204. A SENT frame is received and checked; accepted values are written after the next tick edge. -/
  | sentFrame (n : Fin 8) (f : SentFrame)
  /-- R203. No SENT frame passes for SN_TIMEOUT, setting TIMEOUT and raising SENT_TIMEOUT. -/
  | sentTimeout (n : Fin 8) (micros : Nat)
  /-- R206. A filtered hall code change gives a sector and an edge angle. -/
  | hallEdge (a : Fin 6) (code : Fin 8) (clock : HallAt)
  /-- R206. An invalid hall code held for HALL_BAD_TICKS tick edges raises ANGLE_DISAGREE with qualifier 0x3. -/
  | hallInvalidCode (a : Fin 6)
  /-- R211. No SENT sample for OB_COAST_MAX sets COAST, and LOST follows if it persists. -/
  | observerCoast (o : Fin 12)
  /-- R211. 0x49 written to OB_COMMAND reinitialises the observer. -/
  | obCommand (w : Writer) (o : Fin 12)
  /-- R237. A write to CELL_STATE0 or CELL_STATE1 is applied at the cell's next execution. -/
  | cellStateWrite (w : Writer) (n : Fin 256) (second : Bool) (v : Word)
  /-- R248. Writing 0 to CELL_STATUS clears its sticky bits. -/
  | cellStatusClear (w : Writer) (n : Fin 256)
  /-- R247. Writing 0 to LOOP_LOAD_PEAK restarts it. -/
  | loopLoadPeakClear (w : Writer)
  /-- R245. TRACE_COMMAND 0x41 restarts the capture rings and arms the trigger. -/
  | traceArm (w : Writer)
  /-- R245. TRACE_COMMAND 0x54 triggers the capture. -/
  | traceForceTrigger (w : Writer)
  /-- R245. TRACE_COMMAND 0x53 freezes the capture at once. -/
  | traceFreeze (w : Writer)
  /-- R254. A bootstrap below 8.0 V holds its high-side gate off and raises GATE_FAULT qualifier 0x2. -/
  | bootstrapUndervoltage (n : Fin 6) (leg : BootLeg)
  /-- R257. A gate's sensed state differs from its command for AX_GATE_TIMEOUT, raising GATE_FAULT qualifier 0x1. -/
  | gateStateMismatch (n : Fin 6) (leg : Fin 3) (high on : Bool)
  /-- R258. A conducting switch desaturates after blanking and raises AXIS_OVERCURRENT. -/
  | desatTrip (n : Fin 6) (leg : Fin 3) (high : Bool)
  /-- R258. A shunt voltage exceeds AX_OC_TRIP and raises AXIS_OVERCURRENT qualifier 0x1. -/
  | shuntOcTrip (n : Fin 6) (leg : Fin 3)
  /-- R265. The current-vector speed has stayed below 0.9 × AX_ASC_SPEED for 10 ms and the axis goes to DISARMED. -/
  | ascExit (n : Fin 6)
  /-- R267. The chaperone asserts an output's arm signal, which takes effect at the next tick edge. -/
  | armGrant (bit : Fin 26)
  /-- R261. The chaperone deasserts an armed output's arm signal and the output turns off at once. -/
  | armWithdraw (bit : Fin 26)
  /-- R276. An open-circuit back-EMF comparator crosses and captures θe. -/
  | emfComparatorCrossing (n : Fin 6) (thresh : Bool) (clock : Nat)
  /-- R277. 0x52 written to AX_IDENTIFY adds a d demand to measure winding resistance. -/
  | axIdentify (w : Writer) (n : Fin 6)
  /-- R277. After 300 ms AX_R_MEAS is set and checked against AX_R_WINDING. -/
  | axIdentifyComplete (n : Fin 6)
  /-- R277. Every 10 h of armed operation a row is appended to AX_KE_TREND. -/
  | keTrendAppend (n : Fin 6)
  /-- R274. VACT crosses a link-guard level and the regenerative allowance and REGEN_CUT change. -/
  | linkGuardCrossing (mv : Nat)
  /-- R275. DUMP has been on for DUMP_MAX_ON, is forced off for the same time and raises VACT_OV 0x2. -/
  | dumpMaxOnExpiry
  /-- R282. A carry or borrow of a generator's accumulator issues one step. -/
  | generatorStep (m : Fin 12)
  /-- R287. 0x47 written to MX_COMMAND makes a move pending for its start edge. -/
  | mxGo (w : Writer) (m : Fin 12)
  /-- R290. 0x53 written to MX_COMMAND ramps the generator to rest from the next tick edge. -/
  | mxStop (w : Writer) (m : Fin 12)
  /-- R297. A write of MX_MODE at rest sets the mode, with 3 engaging gearing at the next tick edge. -/
  | mxModeWrite (w : Writer) (m : Fin 12) (v : Byte)
  /-- R299. A write of GEAR_TABLE_REQUEST different from the active table sets SWITCH_PENDING. -/
  | gearTableRequestWrite (w : Writer) (m : Fin 12) (v : Byte)
  /-- R299. With the master in both centre segments, the pending table becomes active and the shift keeps T. -/
  | gearTableSwitch (m : Fin 12)
  /-- R302. A write of CMPu_POSITION with enable set arms the compare unit. -/
  | cmpPositionWrite (w : Writer) (n : Fin 12) (u : Fin 4) (v : Word)
  /-- R302. A write of CMPu_CONTROL setting its enable arms the unit with its direction. -/
  | cmpControlWrite (w : Writer) (n : Fin 12) (u : Fin 4) (v : Byte)
  /-- R315. A coil current reaches its reference after blanking and the off-time starts with fast decay. -/
  | chopperCurrentReached (k : Fin 4) (c : Fin 2)
  /-- R315. An on phase reaches VS_TON_MAX and the off-time starts. -/
  | chopperTonMax (k : Fin 4) (c : Fin 2)
  /-- R315. Fast decay ends and slow decay runs, with stall sampling. -/
  | fastDecayEnd (k : Fin 4) (c : Fin 2) (i : Int)
  /-- R315. VS_TOFF ends and the next on phase begins. -/
  | chopperOfftimeEnd (k : Fin 4) (c : Fin 2) (i : Int)
  /-- R319. A stepper switch trips at 3.0 A; the channel switches off, latches SHORTED and raises VALVE_SHORT. -/
  | vsOvercurrent (k : Fin 4) (c : Fin 2) (qual : Fin 3)
  /-- R319. 0x52 written to VS_COMMAND clears SHORTED. -/
  | vsClearShort (w : Writer) (k : Fin 4)
  /-- R322. Solenoid switch current exceeds c + b at least 2 µs after turn-on and the switch turns off. -/
  | solUpperCrossing (m : Fin 16) (i : Nat)
  /-- R322. Every SOL_PROBE µs an off switch is turned on for a 300 ns probe. -/
  | solProbe (m : Fin 16)
  /-- R322. At the end of a probe the switch stays on if the current is at or below the lower threshold. -/
  | solProbeEnd (m : Fin 16) (i : Nat)
  /-- R321. Pull-in ends after SOL_PULLIN_TIME, or after SOL_PULLIN_MIN at governor level 2. -/
  | pullinEnd (m : Fin 16)
  /-- R324. A solenoid switch exceeds 3.5 A, is latched off and raises VALVE_SHORT 0x1. -/
  | solOvercurrent (m : Fin 16) (mv : Nat)
  /-- R324. An off switch's ball stays above 6.0 V for SOL_DIAG_FILTER, latching off and raising VALVE_SHORT 0x2. -/
  | solShortToSupply (m : Fin 16) (mv : Nat)
  /-- R324. A switch on for SOL_OPEN_TIME without reaching c + b latches off with VALVE_OPEN_LOAD 0x1. -/
  | solOpenLoadOn (m : Fin 16)
  /-- R324. The diagnostic source lifts an off ball into the open-load band for SOL_DIAG_FILTER and VALVE_OPEN_LOAD 0x2 is reported. -/
  | solOpenLoadOff (m : Fin 16) (mv : Nat)
  /-- R324. 0x52 written to SOL_COMMAND clears the latched solenoid faults. -/
  | solClearFaults (w : Writer) (m : Fin 16)
  /-- R337. Pedal sensors disagree beyond PEDAL_TOL for PEDAL_DIS_TIME and the greater travel is used. -/
  | pedalDisagreeTimeout
  /-- R354. Both peer lines have been deasserted for 8 µs with cut-in permission, starting the rank delay. -/
  | peerLinesQuiet
  /-- R354. The rank delay ends and the follow asserts LEAD_OUT if the lines are still quiet. -/
  | rankDelayExpiry
  /-- R354. An 8 µs re-check of the peer lines ends, granting arm or yielding to a lower lane number. -/
  | leadRecheckEnd
  /-- R356. 0x47 written to LEAD_REQUEST makes the lead give up lead with qualifier 0x5. -/
  | leadRequestGiveUp (w : Writer)
  /-- R364. 0x54 written to LEAD_REQUEST makes the lead run the line test at once. -/
  | leadRequestLineTest (w : Writer)
  /-- R361. A card issue from a matched partner is accepted or rejected by number and guard. -/
  | cardIssueMessage (p : Fin 2) (m : Card) (now : Nat)
  /-- R361. A card renewal extends the lease expiry. -/
  | cardRenewMessage (p : Fin 2) (m : Card)
  /-- R361. A card pass ends the lease and names the successor. -/
  | cardPassMessage (p : Fin 2) (m : Card)
  /-- R361. A card release names the hand-over edge H at which card mode ends. -/
  | cardReleaseMessage (p : Fin 2) (m : Card)
  /-- R361. Every CARD_RENEW the holder renews its card. -/
  | cardRenewTimer (now : Nat)
  /-- R361. The lease expires unrenewed; the chaperone disarms and the holder raises CARD_LEASE_LOST and gives up lead. -/
  | cardLeaseExpiry
  /-- R361. At H card mode ends, lease enforcement stops and follows regain cut-in permission. -/
  | cardHandoverEdge
  /-- R362. At expiry plus 2 ms plus the rank delay, the eligible follow issues the next card. -/
  | cardSuccessionIssue (now : Nat)
  /-- R364. At T + k ms lane k drives its 2 µs LEAD_OUT pulse and partners record it. -/
  | lineTestPulse (k : Fin 4) (seen : Bool)
  /-- R364. At T + 4 ms the holder evaluates the observations and releases the card. -/
  | lineTestEvaluate (now : Nat)
  /-- R364. LINE_TEST_PERIOD after the last test the lead runs a line test with reason 1. -/
  | lineTestPeriodExpiry (now : Nat)
  /-- R366. A lane announcement on port C is matched and starts a recovery. -/
  | laneAnnouncement (p : Fin 2) (a : Announcement)
  /-- R368. A follow re-executes the recorded cells, compares them bit for bit and adopts their states on a pass. -/
  | shadowRecord (r : ShadowRecord)
  /-- R370. A partner's health block is received with its health word, vote and line-test observations. -/
  | healthBlock (p : Fin 2) (word : Word) (votes obs : Byte)
  /-- R372. A partner's health word is missing for PEER_TIMEOUT beats and PEER_LOST is raised. -/
  | peerWordsTimeout (p : Fin 2)
  /-- R377. The chaperone takes a request-interface message, discarding it with CHAP_WDG 0x4 if bad. -/
  | chapRequest (r : Request)
  /-- R377. The chaperone takes a side-path message; three bad or missing raise CHAP_ENVELOPE 0x5. -/
  | sidePathMessage (good : Bool) (ebMv : SideRead)
  /-- R383. A road-wheel rate above the permitted rate for CH_RATE_TIME raises CHAP_ENVELOPE 0x2. -/
  | steerRateTimeout (n : AxisAt)
  /-- R384. Over- or under-braking for BRAKE_TIME raises CHAP_ENVELOPE 0x3 or 0x4. -/
  | brakeEnvelopeTimeout (high : Bool)
  /-- R378. The chaperone observes a reference frame and corrects its time in phase. -/
  | chapReferenceObserved (r : RefSeen)
  /-- R385. GUARD_COAST reels without a reference set TIME_COAST and close the exclusive and spare windows. -/
  | guardCoastExpiry
  /-- R386. A transmission starting outside an open interval is held recessive with CHAP_GUARDIAN 0x1. -/
  | guardianBlock (port : Fin 4) (window : BitVec 8)
  /-- R386. A transmission still running at an interval's close is cut with CHAP_GUARDIAN 0x2. -/
  | guardianCut (port : Fin 4) (window : BitVec 8)
  /-- R388. Every 2 s the chaperone recomputes its active bank CRC, raising CHAP_CONFIG_SIG 0x2 on a difference. -/
  | chapConfigRecheck (found : Word)
  /-- R381. A watchdog period starts with a new challenge. -/
  | wdgPeriodStart
  /-- R381. The keeper's watchdog answer is judged for timing and value. -/
  | wdgAnswer (answer : Word) (micros : Nat) (eb : Bool)
  /-- R381. The answer window closes without an answer, adding an error and possibly raising CHAP_WDG. -/
  | wdgWindowClose
  /-- R380. The chaperone withdraws an ASC grant after 10 ms of low hall speed or ASC_MAX of invalid code. -/
  | ascGrantWithdraw (n : AxisAt)
  /-- R391. In SILENT a partner's LEAD_OUT asserted for 10 ms turns EB_OUT off. -/
  | ebSilentRelease
  /-- R393. LADDER_WALTZ_DELAY ends at level LAST WALTZ and LAST_WALTZ 0x2 is raised. -/
  | ladderWaltzDelayExpiry
  /-- R394. Level below 2 and zero speed for 1 s clear the speed-cap and stop requests. -/
  | ladderRequestClear
  /-- R395. All lines deasserted and the EB node released for WALTZ_WAIT make the chaperone enter the last waltz. -/
  | waltzWaitExpiry (now : Nat)
  /-- R397. After the lane's waltz delay the chaperone asserts LEAD_OUT if the lines are quiet. -/
  | waltzRankDelay
  /-- R397. The waltz re-check of the peer lines decides the holder. -/
  | waltzRecheck
  /-- R397. WALTZ_HOLD ends and the holder turns all gates off. -/
  | waltzHoldEnd
  /-- R400. Every 2 ms the EB_OUT duty is recomputed on the ramp. -/
  | ebRampPeriod (now : Nat)
  /-- R397. EB_RAMP after entry EB_OUT turns off. -/
  | ebRampEnd
  /-- R420. 20 µs before a window starts the content of its frame is latched. -/
  | frameLatch (p : Fin 4) (w : Fin 24) (now : Nat)
  /-- R420. At a window start the owner sends its frame or a null frame, or contends in an arbitrating window. -/
  | windowTransmit (p : Fin 4) (w : Fin 24) (now : Nat)
  /-- R421. A Ralune frame is received and accepted or rejected by window, sender and type. -/
  | raluneFrameReceived (p : Fin 4) (f : RxFrame) (now : Nat)
  /-- R423. A reference frame is stamped and the offset and rate correction are formed. -/
  | referenceFrame (p : Fin 4) (f : RefFrame)
  /-- R425. No reference on A or B for SYNC_TIMEOUT beats raises RALUNE_SYNC_LOST. -/
  | syncTimeout
  /-- R409. A port ceases to be up and raises RALUNE_PORT_DOWN. -/
  | portDown (p : Fin 4) (qual : Fin 5) (elapsed : Nat)
  /-- R429. Two reels of silence on a port start the cold-start delay of a candidate. -/
  | coldStartSilence (p : Fin 4)
  /-- R429. The cold-start delay ends and the first reference frame is sent at the next beat boundary. -/
  | coldStartDelay (p : Fin 4)
  /-- R430. Two equal-priority references collide; the candidate backs off and is barred after three. -/
  | referenceCollision (p : Fin 4) (now : Nat)
  /-- R431. At the announced step reel the global-time step is applied. -/
  | timeStepApply
  /-- R435. No frame from a claimant in its spare for 3 reels clears the confirmation. -/
  | spareSilence (p : Fin 4) (idx : Fin 32)
  /-- R458. A network announcement enters the node list of its port. -/
  | networkAnnouncement (p : Fin 4) (addr : BitVec 7) (content : BitVec 192) (now : Nat)
  /-- R458. Every ANNOUNCE_REPEAT reels the lane sends its network announcement. -/
  | announceRepeatTimer
  /-- R452. No valid message for AZ_TIMEOUT makes the consumer SAFE. -/
  | azsinTimeout (c : Fin 1024)
  /-- R453. 0x52 written to AZ_COMMAND permits a SAFE connection to return to RUN. -/
  | azCommandRecover (w : Writer) (c : Fin 1024)
  /-- R460. A forwarded message waiting ROUTE_MAX_WAIT beats is dropped. -/
  | routeWaitExpiry
  /-- R469. A toggling SRX_CK starts stream-port training. -/
  | streamClockDetect
  /-- R469. Received training sets advance training until the link comes up. -/
  | streamTsReceived (credits0 credits1 : BitVec 16) (ts : TsSeen) (micros : BitVec 32)
  /-- R469. Training not complete in 2 ms sends IDLE for 10 ms before retrying. -/
  | streamTrainingTimeout (lanes : BitVec 4)
  /-- R469. The 10 ms idle after failed training ends and training restarts. -/
  | streamIdleEnd
  /-- R470. Clock loss, code errors, misalignment or a TS set takes the link down. -/
  | streamLinkLoss (qual : Fin 6) (lanes : BitVec 4) (errors : Nat)
  /-- R473. A stream frame is received, checked and passed to its type's handler. -/
  | streamFrameReceived (f : StreamFrame) (now : Nat)
  /-- R478. An image load left 2 s without frames is discarded with the slot invalid. -/
  | imageLoadIdle
  /-- R475. A CREDIT column returns cumulative credits of a class. -/
  | creditColumn (cls : Fin 2) (count : BitVec 16)
  /-- R474. The free transmitter starts the first waiting frame whose credits are available. -/
  | streamFrameSend (now : Nat)
  /-- R475. A frame waiting without credits for STREAM_CREDIT_TIMEOUT raises STREAM_CREDIT_TIMEOUT. -/
  | streamCreditTimeout (cls : Fin 2)
  /-- R470. A write of STREAM_ENABLE enables the port or takes the link down without a fault. -/
  | streamEnableWrite (w : Writer) (on : Bool)
  /-- R489. A read finds an ECC error, handled by its access type and logged. -/
  | eccError (e : EccError)
  /-- R495. The retired unit has been copied to its spare and the remap is switched. -/
  | remapCopyDone (m : Fin 11) (base : BitVec 32)
  /-- R495. The retirement entry is committed to both list copies and PAGE_RETIRED is raised. -/
  | retirementCommit (m : Fin 11) (base : BitVec 32)
  /-- R494. A watch-list entry older than 86,400 s of operation is dropped. -/
  | watchEntryAgeOut (m : Fin 11) (word : BitVec 32)
  /-- R493. A scrub lap ends and SCRUB_LAP_LAST and SCRUB_LAP_WORST update. -/
  | scrubLapEnd (m : Fin 11) (ms : BitVec 32)
  /-- R493. A lap running past SCRUB_LAP_LIMIT raises SCRUB_SLOW once. -/
  | scrubLapLimitExpiry (m : Fin 11)
  /-- R491. A new descriptor starts a DMA channel, completing at once with count 0. -/
  | dmaDescriptorWrite (ch : Fin 16) (d : Descriptor)
  /-- R491. A DMA transfer completes or halts on an uncorrectable read. -/
  | dmaComplete (ch : Fin 16)
  /-- R499. 0x54 written to RECORD_COMMAND triggers a recorder event. -/
  | recordTriggerCommand (w : Writer)
  /-- R502. 0x45 written to RECORD_COMMAND erases every unprotected slot. -/
  | recordErase (w : Writer)
  /-- R505. A slot number written to RECORD_DOWNLOAD starts a download over the stream port. -/
  | recordDownload (w : Writer) (slot : Byte)
  /-- R501. A recorder page is written to flash once its rows are recorded. -/
  | commitPageWrite (bad : Option EccError)
  /-- R501. The post interval of an event ends and its last page and trailer are written. -/
  | recordPostEnd
  /-- R501. The trailer is written and the event's status becomes complete. -/
  | commitTrailerDone
  /-- R501. The background erase of the next slot completes and a pending event starts. -/
  | slotEraseDone
  /-- R518. The collector takes a fault message from its queue and opens or updates its row. -/
  | faultMessage
  /-- R516. A source's wired CRITICAL line starts the CRITICAL reaction within 100 ns. -/
  | criticalLine
  /-- R520. An unacknowledged MAJOR timer expires and the row escalates to CRITICAL. -/
  | faultReactExpiry (src : BitVec 10) (kind : Byte)
  /-- R520. The keeper acknowledges a MAJOR row, stopping its timer if the sequence is current. -/
  | faultAcknowledge (src : BitVec 10) (kind seq : Byte)
  /-- R521. Firmware or keeper clears a MINOR or acknowledged MAJOR row once its cause has gone. -/
  | faultRowClear (src : BitVec 10) (kind : Byte)
  /-- R521. A write of FAULT_CLEAR clears a MINOR row or an acknowledged MAJOR row whose cause has gone. -/
  | faultClearWrite (w : Writer) (v : Word)
  /-- R526. Pending log entries are committed from the SRAM ring to flash. -/
  | faultLogCommit
  /-- R542. Every 1 ms the governor reads the power-die sensors and sets its level. -/
  | governorSample (t1 t2 : BitVec 16)
  /-- R544. 160 °C at a power-die sensor switches off every stepper bridge and solenoid switch and raises THERMAL_LIMIT 0x3. -/
  | stageShutdown (t : BitVec 16)
  /-- R547. Writing 0 to TJ_POWER_PEAK restarts it from the present reading. -/
  | tjPowerPeakClear (w : Writer)
  /-- R508. Every hour OPERATING_SECONDS and the governor times are committed. -/
  | hourlyCommit
  /-- R97. PD_AON is powered after VBAT and VKA were both absent, keep RAM is lost, the wake record restarts with code 0x00 and a full start follows. -/
  | powerOn (first again : StrapReads)
  /-- R275. After DUMP has been forced off for DUMP_MAX_ON it may be driven again by the guard levels. -/
  | dumpForcedOffEnd
  /-- R399. WALTZ_TOFF after a shunt trip during the waltz hold the high side turns on again. -/
  | waltzToffEnd (n : Fin 6)
  /-- R284. A STEPk pulse ends after MX_STEP_PULSE and its equal low time elapses, releasing any step that waited for it. -/
  | stepPulseEnd (k : Fin 4)
  /-- R315. VS_BLANK after the start of an on phase the comparator is enabled, and if the coil current is already at its reference the off-time starts at once. -/
  | chopperBlankEnd (k : Fin 4) (c : Fin 2) (reached : Bool)
  /-- R322. 2 µs after a solenoid switch turns on, a current already above c + b turns it off. -/
  | solMinOnEnd (m : Fin 16) (i : Nat)
  /-- R324. A disarmed stepper coil tested by its diagnostic source reads in the open-load band for the filter time and VALVE_OPEN_LOAD 0x2 is reported for that coil. -/
  | vsOpenLoadOff (k : Fin 4) (c : Fin 2)
  /-- R409. A bus-off port completes ISO 11898-1 recovery and returns to error-active, clearing its bus-off status. -/
  | busOffRecovery (p : Fin 4)
  /-- R475. The stream-port receiver sends a CREDIT column within 1 µs of freeing credits and at least every 100 µs per class. -/
  | creditColumnSend (cls : Fin 2)
  /-- R474. 20 µs before each beat boundary the Azsin messages for the stream port are latched, to be queued at the boundary. -/
  | streamAzsinLatch (now : Nat)
  /-- R377. A side-path message expected at a tick edge does not arrive by the chaperone's own clock and counts toward CHAP_ENVELOPE 0x5. -/
  | sidePathMissing
  /-- R420. A Ralune frame ends on the bus, and the next queued frame of an arbitrating window is started or retried if its budget fits before E. -/
  | frameTransmitted (p : Fin 4) (w : Fin 24) (own : Bool) (now : Nat)
  deriving DecidableEq, Repr

end Sys2Proof
end

