-- ==== Sys2Proof/Decode.lean ====
section
/-!
DEFINITION. Decode.lean: the command a table word spells. The opcode table gives no row any bits: a command of this block is
not a word but an operation or event of a lane, so no word spells one.
-/
namespace Sys2Proof

/-- The command that `w`, of `nbits` bits, spells: none, since no row of the table gives bits. -/
def decodeTableWord (_nbits _w : Nat) : Option Instr := none

end Sys2Proof
end

