-- ==== Sys2Proof/Machine/Kinds.lean ====
section
/-!
DEFINITION. Machine/Kinds.lean: the fault kind codes of R513 under the manual's own names, the source IDs of R512, and the
codes of R77 and R376 that several chapters test.
-/
namespace Sys2Proof.Kind

/-- R513. -/
def SUPPLY_UV : Nat := 0x01
/-- R513. -/
def SUPPLY_OV : Nat := 0x02
/-- R513. -/
def VACT_OV : Nat := 0x03
/-- R513. -/
def THERMAL_WARN : Nat := 0x04
/-- R513. -/
def THERMAL_LIMIT : Nat := 0x05
/-- R513. -/
def CLOCK_FAIL : Nat := 0x06
/-- R513. -/
def ECC_CORR : Nat := 0x10
/-- R513. -/
def ECC_UNCORR_FETCH : Nat := 0x11
/-- R513. -/
def ECC_UNCORR_DATA : Nat := 0x12
/-- R513. -/
def ECC_UNCORR_DMA : Nat := 0x13
/-- R513. -/
def SCRUB_SLOW : Nat := 0x14
/-- R513. -/
def ECC_CHECKER_FAIL : Nat := 0x15
/-- R513. -/
def PAGE_RETIRED : Nat := 0x16
/-- R513. -/
def SPARE_EXHAUSTED : Nat := 0x17
/-- R513. -/
def ADC_REF_UNSETTLED : Nat := 0x20
/-- R513. -/
def ADC_CAL_FAIL : Nat := 0x21
/-- R513. -/
def ADC_RANGE : Nat := 0x22
/-- R513. -/
def SHUNT_OFFSET : Nat := 0x23
/-- R513. -/
def FB_FILTER_REJECT : Nat := 0x30
/-- R513. -/
def INDEX_SLIP : Nat := 0x31
/-- R513. -/
def COUNT_EXTEND_LATE : Nat := 0x32
/-- R513. -/
def SENT_CRC : Nat := 0x33
/-- R513. -/
def SENT_TIMEOUT : Nat := 0x34
/-- R513. -/
def OBS_LOST : Nat := 0x35
/-- R513. -/
def ANGLE_DISAGREE : Nat := 0x36
/-- R513. -/
def COMPARE_BEHIND : Nat := 0x37
/-- R513. -/
def LOOP_OVERRUN : Nat := 0x40
/-- R513. -/
def LOOP_WRAP : Nat := 0x41
/-- R513. -/
def TRACE_OVERFLOW : Nat := 0x42
/-- R513. -/
def AXIS_OVERCURRENT : Nat := 0x50
/-- R513. -/
def AXIS_I2T : Nat := 0x51
/-- R513. -/
def KE_LOW : Nat := 0x52
/-- R513. -/
def KE_MISMATCH : Nat := 0x53
/-- R513. -/
def GATE_FAULT : Nat := 0x54
/-- R513. -/
def FLYING_START_FAIL : Nat := 0x55
/-- R513. -/
def ASC_ENGAGED : Nat := 0x56
/-- R513. -/
def MOVE_REJECTED : Nat := 0x57
/-- R513. -/
def VALVE_OPEN_LOAD : Nat := 0x58
/-- R513. -/
def VALVE_SHORT : Nat := 0x59
/-- R513. -/
def STEPPER_STALL : Nat := 0x5A
/-- R513. -/
def BLEND_HVLINK_LIMIT : Nat := 0x60
/-- R513. -/
def BLEND_SLIP : Nat := 0x61
/-- R513. -/
def PEDAL_DISAGREE : Nat := 0x62
/-- R513. -/
def LEAD_GIVEN_UP : Nat := 0x70
/-- R513. -/
def CUT_IN : Nat := 0x71
/-- R513. -/
def INTERLOCK_TEST_FAIL : Nat := 0x72
/-- R513. -/
def CARD_LEASE_LOST : Nat := 0x73
/-- R513. -/
def HEALTH_LOW : Nat := 0x74
/-- R513. -/
def PEER_LOST : Nat := 0x75
/-- R513. -/
def CHAP_WDG : Nat := 0x80
/-- R513. -/
def CHAP_ENVELOPE : Nat := 0x81
/-- R513. -/
def CHAP_GUARDIAN : Nat := 0x82
/-- R513. -/
def CHAP_CONFIG_SIG : Nat := 0x83
/-- R513. -/
def LAST_WALTZ : Nat := 0x84
/-- R513. -/
def STRAP_PARITY : Nat := 0x85
/-- R513. -/
def RALUNE_SYNC_LOST : Nat := 0x90
/-- R513. -/
def RALUNE_TX_INHIBIT : Nat := 0x91
/-- R513. -/
def RALUNE_NULL : Nat := 0x92
/-- R513. -/
def RALUNE_CLAIM_FAIL : Nat := 0x93
/-- R513. -/
def RALUNE_DUP_ID : Nat := 0x94
/-- R513. -/
def RALUNE_PORT_DOWN : Nat := 0x95
/-- R513. -/
def AZSIN_SEQ : Nat := 0xA0
/-- R513. -/
def AZSIN_AGE : Nat := 0xA1
/-- R513. -/
def AZSIN_ID : Nat := 0xA2
/-- R513. -/
def AZSIN_CODE : Nat := 0xA3
/-- R513. -/
def AZSIN_TIMEOUT : Nat := 0xA4
/-- R513. -/
def STREAM_LINK_DOWN : Nat := 0xB0
/-- R513. -/
def STREAM_CREDIT_TIMEOUT : Nat := 0xB1
/-- R513. -/
def SST_FAIL : Nat := 0xC0
/-- R513. -/
def SST_INCOMPLETE : Nat := 0xC1
/-- R513. -/
def SST_STALE : Nat := 0xC2
/-- R513. -/
def IMAGE_VERIFY_FAIL : Nat := 0xD0
/-- R513. -/
def PARAM_SIG_MISMATCH : Nat := 0xD1
end Sys2Proof.Kind

namespace Sys2Proof.Src

/-- R512: the source IDs. -/
def keeper : Nat := 0x000
def lane : Nat := 0x001
def app : Nat := 0x002
def supply : Nat := 0x010
def thermal : Nat := 0x011
def clock : Nat := 0x012
def ic (n : Nat) : Nat := 0x020 + n
def sc (n : Nat) : Nat := 0x040 + n
def gc (n : Nat) : Nat := 0x050 + n
def refs : Nat := 0x054
def fb (n : Nat) : Nat := 0x060 + n
def sn (n : Nat) : Nat := 0x070 + n
def ob (n : Nat) : Nat := 0x080 + n
def loop : Nat := 0x090
def ax (n : Nat) : Nat := 0x0A0 + n
def mx (n : Nat) : Nat := 0x0B0 + n
def vs (n : Nat) : Nat := 0x0C0 + n
def sol (n : Nat) : Nat := 0x0D0 + n
def blend : Nat := 0x0E0
def chaperone : Nat := 0x100
def port (p : Nat) : Nat := 0x110 + p
def azsin : Nat := 0x120
def stream : Nat := 0x130
def sram : Nat := 0x140
def tcm : Nat := 0x141
def dram : Nat := 0x142
def flash : Nat := 0x143
def selfTest : Nat := 0x150

end Sys2Proof.Src
end

