-- ==== Sys2Proof/Machine/Names.lean ====
section
/-!
DEFINITION. Machine/Names.lean: the dictionary key of every object of the manual's object tables, under the manual's own
name. A key is 256 × index + sub-index (R126); a name of an object that exists once per unit takes the unit's number `n`
and, where one record holds several, the number `u` within it. R250 gives the node entries, R523 the fault-kind records.
-/
namespace Sys2Proof.Obj

/-! Objects of R34. -/
def TICK_HIGHEST : Nat := 0x00201000
def TICKS_PER_BEAT : Nat := 0x00201001
def TICK_BASE : Nat := 0x00201002
def TICK_LONG_COUNT : Nat := 0x00201003
def TICK_INDEX : Nat := 0x00201004
def BEAT_NUMBER : Nat := 0x00201005
/-! Objects of R42. -/
def IDENT_HIGHEST : Nat := 0x00200000
def LANE_NUMBER : Nat := 0x00200001
def SET_SIZE : Nat := 0x00200002
def FUNC : Nat := 0x00200003
def UNIT : Nat := 0x00200004
def NODE_ADDRESS : Nat := 0x00200005
def MASTER_ENABLE : Nat := 0x00200006
def CFG_SEAL : Nat := 0x00200007
/-! Objects of R68. -/
def STRAP_HIGHEST : Nat := 0x00203000
def STRAP_WORD : Nat := 0x00203001
def STRAP_FLOAT : Nat := 0x00203002
def STRAP_STATUS : Nat := 0x00203003
def STRAP_SAMPLE_TICK : Nat := 0x00203004
def SEAL_PROFILE_USED : Nat := 0x00203005
def SUPPLY_HIGHEST : Nat := 0x00204000
def VBAT_MV : Nat := 0x00204001
def VKA_MV : Nat := 0x00204002
def VACT_MV : Nat := 0x00204003
def VSM_MV : Nat := 0x00204004
def VCH_MV : Nat := 0x00204005
def SUPPLY_FLAGS : Nat := 0x00204006
def AON_SOURCE : Nat := 0x00204007
/-! Objects of R96. -/
def POWER_HIGHEST : Nat := 0x00205000
def POWER_STATE : Nat := 0x00205001
def DOMAIN_STATUS : Nat := 0x00205002
def VOTE_CLOSED : Nat := 0x00205003
def TRANSITIONS : Nat := 0x00205004
def PARK_MODE : Nat := 0x00205005
def ENTRIES_ABORTED : Nat := 0x00205006
def VOTES_HIGHEST : Nat := 0x00205100
def VOTE_MASK (u : Nat) : Nat := 0x00205101 + 1 * u
def VOTE_CFG_HIGHEST : Nat := 0x00205200
def PORT_ACT_MASK : Nat := 0x00205201
def PORT_ACT_REELS : Nat := 0x00205202
def STREAM_MASK : Nat := 0x00205203
def KEY_MASK : Nat := 0x00205204
def HOLD_MASK : Nat := 0x00205205
def PARTNER_MASK : Nat := 0x00205206
def HOLDOFF_POWER : Nat := 0x00205207
def HOLDOFF_MEAS : Nat := 0x00205208
def HOLDOFF_DRAM : Nat := 0x00205209
def HOLDOFF_MAIN : Nat := 0x0020520A
def WAKE_LINGER : Nat := 0x0020520B
def WAKE_CFG_HIGHEST : Nat := 0x00205400
def PORT_A_WAKE : Nat := 0x00205401
def PORT_B_WAKE : Nat := 0x00205402
def KEY_FILTER : Nat := 0x00205403
def WAKE_FILTER : Nat := 0x00205404
def WAKE_EDGE : Nat := 0x00205405
def TIMER_WAKE : Nat := 0x00205406
def DOZE_MAX : Nat := 0x00205407
def CUE_HIGHEST : Nat := 0x00205500
def CUE_ID : Nat := 0x00205501
def CUE_ID_MASK : Nat := 0x00205502
def CUE_DLC : Nat := 0x00205503
def CUE_DATA : Nat := 0x00205504
def CUE_DATA_MASK : Nat := 0x00205505
def WAKE_REC_HIGHEST : Nat := 0x00205600
def WAKE_CODE : Nat := 0x00205601
def WAKE_SOURCES : Nat := 0x00205602
def WAKE_GLOBAL_TIME : Nat := 0x00205603
def WAKE_TIME_STATUS : Nat := 0x00205604
def WAKE_TICK : Nat := 0x00205605
def WAKE_COUNT : Nat := 0x00205606
def WAKE_COUNT_WRAPS : Nat := 0x00205607
def AON_TICK : Nat := 0x00205608
/-! Objects of R125. -/
def SLOT_HIGHEST : Nat := 0x00102000
def SLOT_ACTIVE : Nat := 0x00102001
def SLOT_PREFERRED : Nat := 0x00102002
def SLOT_A_STATE : Nat := 0x00102003
def SLOT_B_STATE : Nat := 0x00102004
def SLOT_A_VERSION : Nat := 0x00102005
def SLOT_B_VERSION : Nat := 0x00102006
def SLOT_A_SECVER : Nat := 0x00102007
def SLOT_B_SECVER : Nat := 0x00102008
def FUSE_SECVER : Nat := 0x00102009
def SLOT_CONFIRM : Nat := 0x0010200A
def TRIAL_STARTS : Nat := 0x0010200B
def START_HIGHEST : Nat := 0x00206000
def LAST_START_KIND : Nat := 0x00206001
def FULL_START_REASON : Nat := 0x00206002
def LAST_RESET_KIND : Nat := 0x00206003
def START_DURATION : Nat := 0x00206004
def START_STEP : Nat := 0x00206005
def INIT_STATUS : Nat := 0x00206006
def KEEP_EPOCH : Nat := 0x00206007
def AON_SECONDS : Nat := 0x00206008
def FORCE_FULL : Nat := 0x00206009
def SST_ENABLE : Nat := 0x0020600A
def START_PARTNER_WAIT : Nat := 0x0020600B
def RESET_REQUEST : Nat := 0x0020600C
def SST_HIGHEST : Nat := 0x00206200
def SST_STATUS : Nat := 0x00206201
def SST_KEEP_EPOCH : Nat := 0x00206202
def SST_AON_SECONDS : Nat := 0x00206203
def SST_GLOBAL_TIME : Nat := 0x00206204
def SST_COUNT : Nat := 0x00206205
def SST_PHASE (u : Nat) : Nat := 0x00206206 + 1 * u
def RESTART_HIGHEST : Nat := 0x00903000
def RECOVERY_ENABLE : Nat := 0x00903001
def RECOVERY_DELAY : Nat := 0x00903002
def RECOVERY_LIMIT : Nat := 0x00903003
def RECOVERY_COUNT : Nat := 0x00903004
def START_LIMIT : Nat := 0x00903005
/-! Objects of R132. -/
def IDENTITY_HIGHEST : Nat := 0x00100000
def VENDOR_NAME : Nat := 0x00100001
def DEVICE_NAME : Nat := 0x00100002
def ORDER_CODE : Nat := 0x00100003
def MODULE_ISSUE : Nat := 0x00100004
def DIE_STEPPING : Nat := 0x00100005
def SERIAL : Nat := 0x00100006
def CHAPERONE_REV : Nat := 0x00100007
/-! Objects of R152. -/
def SESSION_HIGHEST : Nat := 0x002F0000
def SESSION_CURRENT : Nat := 0x002F0001
def SESSION_OWNER : Nat := 0x002F0002
def SESSION_IDLE : Nat := 0x002F0003
def AUTH_FAILS : Nat := 0x002F0004
def LOCKOUT_REMAIN : Nat := 0x002F0005
def KEY_STATE : Nat := 0x002F0006
def TRANSFERS_OPEN : Nat := 0x002F0007
def SEG_TIMEOUT : Nat := 0x002F0008
def SIG_HIGHEST : Nat := 0x002F0100
def SIG_COMPUTED : Nat := 0x002F0101
def SIG_CONFIRM : Nat := 0x002F0102
def SIG_STATE : Nat := 0x002F0103
def SIG_ACTIVE : Nat := 0x002F0104
def SIG_STAGED : Nat := 0x002F0105
def SIG_CONFIRM_TIME : Nat := 0x002F0106
def SEALED_ENTRIES : Nat := 0x002F0107
def KEYS_HIGHEST : Nat := 0x002F1000
def KEY_SERVICE : Nat := 0x002F1001
def KEY_EXPERT : Nat := 0x002F1002
def KEY_COMMISSION : Nat := 0x002F1003
/-! Objects of R182. -/
def MEAS_HIGHEST : Nat := 0x00300000
def CAL_START : Nat := 0x00300001
def CAL_STATUS : Nat := 0x00300002
def CAL_FAILED : Nat := 0x00300003
def CAL_TIME : Nat := 0x00300004
def IC_REF : Nat := 0x00300005
def SC_REF : Nat := 0x00300006
def IC_BLANK : Nat := 0x00300007
def IC_MIN_COND : Nat := 0x00300008
def SHUNT_OFFSET_LIMIT : Nat := 0x00300009
def REF_STATUS : Nat := 0x0030000A
def IC_HIGHEST (n : Nat) : Nat := 0x00310000 + 256 * n
def IC_RESULT (n : Nat) : Nat := 0x00310001 + 256 * n
def IC_STATUS (n : Nat) : Nat := 0x00310002 + 256 * n
def IC_COND (n : Nat) : Nat := 0x00310003 + 256 * n
def IC_CAL_OFFSET (n : Nat) : Nat := 0x00310004 + 256 * n
def IC_CAL_GAIN (n : Nat) : Nat := 0x00310005 + 256 * n
def SC_HIGHEST (n : Nat) : Nat := 0x00314000 + 256 * n
def SC_RESULT (n : Nat) : Nat := 0x00314001 + 256 * n
def SC_STATUS (n : Nat) : Nat := 0x00314002 + 256 * n
def SC_COND (n : Nat) : Nat := 0x00314003 + 256 * n
def SC_CAL_OFFSET (n : Nat) : Nat := 0x00314004 + 256 * n
def SC_CAL_GAIN (n : Nat) : Nat := 0x00314005 + 256 * n
def GC_HIGHEST (n : Nat) : Nat := 0x00318000 + 256 * n
def GC_CAL_OFFSET (n : Nat) : Nat := 0x00318001 + 256 * n
def GC_CAL_GAIN (n : Nat) : Nat := 0x00318002 + 256 * n
def GC_SCAN (n : Nat) : Nat := 0x00318003 + 256 * n
def CH_HIGHEST (n : Nat) : Nat := 0x0031C000 + 256 * n
def CH_RESULT (n : Nat) : Nat := 0x0031C001 + 256 * n
def CH_STATUS (n : Nat) : Nat := 0x0031C002 + 256 * n
def SUP_HIGHEST : Nat := 0x00330000
def SUP_ENABLE : Nat := 0x00330001
def SUP_STATUS : Nat := 0x00330002
def SUP_RESTART : Nat := 0x00330003
def SUP_RETRIES : Nat := 0x00330004
/-! Objects of R217. -/
def FB_HIGHEST (n : Nat) : Nat := 0x00400000 + 16384 * n
def FB_CLASS (n : Nat) : Nat := 0x00400001 + 16384 * n
def FB_COUNT_MODE (n : Nat) : Nat := 0x00400002 + 16384 * n
def FB_INVERT (n : Nat) : Nat := 0x00400003 + 16384 * n
def FB_FILTER_N (n : Nat) : Nat := 0x00400004 + 16384 * n
def FB_FILTER_DIV (n : Nat) : Nat := 0x00400005 + 16384 * n
def FB_COUNTER (n : Nat) : Nat := 0x00400006 + 16384 * n
def FB_STATUS (n : Nat) : Nat := 0x00400007 + 16384 * n
def FB_EXT_POSITION (n : Nat) : Nat := 0x00400008 + 16384 * n
def FB_EXT_REBASE (n : Nat) : Nat := 0x00400009 + 16384 * n
def FB_REJECTS (n : Nat) : Nat := 0x0040000A + 16384 * n
def FB_QERRORS (n : Nat) : Nat := 0x0040000B + 16384 * n
def INDEX_CPR (n : Nat) : Nat := 0x0040000C + 16384 * n
def INDEX_GATE (n : Nat) : Nat := 0x0040000D + 16384 * n
def INDEX_POLICY (n : Nat) : Nat := 0x0040000E + 16384 * n
def SLIP_LIMIT (n : Nat) : Nat := 0x0040000F + 16384 * n
def SLIP_COUNT (n : Nat) : Nat := 0x00400010 + 16384 * n
def SLIP_ACTUAL (n : Nat) : Nat := 0x00400011 + 16384 * n
def SLIP_AMOUNT (n : Nat) : Nat := 0x00400012 + 16384 * n
def INDEX_REF (n : Nat) : Nat := 0x00400013 + 16384 * n
def INDEX_HOME (n : Nat) : Nat := 0x00400014 + 16384 * n
def INDEX_HOME_COUNT (n : Nat) : Nat := 0x00400015 + 16384 * n
def LATCH_SOURCE (n : Nat) : Nat := 0x00400016 + 16384 * n
def LATCH_INPUT (n : Nat) : Nat := 0x00400017 + 16384 * n
def LATCH_EDGE (n : Nat) : Nat := 0x00400018 + 16384 * n
def LATCH_COMPARE (n : Nat) : Nat := 0x00400019 + 16384 * n
def LATCH_MODE (n : Nat) : Nat := 0x0040001A + 16384 * n
def LATCH_COMMAND (n : Nat) : Nat := 0x0040001B + 16384 * n
def LATCH_POSITION (n : Nat) : Nat := 0x0040001C + 16384 * n
def LATCH_TIME (n : Nat) : Nat := 0x0040001D + 16384 * n
def LATCH_CAUSE (n : Nat) : Nat := 0x0040001E + 16384 * n
def LATCH_COUNT (n : Nat) : Nat := 0x0040001F + 16384 * n
def LATCH_OVERRUNS (n : Nat) : Nat := 0x00400020 + 16384 * n
def STEP_EDGE (n : Nat) : Nat := 0x00400021 + 16384 * n
def EXT_ACCUM (n : Nat) : Nat := 0x00400022 + 16384 * n
/-! Objects of R218. -/
def HALL_HIGHEST (n : Nat) : Nat := 0x00430000 + 256 * n
def HALL_FILTER_N (n : Nat) : Nat := 0x00430001 + 256 * n
def HALL_FILTER_DIV (n : Nat) : Nat := 0x00430002 + 256 * n
def HALL_DIR (n : Nat) : Nat := 0x00430003 + 256 * n
def HALL_OFFSET (n : Nat) : Nat := 0x00430004 + 256 * n
def HALL_BAD_TICKS (n : Nat) : Nat := 0x00430005 + 256 * n
def HALL_SECTOR (n : Nat) : Nat := 0x00430006 + 256 * n
def HALL_ALIGN_FB (n : Nat) : Nat := 0x00430007 + 256 * n
def HALL_CAPT_COUNT (n : Nat) : Nat := 0x00430008 + 256 * n
def HALL_CAPT_TIME (n : Nat) : Nat := 0x00430009 + 256 * n
def HALL_EDGE_TIME (n : Nat) : Nat := 0x0043000A + 256 * n
/-! Objects of R219. -/
def SN_HIGHEST (n : Nat) : Nat := 0x00440000 + 8192 * n
def SN_ENABLE (n : Nat) : Nat := 0x00440001 + 8192 * n
def SN_TICK (n : Nat) : Nat := 0x00440002 + 8192 * n
def SN_NIBBLES (n : Nat) : Nat := 0x00440003 + 8192 * n
def SN_FORMAT (n : Nat) : Nat := 0x00440004 + 8192 * n
def SN_CRC_MODE (n : Nat) : Nat := 0x00440005 + 8192 * n
def SN_PAUSE (n : Nat) : Nat := 0x00440006 + 8192 * n
def SN_FRAME_TICKS (n : Nat) : Nat := 0x00440007 + 8192 * n
def SN_CAL_CHECK (n : Nat) : Nat := 0x00440008 + 8192 * n
def SN_TIMEOUT (n : Nat) : Nat := 0x00440009 + 8192 * n
def SN_LATENCY (n : Nat) : Nat := 0x0044000A + 8192 * n
def SN_VALUE1 (n : Nat) : Nat := 0x0044000B + 8192 * n
def SN_VALUE2 (n : Nat) : Nat := 0x0044000C + 8192 * n
def SN_STATUS (n : Nat) : Nat := 0x0044000D + 8192 * n
def SN_TIME (n : Nat) : Nat := 0x0044000E + 8192 * n
def SN_ERRORS (n : Nat) : Nat := 0x0044000F + 8192 * n
def SN_SLOW_MODE (n : Nat) : Nat := 0x00440010 + 8192 * n
def SN_SLOW_TABLE (n : Nat) : Nat := 0x00440011 + 8192 * n
def SN_MEASURED_TICK (n : Nat) : Nat := 0x00440012 + 8192 * n
/-! Objects of R220. -/
def OB_HIGHEST (n : Nat) : Nat := 0x00460000 + 8192 * n
def OB_SOURCE (n : Nat) : Nat := 0x00460001 + 8192 * n
def OB_SCALE_K (n : Nat) : Nat := 0x00460002 + 8192 * n
def OB_SCALE_S (n : Nat) : Nat := 0x00460003 + 8192 * n
def OB_BW (n : Nat) : Nat := 0x00460004 + 8192 * n
def OB_BOUND (n : Nat) : Nat := 0x00460005 + 8192 * n
def OB_LOST_M (n : Nat) : Nat := 0x00460006 + 8192 * n
def OB_REGAIN (n : Nat) : Nat := 0x00460007 + 8192 * n
def OB_COAST_MAX (n : Nat) : Nat := 0x00460008 + 8192 * n
def OB_SETTLE (n : Nat) : Nat := 0x00460009 + 8192 * n
def OB_SPEED_SHIFT (n : Nat) : Nat := 0x0046000A + 8192 * n
def OB_ACC_SHIFT (n : Nat) : Nat := 0x0046000B + 8192 * n
def OB_CHECK_SRC (n : Nat) : Nat := 0x0046000C + 8192 * n
def OB_MULT (n : Nat) : Nat := 0x0046000D + 8192 * n
def OB_CHECK_BOUND (n : Nat) : Nat := 0x0046000E + 8192 * n
def OB_CHECK_M (n : Nat) : Nat := 0x0046000F + 8192 * n
def OB_POSITION (n : Nat) : Nat := 0x00460010 + 8192 * n
def OB_SPEED (n : Nat) : Nat := 0x00460011 + 8192 * n
def OB_ACC (n : Nat) : Nat := 0x00460012 + 8192 * n
def OB_INNOVATION (n : Nat) : Nat := 0x00460013 + 8192 * n
def OB_STATUS (n : Nat) : Nat := 0x00460014 + 8192 * n
def OB_COMMAND (n : Nat) : Nat := 0x00460015 + 8192 * n
/-! Objects of R247. -/
def LOOP_HIGHEST : Nat := 0x00500000
def LOOP_ALLOC_MODE : Nat := 0x00500001
def LOOP_MARGIN : Nat := 0x00500002
def LOOP_BUDGET : Nat := 0x00500003
def LOOP_LOAD_WORST : Nat := 0x00500004
def LOOP_LOAD_LAST : Nat := 0x00500005
def LOOP_LOAD_PEAK : Nat := 0x00500006
def LOOP_OVERRUNS : Nat := 0x00500007
def WRAP_CLASS_ARMED : Nat := 0x00500008
def WRAP_CLASS_IDLE : Nat := 0x00500009
def CELLS_ACTIVE : Nat := 0x0050000A
def LOOP_REJECT : Nat := 0x0050000B
/-! Objects of R248. -/
def CELL_HIGHEST (n : Nat) : Nat := 0x00510000 + 256 * n
def CELL_LAW (n : Nat) : Nat := 0x00510001 + 256 * n
def CELL_GROUP (n : Nat) : Nat := 0x00510002 + 256 * n
def CELL_PHASE (n : Nat) : Nat := 0x00510003 + 256 * n
def CELL_IN (n : Nat) : Nat := 0x00510004 + 256 * n
def CELL_OUT (n : Nat) : Nat := 0x00510005 + 256 * n
def CELL_K (n : Nat) (u : Nat) : Nat := 0x00510006 + 256 * n + 1 * u
def CELL_P (n : Nat) (u : Nat) : Nat := 0x0051000A + 256 * n + 1 * u
def CELL_OVERRIDE (n : Nat) : Nat := 0x0051000D + 256 * n
def CELL_STATE0 (n : Nat) : Nat := 0x0051000E + 256 * n
def CELL_STATE1 (n : Nat) : Nat := 0x0051000F + 256 * n
def CELL_STATUS (n : Nat) : Nat := 0x00510010 + 256 * n
/-! Objects of R251. -/
def TRACE_HIGHEST : Nat := 0x00580000
def TRACE_STATE : Nat := 0x00580001
def TRACE_COMMAND : Nat := 0x00580002
def TRACE_TRIG_TIME : Nat := 0x00580003
def TRACE_TRIG_CAUSE : Nat := 0x00580004
def TRACE_STREAM_DROPS : Nat := 0x00580005
def TRACE_CAPTURE_USED : Nat := 0x00580006
def TRIG_HIGHEST : Nat := 0x00581000
def TRIG_COND (u : Nat) : Nat := 0x00581001 + 1 * u
def TRACE_CH_HIGHEST (n : Nat) : Nat := 0x00582000 + 256 * n
def TRACE_NODE (n : Nat) : Nat := 0x00582001 + 256 * n
def TRACE_GROUP (n : Nat) : Nat := 0x00582002 + 256 * n
def TRACE_PHASE (n : Nat) : Nat := 0x00582003 + 256 * n
def TRACE_DECIM (n : Nat) : Nat := 0x00582004 + 256 * n
def TRACE_LENGTH (n : Nat) : Nat := 0x00582005 + 256 * n
def TRACE_POST (n : Nat) : Nat := 0x00582006 + 256 * n
def TRACE_DEST (n : Nat) : Nat := 0x00582007 + 256 * n
def TRACE_BUFFER (n : Nat) : Nat := 0x00582008 + 256 * n
def TRACE_SAMPLES (n : Nat) : Nat := 0x00582009 + 256 * n
/-! Objects of R253. -/
def DITHER_HIGHEST : Nat := 0x00201100
def DITHER_PCT : Nat := 0x00201101
def DITHER_SEED : Nat := 0x00201102
def DITHER_SPAN : Nat := 0x00201103
/-! Objects of R275. -/
def LINK_HIGHEST : Nat := 0x00201200
def VACT_GUARD : Nat := 0x00201201
def LINK_BAND : Nat := 0x00201202
def DUMP_ENABLE : Nat := 0x00201203
def DUMP_HYST : Nat := 0x00201204
def DUMP_MAX_ON : Nat := 0x00201205
def LINK_STATUS : Nat := 0x00201206
/-! Objects of R280. -/
def AX_HIGHEST (n : Nat) : Nat := 0x00600000 + 65536 * n
def AX_ENABLE (n : Nat) : Nat := 0x00600001 + 65536 * n
def AX_GATE_SOURCE (n : Nat) : Nat := 0x00600002 + 65536 * n
def AX_GATE_SINK (n : Nat) : Nat := 0x00600003 + 65536 * n
def AX_GATE_SOFT (n : Nat) : Nat := 0x00600004 + 65536 * n
def AX_DEAD_TIME (n : Nat) : Nat := 0x00600005 + 65536 * n
def AX_MIN_PULSE (n : Nat) : Nat := 0x00600006 + 65536 * n
def AX_GATE_TIMEOUT (n : Nat) : Nat := 0x00600007 + 65536 * n
def AX_DESAT_V (n : Nat) : Nat := 0x00600008 + 65536 * n
def AX_DESAT_BLANK (n : Nat) : Nat := 0x00600009 + 65536 * n
def AX_OC_TRIP (n : Nat) : Nat := 0x0060000A + 65536 * n
def AX_I_SCALE (n : Nat) : Nat := 0x0060000B + 65536 * n
def AX_I_RATED (n : Nat) : Nat := 0x0060000C + 65536 * n
def AX_I_PEAK (n : Nat) : Nat := 0x0060000D + 65536 * n
def AX_I_PEAK_TIME (n : Nat) : Nat := 0x0060000E + 65536 * n
def AX_BR_I_RATED (n : Nat) : Nat := 0x0060000F + 65536 * n
def AX_BR_I_PEAK (n : Nat) : Nat := 0x00600010 + 65536 * n
def AX_BR_PEAK_TIME (n : Nat) : Nat := 0x00600011 + 65536 * n
def AX_I_RAMP_TIME (n : Nat) : Nat := 0x00600012 + 65536 * n
def AX_R_WINDING (n : Nat) : Nat := 0x00600013 + 65536 * n
def AX_L_D (n : Nat) : Nat := 0x00600014 + 65536 * n
def AX_L_Q (n : Nat) : Nat := 0x00600015 + 65536 * n
def AX_PSI (n : Nat) : Nat := 0x00600016 + 65536 * n
def AX_ANGLE_SRC1 (n : Nat) : Nat := 0x00600017 + 65536 * n
def AX_ANGLE_SRC2 (n : Nat) : Nat := 0x00600018 + 65536 * n
def AX_ANGLE_OFFSET1 (n : Nat) : Nat := 0x00600019 + 65536 * n
def AX_ANGLE_OFFSET2 (n : Nat) : Nat := 0x0060001A + 65536 * n
def AX_ALIGN (n : Nat) : Nat := 0x0060001B + 65536 * n
def AX_ALIGN_TOL (n : Nat) : Nat := 0x0060001C + 65536 * n
def AX_FALLBACK_TOL (n : Nat) : Nat := 0x0060001D + 65536 * n
def AX_ASC_ENABLE (n : Nat) : Nat := 0x0060001E + 65536 * n
def AX_ASC_MARGIN (n : Nat) : Nat := 0x0060001F + 65536 * n
def AX_ASC_SPEED (n : Nat) : Nat := 0x00600020 + 65536 * n
def AX_M_MAX (n : Nat) : Nat := 0x00600021 + 65536 * n
def AX_FW_THRESH (n : Nat) : Nat := 0x00600022 + 65536 * n
def AX_ID_FW_MAX (n : Nat) : Nat := 0x00600023 + 65536 * n
def AX_I_BW (n : Nat) : Nat := 0x00600024 + 65536 * n
def AX_FW_KI (n : Nat) : Nat := 0x00600025 + 65536 * n
def AX_SPEED_KP (n : Nat) : Nat := 0x00600026 + 65536 * n
def AX_SPEED_KI (n : Nat) : Nat := 0x00600027 + 65536 * n
def AX_POS_KP (n : Nat) : Nat := 0x00600028 + 65536 * n
def AX_POS_KD (n : Nat) : Nat := 0x00600029 + 65536 * n
def AX_SPEED_MAX (n : Nat) : Nat := 0x0060002A + 65536 * n
def AX_ACCEL_MAX (n : Nat) : Nat := 0x0060002B + 65536 * n
def AX_POS_SETPOINT (n : Nat) : Nat := 0x0060002C + 65536 * n
def AX_POS_SRC (n : Nat) : Nat := 0x0060002D + 65536 * n
def AX_PI_D_CELL (n : Nat) : Nat := 0x0060002E + 65536 * n
def AX_PI_Q_CELL (n : Nat) : Nat := 0x0060002F + 65536 * n
def AX_RATE_CELL (n : Nat) : Nat := 0x00600030 + 65536 * n
def AX_KE_LOW_PCT (n : Nat) : Nat := 0x00600031 + 65536 * n
def AX_KE_MISMATCH_PCT (n : Nat) : Nat := 0x00600032 + 65536 * n
def AX_KE_TAU (n : Nat) : Nat := 0x00600033 + 65536 * n
def AX_EMF_MIN_SPEED (n : Nat) : Nat := 0x00600034 + 65536 * n
def AX_EMF_THRESH (n : Nat) : Nat := 0x00600035 + 65536 * n
def AX_STATE (n : Nat) : Nat := 0x00600036 + 65536 * n
def AXR_HIGHEST (n : Nat) : Nat := 0x00600100 + 65536 * n
def AX_STATUS (n : Nat) : Nat := 0x00600101 + 65536 * n
def AX_KE_EST (n : Nat) : Nat := 0x00600102 + 65536 * n
def AX_R_MEAS (n : Nat) : Nat := 0x00600103 + 65536 * n
def AX_IDENTIFY (n : Nat) : Nat := 0x00600104 + 65536 * n
def AX_KE_TREND (n : Nat) : Nat := 0x00600105 + 65536 * n
def AX_I2T_LEVEL (n : Nat) : Nat := 0x00600106 + 65536 * n
/-! Objects of R308. -/
def MX_HIGHEST (n : Nat) : Nat := 0x00700000 + 16384 * n
def MX_ASSIGN (n : Nat) : Nat := 0x00700001 + 16384 * n
def MX_PROFILE (n : Nat) : Nat := 0x00700002 + 16384 * n
def MX_VMAX (n : Nat) : Nat := 0x00700003 + 16384 * n
def MX_ACCEL (n : Nat) : Nat := 0x00700004 + 16384 * n
def MX_DECEL (n : Nat) : Nat := 0x00700005 + 16384 * n
def MX_JERK (n : Nat) : Nat := 0x00700006 + 16384 * n
def MX_STOP_DECEL (n : Nat) : Nat := 0x00700007 + 16384 * n
def MX_V_MIN (n : Nat) : Nat := 0x00700008 + 16384 * n
def MX_OUT_K (n : Nat) : Nat := 0x00700009 + 16384 * n
def MX_STEP_PULSE (n : Nat) : Nat := 0x0070000A + 16384 * n
def MX_DIR_SETUP (n : Nat) : Nat := 0x0070000B + 16384 * n
def MX_STEP_POL (n : Nat) : Nat := 0x0070000C + 16384 * n
def MX_MODE (n : Nat) : Nat := 0x0070000D + 16384 * n
def MX_TARGET_POS (n : Nat) : Nat := 0x0070000E + 16384 * n
def MX_TARGET_SPEED (n : Nat) : Nat := 0x0070000F + 16384 * n
def MX_START_TIME (n : Nat) : Nat := 0x00700010 + 16384 * n
def MX_COMMAND (n : Nat) : Nat := 0x00700011 + 16384 * n
def MX_POSITION (n : Nat) : Nat := 0x00700012 + 16384 * n
def MX_VELOCITY (n : Nat) : Nat := 0x00700013 + 16384 * n
def MX_STATUS (n : Nat) : Nat := 0x00700014 + 16384 * n
def MX_DONE_COUNT (n : Nat) : Nat := 0x00700015 + 16384 * n
def MX_REJECTS (n : Nat) : Nat := 0x00700016 + 16384 * n
def MX_ACCUM (n : Nat) : Nat := 0x00700017 + 16384 * n
/-! Objects of R309. -/
def GEAR_HIGHEST (n : Nat) : Nat := 0x00740000 + 256 * n
def GEAR_MASTER (n : Nat) : Nat := 0x00740001 + 256 * n
def GEAR_MASTER_NODE (n : Nat) : Nat := 0x00740002 + 256 * n
def GEAR_MASTER_ZERO (n : Nat) : Nat := 0x00740003 + 256 * n
def GEAR_TABLE0 (n : Nat) : Nat := 0x00740004 + 256 * n
def GEAR_TABLE1 (n : Nat) : Nat := 0x00740005 + 256 * n
def GEAR_ENGAGE (n : Nat) : Nat := 0x00740006 + 256 * n
def GEAR_OFFSET (n : Nat) : Nat := 0x00740007 + 256 * n
def GEAR_BLEND_RATE (n : Nat) : Nat := 0x00740008 + 256 * n
def GEAR_BAND_MODE (n : Nat) : Nat := 0x00740009 + 256 * n
def GEAR_BAND_UP (n : Nat) : Nat := 0x0074000A + 256 * n
def GEAR_BAND_DOWN (n : Nat) : Nat := 0x0074000B + 256 * n
def GEAR_TABLE_REQUEST (n : Nat) : Nat := 0x0074000C + 256 * n
def GEAR_TABLE_ACTIVE (n : Nat) : Nat := 0x0074000D + 256 * n
def GEAR_SHIFT (n : Nat) : Nat := 0x0074000E + 256 * n
def GEAR_SEGMENT (n : Nat) : Nat := 0x0074000F + 256 * n
def GEAR_STATUS (n : Nat) : Nat := 0x00740010 + 256 * n
def GEAR_SWITCHES (n : Nat) : Nat := 0x00740011 + 256 * n
/-! Objects of R310. -/
def CMP_POSITION (n : Nat) (u : Nat) : Nat := 0x00400030 + 16384 * n + 4 * u
def CMP_CONTROL (n : Nat) (u : Nat) : Nat := 0x00400031 + 16384 * n + 4 * u
def CMP_STATUS (n : Nat) (u : Nat) : Nat := 0x00400032 + 16384 * n + 4 * u
def CMP_TIME (n : Nat) (u : Nat) : Nat := 0x00400033 + 16384 * n + 4 * u
/-! Objects of R330. -/
def VS_HIGHEST (n : Nat) : Nat := 0x00780000 + 8192 * n
def VS_ENABLE (n : Nat) : Nat := 0x00780001 + 8192 * n
def VS_I_RUN (n : Nat) : Nat := 0x00780002 + 8192 * n
def VS_I_HOLD (n : Nat) : Nat := 0x00780003 + 8192 * n
def VS_HOLD_DELAY (n : Nat) : Nat := 0x00780004 + 8192 * n
def VS_I_SLEW (n : Nat) : Nat := 0x00780005 + 8192 * n
def VS_STEP_SIZE (n : Nat) : Nat := 0x00780006 + 8192 * n
def VS_PHASE_OFFSET (n : Nat) : Nat := 0x00780007 + 8192 * n
def VS_TOFF (n : Nat) : Nat := 0x00780008 + 8192 * n
def VS_FAST (n : Nat) : Nat := 0x00780009 + 8192 * n
def VS_BLANK (n : Nat) : Nat := 0x0078000A + 8192 * n
def VS_TON_MAX (n : Nat) : Nat := 0x0078000B + 8192 * n
def VS_SINE_TABLE (n : Nat) : Nat := 0x0078000C + 8192 * n
def VS_COIL_R (n : Nat) : Nat := 0x0078000D + 8192 * n
def VS_COIL_L (n : Nat) : Nat := 0x0078000E + 8192 * n
def VS_STALL_K (n : Nat) : Nat := 0x0078000F + 8192 * n
def VS_STALL_STEPS (n : Nat) : Nat := 0x00780010 + 8192 * n
def VS_STALL_MIN_RATE (n : Nat) : Nat := 0x00780011 + 8192 * n
def VS_STALL_POLICY (n : Nat) : Nat := 0x00780012 + 8192 * n
def VS_OPEN_MIN (n : Nat) : Nat := 0x00780013 + 8192 * n
def VS_GOV_PCT (n : Nat) : Nat := 0x00780014 + 8192 * n
def VS_STATUS (n : Nat) : Nat := 0x00780015 + 8192 * n
def VS_COMMAND (n : Nat) : Nat := 0x00780016 + 8192 * n
def VS_STALL_VALUE (n : Nat) : Nat := 0x00780017 + 8192 * n
def VS_POSITION (n : Nat) : Nat := 0x00780018 + 8192 * n
/-! Objects of R331. -/
def SOL_HIGHEST (n : Nat) : Nat := 0x00788000 + 256 * n
def SOL_ENABLE (n : Nat) : Nat := 0x00788001 + 256 * n
def SOL_DEMAND_NODE (n : Nat) : Nat := 0x00788002 + 256 * n
def SOL_ON_MA (n : Nat) : Nat := 0x00788003 + 256 * n
def SOL_PULLIN_MA (n : Nat) : Nat := 0x00788004 + 256 * n
def SOL_PULLIN_TIME (n : Nat) : Nat := 0x00788005 + 256 * n
def SOL_PULLIN_MIN (n : Nat) : Nat := 0x00788006 + 256 * n
def SOL_I_MAX (n : Nat) : Nat := 0x00788007 + 256 * n
def SOL_BAND (n : Nat) : Nat := 0x00788008 + 256 * n
def SOL_PROBE (n : Nat) : Nat := 0x00788009 + 256 * n
def SOL_AVG_KI (n : Nat) : Nat := 0x0078800A + 256 * n
def SOL_OPEN_MA (n : Nat) : Nat := 0x0078800B + 256 * n
def SOL_OPEN_TIME (n : Nat) : Nat := 0x0078800C + 256 * n
def SOL_DIAG_FILTER (n : Nat) : Nat := 0x0078800D + 256 * n
def SOL_STATUS (n : Nat) : Nat := 0x0078800E + 256 * n
def SOL_COMMAND (n : Nat) : Nat := 0x0078800F + 256 * n
def SOL_AVG_MA (n : Nat) : Nat := 0x00788010 + 256 * n
/-! Objects of R352. -/
def BLEND_HIGHEST : Nat := 0x00800000
def BLEND_ENABLE : Nat := 0x00800001
def BLEND_TICK : Nat := 0x00800002
def VEH_MASS : Nat := 0x00800003
def VEH_MASS_NODE : Nat := 0x00800004
def AUTO_DEMAND_NODE : Nat := 0x00800005
def VEH_SPEED_NODE : Nat := 0x00800006
def BLEND_RATE_UP : Nat := 0x00800007
def REGEN_FADE_LO : Nat := 0x00800008
def REGEN_FADE_HI : Nat := 0x00800009
def VEH_SPEED : Nat := 0x0080000A
def BLEND_STATUS : Nat := 0x0080000B
def BLEND_LATE_COUNT : Nat := 0x0080000C
def PEDAL_HIGHEST : Nat := 0x00801000
def PEDAL_SRC1 : Nat := 0x00801001
def PEDAL_SRC2 : Nat := 0x00801002
def PEDAL_ZERO1 : Nat := 0x00801003
def PEDAL_FULL1 : Nat := 0x00801004
def PEDAL_ZERO2 : Nat := 0x00801005
def PEDAL_FULL2 : Nat := 0x00801006
def PEDAL_TOL : Nat := 0x00801007
def PEDAL_DIS_TIME : Nat := 0x00801008
def PEDAL_MAP : Nat := 0x00801009
def PEDAL_LOSS_DECEL : Nat := 0x0080100A
def PEDAL_TRAVEL : Nat := 0x0080100B
def HV_HIGHEST : Nat := 0x00802000
def HV_MEAS_CH : Nat := 0x00802001
def HV_MEAS_K : Nat := 0x00802002
def HV_REPORT_NODE : Nat := 0x00802003
def HV_ACCEPT_NODE : Nat := 0x00802004
def HV_LIMIT : Nat := 0x00802005
def HV_BAND : Nat := 0x00802006
def HV_TOL : Nat := 0x00802007
def GRID_AVAIL_NODE : Nat := 0x00802008
def HV_VOLTAGE : Nat := 0x00802009
def HV_FACTOR : Nat := 0x0080200A
def AXLE_HIGHEST (n : Nat) : Nat := 0x00803000 + 256 * n
def AXLE_SHARE (n : Nat) : Nat := 0x00803001 + 256 * n
def SLIP_THRESH (n : Nat) : Nat := 0x00803002 + 256 * n
def SLIP_HYST (n : Nat) : Nat := 0x00803003 + 256 * n
def SLIP_MIN_SPEED (n : Nat) : Nat := 0x00803004 + 256 * n
def AXLE_SLIP (n : Nat) : Nat := 0x00803005 + 256 * n
def AXLE_SLIP_FACTOR (n : Nat) : Nat := 0x00803006 + 256 * n
def WHEEL_HIGHEST (n : Nat) : Nat := 0x00804000 + 256 * n
def WHEEL_SRC (n : Nat) : Nat := 0x00804001 + 256 * n
def WHEEL_K (n : Nat) : Nat := 0x00804002 + 256 * n
def WHEEL_AXLE (n : Nat) : Nat := 0x00804003 + 256 * n
def INV_HIGHEST (n : Nat) : Nat := 0x00805000 + 256 * n
def INV_AXLE (n : Nat) : Nat := 0x00805001 + 256 * n
def INV_AVAIL_NODE (n : Nat) : Nat := 0x00805002 + 256 * n
def INV_FORCE_K (n : Nat) : Nat := 0x00805003 + 256 * n
def FRIC_HIGHEST (n : Nat) : Nat := 0x00806000 + 256 * n
def FRIC_AXLE (n : Nat) : Nat := 0x00806001 + 256 * n
def FRIC_FRACTION (n : Nat) : Nat := 0x00806002 + 256 * n
def FRIC_K (n : Nat) : Nat := 0x00806003 + 256 * n
def FRIC_OFFSET (n : Nat) : Nat := 0x00806004 + 256 * n
def FRIC_MAX (n : Nat) : Nat := 0x00806005 + 256 * n
/-! Objects of R375. -/
def LEAD_HIGHEST : Nat := 0x00207000
def LANE_ROLE : Nat := 0x00207001
def LEAD_MODE : Nat := 0x00207002
def CARD_NUMBER : Nat := 0x00207003
def CARD_HOLDER : Nat := 0x00207004
def CARD_EXPIRY : Nat := 0x00207005
def CARD_LEASE : Nat := 0x00207006
def CARD_RENEW : Nat := 0x00207007
def LINE_TEST_PERIOD : Nat := 0x00207008
def LINE_TEST_TIME : Nat := 0x00207009
def LINE_TEST_RESULT : Nat := 0x0020700A
def GIVE_UP_COUNT : Nat := 0x0020700B
def GIVE_UP_CAUSE : Nat := 0x0020700C
def CUT_IN_COUNT : Nat := 0x0020700D
def LAST_CUT_IN_GAP : Nat := 0x0020700E
def LEAD_REQUEST : Nat := 0x0020700F
def HEALTH_HIGHEST : Nat := 0x00207100
def HEALTH_WORD : Nat := 0x00207101
def HEALTH_FLOOR : Nat := 0x00207102
def CUT_IN_RANK : Nat := 0x00207103
def SHADOW_TICK : Nat := 0x00207104
def SHADOW_SETTLE : Nat := 0x00207105
def SHADOW_PASSES : Nat := 0x00207106
def SHADOW_FAILS : Nat := 0x00207107
def XCHK_BOUND : Nat := 0x00207108
def XCHK_M : Nat := 0x00207109
def PEER_TIMEOUT : Nat := 0x0020710A
def PEER_HIGHEST (n : Nat) : Nat := 0x00207200 + 256 * n
def PEER_LANE (n : Nat) : Nat := 0x00207201 + 256 * n
def PEER_STATE (n : Nat) : Nat := 0x00207202 + 256 * n
def PEER_HEALTH (n : Nat) : Nat := 0x00207203 + 256 * n
def PEER_BEAT (n : Nat) : Nat := 0x00207204 + 256 * n
/-! Objects of R404. -/
def CHAP_HIGHEST : Nat := 0x00900000
def CHAP_STATE : Nat := 0x00900001
def CHAP_ARM : Nat := 0x00900002
def CHAP_CAUSE : Nat := 0x00900003
def CHAP_TIME : Nat := 0x00900004
def CHAP_SIG : Nat := 0x00900005
def CHAP_HALL : Nat := 0x00900006
def EB_DUTY : Nat := 0x00900007
def CHAP_BANK_USED : Nat := 0x00900008
def WDG_HIGHEST : Nat := 0x00901000
def WDG_PERIOD : Nat := 0x00901001
def WDG_OPEN : Nat := 0x00901002
def WDG_CLOSE : Nat := 0x00901003
def WDG_LIMIT : Nat := 0x00901004
def WDG_ERRORS : Nat := 0x00901005
def WDG_CHALLENGE : Nat := 0x00901006
def ENV_HIGHEST : Nat := 0x00902000
def CH_I_BOUND (u : Nat) : Nat := 0x00902001 + 1 * u
def CH_I_TICKS : Nat := 0x00902007
def CH_STEER_AXES : Nat := 0x00902008
def CH_RATE_K : Nat := 0x00902009
def CH_RATE_CURVE : Nat := 0x0090200A
def CH_RATE_TIME : Nat := 0x0090200B
def SPEED_STALE : Nat := 0x0090200C
def BRAKE_MARGIN : Nat := 0x0090200D
def BRAKE_TIME : Nat := 0x0090200E
def ASC_MAX : Nat := 0x0090200F
def WALTZ_HIGHEST : Nat := 0x00904000
def WALTZ_WAIT : Nat := 0x00904001
def WALTZ_HOLD : Nat := 0x00904002
def WALTZ_I_MV : Nat := 0x00904003
def WALTZ_TOFF : Nat := 0x00904004
def WALTZ_PAIR_SHIFT : Nat := 0x00904005
def EB_RAMP : Nat := 0x00904006
def WALTZ_RESULT : Nat := 0x00904007
def WALTZ_TIME : Nat := 0x00904008
def LADDER_HIGHEST : Nat := 0x00905000
def LADDER_LEVEL : Nat := 0x00905001
def LADDER_COUNT : Nat := 0x00905002
def LADDER_LOST : Nat := 0x00905003
def LADDER_SPEED_CAP : Nat := 0x00905004
def LADDER_WALTZ_DELAY : Nat := 0x00905005
def LADDER_REQUESTS : Nat := 0x00905006
def GUARD_HIGHEST : Nat := 0x00906000
def GUARD_STATUS : Nat := 0x00906001
def GUARD_BLOCKS : Nat := 0x00906002
def GUARD_COAST : Nat := 0x00906003
/-! Objects of R438. -/
def RALUNE_HIGHEST : Nat := 0x00A00000
def BEAT_LENGTH : Nat := 0x00A00001
def BEATS_PER_REEL : Nat := 0x00A00002
def MASTER_PRIORITY : Nat := 0x00A00003
def MASTER_PORTS : Nat := 0x00A00004
def SYNC_TIMEOUT : Nat := 0x00A00005
def TIME_SOURCE : Nat := 0x00A00006
def TIME_OFFSET : Nat := 0x00A00007
def TIME_RATE : Nat := 0x00A00008
def MASTER_STATE : Nat := 0x00A00009
def STEP_STATE : Nat := 0x00A0000A
def STEP_OFFSET : Nat := 0x00A0000B
/-! Objects of R439. -/
def PORT_HIGHEST (n : Nat) : Nat := 0x00A01000 + 256 * n
def PORT_ARB_RATE (n : Nat) : Nat := 0x00A01001 + 256 * n
def PORT_DATA_RATE (n : Nat) : Nat := 0x00A01002 + 256 * n
def PORT_ARB_SP (n : Nat) : Nat := 0x00A01003 + 256 * n
def PORT_DATA_SP (n : Nat) : Nat := 0x00A01004 + 256 * n
def PORT_ROLE (n : Nat) : Nat := 0x00A01005 + 256 * n
def PORT_UPLINK (n : Nat) : Nat := 0x00A01006 + 256 * n
def PORT_SDT (n : Nat) : Nat := 0x00A01007 + 256 * n
def PORT_PROP_NS (n : Nat) : Nat := 0x00A01008 + 256 * n
def PORT_STATUS (n : Nat) : Nat := 0x00A01009 + 256 * n
def PORT_NETWORK (n : Nat) : Nat := 0x00A0100A + 256 * n
def PORT_ADDRESS (n : Nat) : Nat := 0x00A0100B + 256 * n
def PORT_RX_FRAMES (n : Nat) : Nat := 0x00A0100C + 256 * n
def PORT_RX_REJECTS (n : Nat) : Nat := 0x00A0100D + 256 * n
def PORT_NULLS_SENT (n : Nat) : Nat := 0x00A0100E + 256 * n
def PORT_DOWN_REELS (n : Nat) : Nat := 0x00A0100F + 256 * n
/-! Objects of R440. -/
def SCHED_HIGHEST : Nat := 0x00A10000
def SCHED_AB : Nat := 0x00A10001
def SCHED_C : Nat := 0x00A10002
def SCHED_D : Nat := 0x00A10003
def SCHED_AB_SIG : Nat := 0x00A10004
def SCHED_C_SIG : Nat := 0x00A10005
def SCHED_D_SIG : Nat := 0x00A10006
def SCHED_REJECT : Nat := 0x00A10007
/-! Objects of R441. -/
def CLAIM_HIGHEST : Nat := 0x00A20000
def CLAIM_REQ (u : Nat) : Nat := 0x00A20001 + 1 * u
def CLAIM_TRIES : Nat := 0x00A20005
def CLAIM_STATE : Nat := 0x00A20006
def CONFIRM_AB : Nat := 0x00A20007
def CONFIRM_D : Nat := 0x00A20008
/-! Objects of R464. -/
def AZS_HIGHEST : Nat := 0x00140000
def AZ_USED : Nat := 0x00140001
def AZ_SAFE_COUNT : Nat := 0x00140002
def AZ_SAFE_MAP : Nat := 0x00140003
def AZ_RX_UNKNOWN : Nat := 0x00140004
def AZ_RX_DUPLICATES : Nat := 0x00140005
def AZ_CONTAINER_REJECTS : Nat := 0x00140006
/-! Objects of R465. -/
def AZ_HIGHEST (n : Nat) : Nat := 0x00B00000 + 256 * n
def AZ_ROLE (n : Nat) : Nat := 0x00B00001 + 256 * n
def AZ_ID (n : Nat) : Nat := 0x00B00002 + 256 * n
def AZ_PEER (n : Nat) : Nat := 0x00B00003 + 256 * n
def AZ_MODE (n : Nat) : Nat := 0x00B00004 + 256 * n
def AZ_SIGNATURE (n : Nat) : Nat := 0x00B00005 + 256 * n
def AZ_LENGTH (n : Nat) : Nat := 0x00B00006 + 256 * n
def AZ_CLASS (n : Nat) : Nat := 0x00B00007 + 256 * n
def AZ_PERIOD (n : Nat) : Nat := 0x00B00008 + 256 * n
def AZ_PHASE (n : Nat) : Nat := 0x00B00009 + 256 * n
def AZ_MAP (n : Nat) : Nat := 0x00B0000A + 256 * n
def AZ_MISS_MAX (n : Nat) : Nat := 0x00B0000B + 256 * n
def AZ_AGE_MAX (n : Nat) : Nat := 0x00B0000C + 256 * n
def AZ_TIMEOUT (n : Nat) : Nat := 0x00B0000D + 256 * n
def AZ_RECOVER (n : Nat) : Nat := 0x00B0000E + 256 * n
def AZ_RESTART (n : Nat) : Nat := 0x00B0000F + 256 * n
def AZ_STATE (n : Nat) : Nat := 0x00B00010 + 256 * n
def AZ_COMMAND (n : Nat) : Nat := 0x00B00011 + 256 * n
def AZ_SEQ (n : Nat) : Nat := 0x00B00012 + 256 * n
def AZ_AGE (n : Nat) : Nat := 0x00B00013 + 256 * n
def AZ_MISSES (n : Nat) : Nat := 0x00B00014 + 256 * n
def AZ_FAILS (n : Nat) : Nat := 0x00B00015 + 256 * n
def AZ_LAST_FAIL (n : Nat) : Nat := 0x00B00016 + 256 * n
def AZ_TX_LATE (n : Nat) : Nat := 0x00B00017 + 256 * n
def AZ_DATA (n : Nat) : Nat := 0x00B00018 + 256 * n
/-! Objects of R466. -/
def FABRIC_HIGHEST : Nat := 0x00C80000
def ROUTE_TABLE : Nat := 0x00C80001
def STREAM_NETWORK : Nat := 0x00C80002
def ROUTE_MAX_WAIT : Nat := 0x00C80003
def ANNOUNCE_REPEAT : Nat := 0x00C80004
def ROUTE_FORWARDED : Nat := 0x00C80005
def ROUTE_DROP_HOP : Nat := 0x00C80006
def ROUTE_DROP_WAIT : Nat := 0x00C80007
def ROUTE_DUPLICATES : Nat := 0x00C80008
def NODES_HIGHEST : Nat := 0x00C81000
def NODES_A : Nat := 0x00C81001
def NODES_B : Nat := 0x00C81002
def NODES_D : Nat := 0x00C81003
/-! Objects of R483. -/
def STREAM_HIGHEST : Nat := 0x00C40000
def STREAM_ENABLE : Nat := 0x00C40001
def STREAM_WAKE : Nat := 0x00C40002
def STREAM_STATE : Nat := 0x00C40003
def STREAM_CREDIT_TIMEOUT : Nat := 0x00C40004
def STREAM_PARTNER_CREDITS : Nat := 0x00C40005
def STREAM_DESKEW : Nat := 0x00C40006
def STREAM_CODE_ERRORS : Nat := 0x00C40007
def STREAM_CRC_ERRORS : Nat := 0x00C40008
def STREAM_SEQ_GAPS : Nat := 0x00C40009
def STREAM_LINK_DOWNS : Nat := 0x00C4000A
def STREAM_FRAMES_TX : Nat := 0x00C4000B
def STREAM_FRAMES_RX : Nat := 0x00C4000C
def STREAM_TRAIN_TIME : Nat := 0x00C4000D
/-! Objects of R508. -/
def MEM_HIGHEST : Nat := 0x00D00000
def ECC_LOG : Nat := 0x00D00001
def RETIRE_LIST : Nat := 0x00D00002
def DRAM_SPARES_USED : Nat := 0x00D00003
def SRAM_SPARES_USED : Nat := 0x00D00004
def UNSPARED : Nat := 0x00D00005
def WATCH_COUNT : Nat := 0x00D00006
def OPERATING_SECONDS : Nat := 0x00D00007
def CHECKER_RESULT : Nat := 0x00D00008
def DMA_STATUS : Nat := 0x00D00009
def MEMR_HIGHEST (n : Nat) : Nat := 0x00D10000 + 256 * n
def SCRUB_LAP_LAST (n : Nat) : Nat := 0x00D10001 + 256 * n
def SCRUB_LAP_WORST (n : Nat) : Nat := 0x00D10002 + 256 * n
def SCRUB_LAP_LIMIT (n : Nat) : Nat := 0x00D10003 + 256 * n
def CORR_COUNT (n : Nat) : Nat := 0x00D10004 + 256 * n
def UNCORR_COUNT (n : Nat) : Nat := 0x00D10005 + 256 * n
/-! Objects of R509. -/
def RECORD_HIGHEST : Nat := 0x00C00000
def RECORD_ENABLE : Nat := 0x00C00001
def RECORD_PRE : Nat := 0x00C00002
def RECORD_POST : Nat := 0x00C00003
def RECORD_TRIG_MASK : Nat := 0x00C00004
def RECORD_TRIG_KINDS : Nat := 0x00C00005
def RECORD_TRIG_CLASS : Nat := 0x00C00006
def RECORD_COMMAND : Nat := 0x00C00007
def RECORD_PROTECT : Nat := 0x00C00008
def RECORD_DOWNLOAD : Nat := 0x00C00009
def RECORD_STATE : Nat := 0x00C0000A
def RING_ROWS : Nat := 0x00C0000B
def RECORD_MISSED : Nat := 0x00C0000C
def RECORD_GAP_ROWS : Nat := 0x00C0000D
def EVENT_HIGHEST (n : Nat) : Nat := 0x00C01000 + 256 * n
def EVENT_HEADER (n : Nat) : Nat := 0x00C01001 + 256 * n
/-! Objects of R528. -/
def FAULT_HIGHEST : Nat := 0x00E00000
def FAULTN_CLASSES : Nat := 0x00E00001
def ACTIVE_COUNT : Nat := 0x00E00002
def FAULT_STATUS : Nat := 0x00E00003
def LAST_CRITICAL : Nat := 0x00E00004
def ESCALATIONS : Nat := 0x00E00005
def FAULT_DROPS : Nat := 0x00E00006
def LOG_HEAD : Nat := 0x00E00007
def LOG_COMMITTED : Nat := 0x00E00008
def FAULT_CLEAR : Nat := 0x00E00009
def ACTIVE_HIGHEST : Nat := 0x00E01000
def ACTIVE_TABLE : Nat := 0x00E01001
def LOG_WIN_HIGHEST : Nat := 0x00E02000
def LOG_FROM : Nat := 0x00E02001
def LOG_WINDOW : Nat := 0x00E02002
/-! Objects of R547. -/
def THERM_HIGHEST : Nat := 0x00208000
def TJ_POWER : Nat := 0x00208001
def TJ_MAIN : Nat := 0x00208002
def TJ_CHAP : Nat := 0x00208003
def GOV_LEVEL : Nat := 0x00208004
def GOV_TIME_L1 : Nat := 0x00208005
def GOV_TIME_L2 : Nat := 0x00208006
def TJ_POWER_PEAK : Nat := 0x00208007
def STAGE_SHUTDOWNS : Nat := 0x00208008
/-! Objects of R523, by kind code `k`. -/
def KIND_HIGHEST (k : Nat) : Nat := 0x00E10000 + 256 * k
def FAULT_CLASS (k : Nat) : Nat := 0x00E10001 + 256 * k
def FAULT_REACT (k : Nat) : Nat := 0x00E10002 + 256 * k
def KIND_COUNT (k : Nat) : Nat := 0x00E10003 + 256 * k

end Sys2Proof.Obj
end

