-- ==== Sys2Proof/Config.lean ====
section
/-!
DEFINITION. Config.lean: what the spec leaves to a part, to a firmware release or to nothing at all. Every constant is
opaque or formed from opaque ones: no proof can see its value, so a statement about the model holds whatever it is. Each
names its log entry.
-/
namespace Sys2Proof.Config

/-- What the production test assigned, from which the part serial is formed (log 3). -/
opaque serialSource : BitVec 64
/-- R132, R547: the part serial, never 0 and never all ones (log 3). -/
def serial : BitVec 64 := .ofNat 64 (1 + serialSource.toNat % (2 ^ 64 - 2))
/-- R132: the part is a T740-HM; otherwise it is a T740-HA (log 3). -/
opaque isHm : Bool
/-- R132: ORDER_CODE: 1 T740-HA, 2 T740-HM (log 3). -/
def orderCode : Nat := if isHm then 2 else 1
/-- What the key of delivery is formed from (log 3). -/
opaque deliverySource : BitVec 128
/-- R139, R152: the COMMISSION key a part is delivered with, 16 bytes, not all zero (log 3). -/
def deliveryKey : BitVec 128 := .ofNat 128 (1 + deliverySource.toNat % (2 ^ 128 - 1))
/-- R513: what FAULT_CLASS reads for a kind whose class is set by cell or by accessor (log 4). -/
opaque openClass : Nat → Nat
/-- A value the spec does not state: the `n`-th one drawn in a run, 64 bits (log 5). -/
opaque freeValue : Nat → BitVec 64
/-- R389: what the ROM profile `p` gives the sealed entry `key`, none where it leaves the default (log 6). -/
opaque profile : Nat → Nat → Option Val
/-- Where the manual states a real value and no rounding: is a value that is no integer rounded up (log 7)? -/
opaque roundsUp : Rat → Bool
/-- What a quotient with divisor 0 gives, by its dividend (log 9). -/
opaque byZero : Rat → Rat
/-- What an integer quotient with divisor 0 gives, by its dividend (log 9). -/
opaque quotZero : Int → Int
/-- The integer a real result is rounded to: itself if it is one, else one of its two neighbours (log 7). -/
def fix (x : Rat) : Int := x.floor + (if x.den = 1 then 0 else if roundsUp x then 1 else 0)
/-- The integer an exact quotient is rounded to: itself if it is one, else one of its two neighbours (log 7). -/
def roundQuot (n : Int) (d : Nat) : Int :=
  if d = 0 then quotZero n else n / d + (if n % d = 0 then 0 else if roundsUp (mkRat n d) then 1 else 0)
/-- R485: which columns of weight 5 the data bits have, and the order of their columns (log 211). -/
opaque columnFives : Nat → Nat
opaque columnOrder : Nat → Nat
/-- R485: which column of even weight an address bit has (log 211). -/
opaque imagePick : Nat → Nat
/-- R525: the fault log entries in one erase block of flash, less 1 (log 11). -/
opaque logBlock : Nat
/-- R269: how an axis's unit node 23 names the source in use, by the source's observer entry and whether it is the second
source (log 195). -/
opaque sourceWord : Nat → Bool → BitVec 32

end Sys2Proof.Config
end

