-- ==== Sys2Proof/Machine/Numeric.lean ====
section
/-!
DEFINITION. Machine/Numeric.lean: the real functions the manual's formulas name, as rationals: constants to 35 places, the
others worked to 64 binary places (log 8). Where a result is stored as an integer, Config.fix rounds it.
-/
namespace Sys2Proof.Machine

/-- π to 35 places. [log 8 DESIGN CHOICE] -/
def piQ : Rat := 314159265358979323846264338327950288 / 100000000000000000000000000000000000
/-- √3 to 35 places. [log 8 DESIGN CHOICE] -/
def root3 : Rat := 173205080756887729352744634150587236 / 100000000000000000000000000000000000
/-- One unit of the fixed-point work: 64 binary places. -/
def unit64 : Nat := 2 ^ 64
/-- A rational as a multiple of 2^-64, rounded down. -/
def toFix (x : Rat) : Int := (x * unit64).floor
/-- A multiple of 2^-64 as a rational. -/
def ofFix (n : Int) : Rat := (n : Rat) / unit64

/-- The integer square root of `n`, found bit by bit from bit `k` − 1 down, above a root `r` found so far. -/
def sqrtBits (n : Nat) : Nat → Nat → Nat
  | 0, r => r
  | k + 1, r => sqrtBits n k (if (r + 2 ^ k) * (r + 2 ^ k) ≤ n then r + 2 ^ k else r)
/-- A square root, to 32 binary places for a value below 2^128; 0 below 0. [log 8 DESIGN CHOICE] -/
def rootOf (x : Rat) : Rat := (sqrtBits (toFix x).toNat 96 0 : Rat) / 4294967296

/-- The rest of the sine's power series from a term on, `x2` the square of the angle, all in units of 2^-64. -/
def sinSeries (x2 : Int) : Nat → Nat → Int → Int
  | 0, _, t => t
  | k + 1, i, t => t + sinSeries x2 k (i + 2) (-(t * x2 / (unit64 * ((i + 1) * (i + 2)) : Nat)))
/-- The sine of an angle from 0 to a quarter turn, in units of 2^-64. -/
def sinFix (x : Rat) : Int := sinSeries (toFix (x * x)) 16 1 (toFix x)
/-- The sine of the angle a × 2π ÷ 65,536, exact at whole quarters of a turn. [log 8 DESIGN CHOICE] -/
def sinTurn (a : Nat) : Rat :=
  let r := a % 16384
  let up := ofFix (sinFix (piQ * r / 32768))
  let down := ofFix (sinFix (piQ * (16384 - r : Nat) / 32768))
  match a / 16384 % 4 with
  | 0 => if r = 0 then 0 else up
  | 1 => if r = 0 then 1 else down
  | 2 => if r = 0 then 0 else -up
  | _ => if r = 0 then -1 else -down
/-- R263: sine and cosine to 16-bit precision of the angle θ whose bits [31:16] are given. [log 9 DESIGN CHOICE] -/
def sine (a : Nat) : Rat := (Config.fix (sinTurn a * 65536) : Rat) / 65536
/-- R263: the cosine to the same precision. [log 9 DESIGN CHOICE] -/
def cosine (a : Nat) : Rat := (Config.fix (sinTurn (a + 16384) * 65536) : Rat) / 65536

/-- The rest of the arctangent's power series from a power on, in units of 2^-64. -/
def atanSeries (x2 : Int) : Nat → Nat → Int → Int
  | 0, i, p => p / i
  | k + 1, i, p => p / i - atanSeries x2 k (i + 2) (p * x2 / unit64)
/-- The tangent of half the angle whose tangent is given. -/
def halfTan (t : Rat) : Rat := t / (1 + rootOf (1 + t * t))
/-- The arctangent of a rational from 0 to 1. -/
def atanQ (t : Rat) : Rat :=
  let u := halfTan (halfTan t)
  4 * ofFix (atanSeries (toFix (u * u)) 20 1 (toFix u))
/-- The angle of the point (x, y) in radians, from −π to π; 0 for the origin. [log 8 DESIGN CHOICE] -/
def angleOf (x y : Rat) : Rat :=
  let first := if y.abs ≤ x.abs then (if x = 0 then 0 else atanQ (y.abs / x.abs)) else piQ / 2 - atanQ (x.abs / y.abs)
  let upper := if 0 ≤ x then first else piQ - first
  if 0 ≤ y then upper else -upper
/-- R265: the angle in radians, wrapped to ±π, from one current vector to the next. -/
def turned (v w : Int × Int) : Rat := angleOf (v.1 * w.1 + v.2 * w.2 : Int) (v.1 * w.2 - v.2 * w.1 : Int)

/-- The rest of the power series of e^−x from a term on, in units of 2^-64. -/
def expSeries (x : Int) : Nat → Nat → Int → Int
  | 0, _, t => t
  | k + 1, i, t => t + expSeries x k (i + 1) (-(t * x / (unit64 * i : Nat)))
/-- e^−u for u from 0 on: the series for u ÷ 1,024, squared ten times. [log 8 DESIGN CHOICE] -/
def decay (u : Rat) : Rat :=
  if 64 ≤ u then 0
  else ofFix ((List.range 10).foldl (fun y _ => y * y / unit64) (expSeries (toFix (u / 1024)) 12 1 unit64))
/-- R276: a first-order filter with a time constant: the old value, the new input, the time step and the constant. [log 9
DESIGN CHOICE] -/
def lowPass (y x dt tau : Rat) : Rat := if tau = 0 then x else x + (y - x) * decay (dt / tau)

end Sys2Proof.Machine
end

