-- ==== Sys2Proof/Machine/Objects.lean ====
section
/-!
DEFINITION. Machine/Objects.lean: the object tables of the manual as data (R126–R131): for every entry its index, its
sub-index, its type (R127), access (R128), persistence (R129), level (R130), stated range or permitted set (R551) and
default. One row stands for an entry of every unit of its kind.
-/
namespace Sys2Proof

/-- R313: round(32,768 × sin(i × π ÷ 512)) for i from 0 to 256. -/
def sineQuarter : List Nat :=
  [0, 201, 402, 603, 804, 1005, 1206, 1407, 1608, 1809, 2009, 2210, 2411, 2611, 2811, 3012, 3212, 3412, 3612, 3812, 4011, 4211, 4410, 4609, 4808, 5007, 5205, 5404, 5602, 5800, 5998, 6195, 6393, 6590, 6787, 6983, 7180, 7376, 7571, 7767, 7962, 8157, 8351, 8546, 8740, 8933, 9127, 9319, 9512, 9704, 9896, 10088, 10279, 10469, 10660, 10850, 11039, 11228, 11417, 11605, 11793, 11980, 12167, 12354] ++
  [12540, 12725, 12910, 13095, 13279, 13463, 13646, 13828, 14010, 14192, 14373, 14553, 14733, 14912, 15091, 15269, 15447, 15624, 15800, 15976, 16151, 16326, 16500, 16673, 16846, 17018, 17190, 17361, 17531, 17700, 17869, 18037, 18205, 18372, 18538, 18703, 18868, 19032, 19195, 19358, 19520, 19681, 19841, 20001, 20160, 20318, 20475, 20632, 20788, 20943, 21097, 21251, 21403, 21555, 21706, 21856, 22006, 22154, 22302, 22449, 22595, 22740, 22884, 23028] ++
  [23170, 23312, 23453, 23593, 23732, 23870, 24008, 24144, 24279, 24414, 24548, 24680, 24812, 24943, 25073, 25202, 25330, 25457, 25583, 25708, 25833, 25956, 26078, 26199, 26320, 26439, 26557, 26674, 26791, 26906, 27020, 27133, 27246, 27357, 27467, 27576, 27684, 27791, 27897, 28002, 28106, 28209, 28311, 28411, 28511, 28610, 28707, 28803, 28899, 28993, 29086, 29178, 29269, 29359, 29448, 29535, 29622, 29707, 29792, 29875, 29957, 30038, 30118, 30196] ++
  [30274, 30350, 30425, 30499, 30572, 30644, 30715, 30784, 30853, 30920, 30986, 31050, 31114, 31177, 31238, 31298, 31357, 31415, 31471, 31527, 31581, 31634, 31686, 31737, 31786, 31834, 31881, 31927, 31972, 32015, 32058, 32099, 32138, 32177, 32214, 32251, 32286, 32319, 32352, 32383, 32413, 32442, 32470, 32496, 32522, 32546, 32568, 32590, 32610, 32629, 32647, 32664, 32679, 32693, 32706, 32718, 32729, 32738, 32746, 32753, 32758, 32762, 32766, 32767] ++
  [32768]

/-- R313: the default VS_SINE_TABLE, rows of ta then tb, little-endian. -/
def sineTableDefault : List Byte :=
  (List.range 256).flatMap fun i => le 2 (sineQuarter.getD (256 - i) 0) ++ le 2 (sineQuarter.getD i 0)
/-- R336, R352: the default PEDAL_MAP, (0, 0) and (10,000, 5,000). -/
def pedalMapDefault : List Byte := le 2 0 ++ le 2 0 ++ le 2 10000 ++ le 2 5000
/-- One schedule row of R411. -/
def schedRowBits (window type owner length start : Nat) : List Byte :=
  le 8 (window <<< 59 + type <<< 57 + owner <<< 40 + length <<< 28 + start)
/-- R416: the default SCHED_C. -/
def schedCDefault : List Byte :=
  schedRowBits 0 1 1 28 0 ++ schedRowBits 1 1 2 28 9560 ++ schedRowBits 2 1 3 28 19120 ++
  schedRowBits 3 2 8 32 28680 ++ schedRowBits 4 1 0x7F 615 38680
/-- One scan row of R167 in time mode on the internal reference: 4 × 250 µs window, 20 µs settle. -/
def scanRowDefault (ch : Nat) : List Byte := le 4 (ch <<< 26 + 4 <<< 12 + 20 <<< 4)
/-- R183: the default scan table of GCg. -/
def gcScanDefault (g : Nat) : List Byte :=
  match g with
  | 0 => scanRowDefault 48 ++ scanRowDefault 49 ++ scanRowDefault 50
  | 1 => scanRowDefault 51 ++ scanRowDefault 52 ++ scanRowDefault 57
  | 2 => scanRowDefault 53 ++ scanRowDefault 54 ++ scanRowDefault 58
  | _ => scanRowDefault 55 ++ scanRowDefault 56 ++ scanRowDefault 59

/-- R34. -/
def objectsR34 : List ObjRow :=
  [⟨0x2010, 1, 1, 0x00, 1, 1, .u8, .ro, .stored, .basic, .any, (.nat 5)⟩,
   ⟨0x2010, 1, 1, 0x01, 1, 1, .u8, .rwc, .sealed, .basic, (.set [8, 16, 32]), (.nat 16)⟩,
   ⟨0x2010, 1, 1, 0x02, 1, 1, .u32, .ro, .volUnit, .basic, .any, (.nat 12500)⟩,
   ⟨0x2010, 1, 1, 0x03, 1, 1, .u8, .ro, .volUnit, .expert, .any, (.nat 0)⟩,
   ⟨0x2010, 1, 1, 0x04, 1, 1, .u8, .ro, .volUnit, .basic, .any, (.nat 0)⟩,
   ⟨0x2010, 1, 1, 0x05, 1, 1, .u64, .ro, .volUnit, .basic, .any, (.nat 0)⟩]
/-- R42. -/
def objectsR42 : List ObjRow :=
  [⟨0x2000, 1, 1, 0x00, 1, 1, .u8, .ro, .stored, .basic, .any, (.nat 7)⟩,
   ⟨0x2000, 1, 1, 0x01, 1, 1, .u8, .ro, .volUnit, .basic, .any, (.nat 0)⟩,
   ⟨0x2000, 1, 1, 0x02, 1, 1, .u8, .ro, .volUnit, .basic, .any, (.nat 0)⟩,
   ⟨0x2000, 1, 1, 0x03, 1, 1, .u8, .ro, .volUnit, .basic, .any, (.nat 0)⟩,
   ⟨0x2000, 1, 1, 0x04, 1, 1, .u8, .ro, .volUnit, .basic, .any, (.nat 0)⟩,
   ⟨0x2000, 1, 1, 0x05, 1, 1, .u8, .ro, .volUnit, .basic, .any, (.nat 0)⟩,
   ⟨0x2000, 1, 1, 0x06, 1, 1, .bool, .ro, .volUnit, .basic, .any, (.nat 0)⟩,
   ⟨0x2000, 1, 1, 0x07, 1, 1, .bool, .ro, .volUnit, .basic, .any, (.nat 0)⟩]
/-- R68. -/
def objectsR68 : List ObjRow :=
  [⟨0x2030, 1, 1, 0x00, 1, 1, .u8, .ro, .stored, .basic, .any, (.nat 5)⟩,
   ⟨0x2030, 1, 1, 0x01, 1, 1, .u32, .ro, .volUnit, .basic, .any, (.nat 0)⟩,
   ⟨0x2030, 1, 1, 0x02, 1, 1, .u32, .ro, .volUnit, .expert, .any, (.nat 0)⟩,
   ⟨0x2030, 1, 1, 0x03, 1, 1, .u8, .ro, .volUnit, .basic, .any, (.nat 0)⟩,
   ⟨0x2030, 1, 1, 0x04, 1, 1, .u32, .ro, .volUnit, .expert, .any, (.nat 0)⟩,
   ⟨0x2030, 1, 1, 0x05, 1, 1, .u8, .ro, .volUnit, .basic, .any, (.nat 255)⟩,
   ⟨0x2040, 1, 1, 0x00, 1, 1, .u8, .ro, .stored, .basic, .any, (.nat 7)⟩,
   ⟨0x2040, 1, 1, 0x01, 1, 1, .u16, .ro, .volUnit, .basic, .any, (.nat 0)⟩,
   ⟨0x2040, 1, 1, 0x02, 1, 1, .u16, .ro, .volUnit, .basic, .any, (.nat 0)⟩,
   ⟨0x2040, 1, 1, 0x03, 1, 1, .u16, .ro, .volUnit, .basic, .any, (.nat 0)⟩,
   ⟨0x2040, 1, 1, 0x04, 1, 1, .u16, .ro, .volUnit, .basic, .any, (.nat 0)⟩,
   ⟨0x2040, 1, 1, 0x05, 1, 1, .u16, .ro, .volUnit, .basic, .any, (.nat 0)⟩,
   ⟨0x2040, 1, 1, 0x06, 1, 1, .u16, .ro, .volUnit, .basic, .any, (.nat 0)⟩,
   ⟨0x2040, 1, 1, 0x07, 1, 1, .u8, .ro, .volUnit, .expert, .any, (.nat 0)⟩]
/-- R96. -/
def objectsR96_1 : List ObjRow :=
  [⟨0x2050, 1, 1, 0x00, 1, 1, .u8, .ro, .stored, .basic, .any, (.nat 6)⟩,
   ⟨0x2050, 1, 1, 0x01, 1, 1, .u8, .ro, .volUnit, .basic, .any, (.nat 1)⟩,
   ⟨0x2050, 1, 1, 0x02, 1, 1, .u8, .ro, .volUnit, .basic, .any, (.nat 3)⟩,
   ⟨0x2050, 1, 1, 0x03, 1, 1, .u8, .ro, .volUnit, .basic, .any, (.nat 3)⟩,
   ⟨0x2050, 1, 1, 0x04, 1, 1, .u32, .ro, .retained, .expert, .any, (.nat 0)⟩,
   ⟨0x2050, 1, 1, 0x05, 1, 1, .u8, .rw, .stored, .basic, (.set [0, 1]), (.nat 0)⟩,
   ⟨0x2050, 1, 1, 0x06, 1, 1, .u32, .ro, .retained, .expert, .any, (.nat 0)⟩,
   ⟨0x2051, 1, 1, 0x00, 1, 1, .u8, .ro, .stored, .expert, .any, (.nat 15)⟩,
   ⟨0x2051, 1, 1, 0x01, 1, 15, .u8, .ro, .volUnit, .expert, .any, (.nat 0)⟩,
   ⟨0x2052, 1, 1, 0x00, 1, 1, .u8, .ro, .stored, .expert, .any, (.nat 11)⟩,
   ⟨0x2052, 1, 1, 0x01, 1, 1, .u8, .rw, .stored, .expert, (.rng 0 31), (.nat 1)⟩,
   ⟨0x2052, 1, 1, 0x02, 1, 1, .u8, .rw, .stored, .expert, (.nzRng 1 16), (.nat 2)⟩,
   ⟨0x2052, 1, 1, 0x03, 1, 1, .u8, .rw, .stored, .expert, (.rng 0 31), (.nat 1)⟩,
   ⟨0x2052, 1, 1, 0x04, 1, 1, .u8, .rw, .stored, .basic, (.rng 0 31), (.nat 15)⟩,
   ⟨0x2052, 1, 1, 0x05, 1, 1, .u8, .rw, .stored, .expert, (.rng 0 31), (.nat 1)⟩,
   ⟨0x2052, 1, 1, 0x06, 1, 1, .u8, .rw, .stored, .expert, (.rng 0 31), (.nat 15)⟩,
   ⟨0x2052, 1, 1, 0x07, 1, 1, .u16, .rw, .stored, .basic, (.rng 0 60000), (.nat 100)⟩,
   ⟨0x2052, 1, 1, 0x08, 1, 1, .u16, .rw, .stored, .basic, (.rng 0 60000), (.nat 200)⟩,
   ⟨0x2052, 1, 1, 0x09, 1, 1, .u16, .rw, .stored, .basic, (.rng 0 60000), (.nat 2000)⟩,
   ⟨0x2052, 1, 1, 0x0A, 1, 1, .u16, .rw, .stored, .basic, (.rng 0 60000), (.nat 1000)⟩,
   ⟨0x2052, 1, 1, 0x0B, 1, 1, .u16, .rw, .stored, .expert, (.rng 100 10000), (.nat 500)⟩,
   ⟨0x2054, 1, 1, 0x00, 1, 1, .u8, .ro, .stored, .basic, .any, (.nat 7)⟩,
   ⟨0x2054, 1, 1, 0x01, 1, 1, .u8, .rw, .stored, .basic, (.set [0, 1, 2, 3]), (.nat 3)⟩,
   ⟨0x2054, 1, 1, 0x02, 1, 1, .u8, .rw, .stored, .basic, (.set [0, 1, 2, 3]), (.nat 3)⟩,
   ⟨0x2054, 1, 1, 0x03, 1, 1, .u16, .rw, .stored, .basic, (.nzRng 1 65535), (.nat 328)⟩,
   ⟨0x2054, 1, 1, 0x04, 1, 1, .u16, .rw, .stored, .basic, (.nzRng 1 65535), (.nat 328)⟩,
   ⟨0x2054, 1, 1, 0x05, 1, 1, .u8, .rw, .stored, .basic, (.set [0, 1, 2]), (.nat 0)⟩,
   ⟨0x2054, 1, 1, 0x06, 1, 1, .u32, .rw, .stored, .basic, .any, (.nat 0)⟩,
   ⟨0x2054, 1, 1, 0x07, 1, 1, .u32, .rw, .stored, .basic, .any, (.nat 86400)⟩,
   ⟨0x2055, 1, 1, 0x00, 1, 1, .u8, .ro, .stored, .basic, .any, (.nat 5)⟩]
/-- R96. -/
def objectsR96_2 : List ObjRow :=
  [⟨0x2055, 1, 1, 0x01, 1, 1, .u32, .rw, .stored, .basic, .any, (.nat 0)⟩,
   ⟨0x2055, 1, 1, 0x02, 1, 1, .u32, .rw, .stored, .basic, .any, (.nat 536870911)⟩,
   ⟨0x2055, 1, 1, 0x03, 1, 1, .u8, .rw, .stored, .basic, (.rng 0 8), (.nat 8)⟩,
   ⟨0x2055, 1, 1, 0x04, 1, 1, (.octets 8), .rw, .stored, .basic, .any, (.oct (zeros 8))⟩,
   ⟨0x2055, 1, 1, 0x05, 1, 1, (.octets 8), .rw, .stored, .basic, .any, (.oct (zeros 8))⟩,
   ⟨0x2056, 1, 1, 0x00, 1, 1, .u8, .ro, .stored, .basic, .any, (.nat 8)⟩,
   ⟨0x2056, 1, 1, 0x01, 1, 1, .u8, .ro, .retained, .basic, .any, (.nat 0)⟩,
   ⟨0x2056, 1, 1, 0x02, 1, 1, .u16, .ro, .retained, .basic, .any, (.nat 1)⟩,
   ⟨0x2056, 1, 1, 0x03, 1, 1, .u64, .ro, .retained, .basic, .any, (.nat 18446744073709551615)⟩,
   ⟨0x2056, 1, 1, 0x04, 1, 1, .u8, .ro, .retained, .basic, .any, (.nat 0)⟩,
   ⟨0x2056, 1, 1, 0x05, 1, 1, .u32, .ro, .retained, .basic, .any, (.nat 0)⟩,
   ⟨0x2056, 1, 1, 0x06, 1, 1, .u32, .ro, .retained, .basic, .any, (.nat 0)⟩,
   ⟨0x2056, 1, 1, 0x07, 1, 1, .u16, .ro, .retained, .basic, .any, (.nat 0)⟩,
   ⟨0x2056, 1, 1, 0x08, 1, 1, .u32, .ro, .volUnit, .expert, .any, (.nat 0)⟩]
/-- R96. -/
def objectsR96 : List ObjRow := objectsR96_1 ++ objectsR96_2
/-- R125. -/
def objectsR125_1 : List ObjRow :=
  [⟨0x1020, 1, 1, 0x00, 1, 1, .u8, .ro, .stored, .basic, .any, (.nat 11)⟩,
   ⟨0x1020, 1, 1, 0x01, 1, 1, .u8, .ro, .volUnit, .basic, .any, (.nat 0)⟩,
   ⟨0x1020, 1, 1, 0x02, 1, 1, .u8, .rw, .stored, .basic, (.set [0, 1]), (.nat 0)⟩,
   ⟨0x1020, 1, 1, 0x03, 1, 1, .u8, .ro, .stored, .basic, .any, (.nat 3)⟩,
   ⟨0x1020, 1, 1, 0x04, 1, 1, .u8, .ro, .stored, .basic, .any, (.nat 0)⟩,
   ⟨0x1020, 1, 1, 0x05, 1, 1, .u32, .ro, .stored, .basic, .any, (.nat 0)⟩,
   ⟨0x1020, 1, 1, 0x06, 1, 1, .u32, .ro, .stored, .basic, .any, (.nat 0)⟩,
   ⟨0x1020, 1, 1, 0x07, 1, 1, .u16, .ro, .stored, .expert, .any, (.nat 0)⟩,
   ⟨0x1020, 1, 1, 0x08, 1, 1, .u16, .ro, .stored, .expert, .any, (.nat 0)⟩,
   ⟨0x1020, 1, 1, 0x09, 1, 1, .u16, .ro, .stored, .expert, .any, (.nat 0)⟩,
   ⟨0x1020, 1, 1, 0x0A, 1, 1, .u8, .wo, .volUnit, .basic, (.set [165]), (.nat 0)⟩,
   ⟨0x1020, 1, 1, 0x0B, 1, 1, .u8, .ro, .stored, .expert, .any, (.nat 0)⟩,
   ⟨0x2060, 1, 1, 0x00, 1, 1, .u8, .ro, .stored, .basic, .any, (.nat 12)⟩,
   ⟨0x2060, 1, 1, 0x01, 1, 1, .u8, .ro, .volUnit, .basic, .any, (.nat 1)⟩,
   ⟨0x2060, 1, 1, 0x02, 1, 1, .u16, .ro, .volUnit, .basic, .any, (.nat 1)⟩,
   ⟨0x2060, 1, 1, 0x03, 1, 1, .u8, .ro, .retained, .basic, .any, (.nat 0)⟩,
   ⟨0x2060, 1, 1, 0x04, 1, 1, .u32, .ro, .volUnit, .basic, .any, (.nat 0)⟩,
   ⟨0x2060, 1, 1, 0x05, 1, 1, .u8, .ro, .volUnit, .basic, .any, (.nat 0)⟩,
   ⟨0x2060, 1, 1, 0x06, 1, 1, .u16, .ro, .volUnit, .expert, .any, (.nat 0)⟩,
   ⟨0x2060, 1, 1, 0x07, 1, 1, .u32, .ro, .stored, .expert, .any, (.nat 0)⟩,
   ⟨0x2060, 1, 1, 0x08, 1, 1, .u32, .ro, .retained, .expert, .any, (.nat 0)⟩,
   ⟨0x2060, 1, 1, 0x09, 1, 1, .bool, .rw, .retained, .basic, .any, (.nat 0)⟩,
   ⟨0x2060, 1, 1, 0x0A, 1, 1, .bool, .rw, .stored, .basic, .any, (.nat 1)⟩,
   ⟨0x2060, 1, 1, 0x0B, 1, 1, .u16, .rw, .stored, .expert, (.rng 0 200), (.nat 20)⟩,
   ⟨0x2060, 1, 1, 0x0C, 1, 1, .u8, .wo, .volUnit, .basic, (.set [90]), (.nat 0)⟩,
   ⟨0x2062, 1, 1, 0x00, 1, 1, .u8, .ro, .stored, .basic, .any, (.nat 11)⟩,
   ⟨0x2062, 1, 1, 0x01, 1, 1, .u8, .ro, .stored, .basic, .any, (.nat 0)⟩,
   ⟨0x2062, 1, 1, 0x02, 1, 1, .u32, .ro, .stored, .expert, .any, (.nat 0)⟩,
   ⟨0x2062, 1, 1, 0x03, 1, 1, .u32, .ro, .stored, .expert, .any, (.nat 0)⟩,
   ⟨0x2062, 1, 1, 0x04, 1, 1, .u64, .ro, .stored, .basic, .any, (.nat 18446744073709551615)⟩]
/-- R125. -/
def objectsR125_2 : List ObjRow :=
  [⟨0x2062, 1, 1, 0x05, 1, 1, .u32, .ro, .stored, .expert, .any, (.nat 0)⟩,
   ⟨0x2062, 1, 1, 0x06, 1, 6, (.octets 16), .ro, .stored, .basic, .any, (.oct (zeros 16))⟩,
   ⟨0x9030, 1, 1, 0x00, 1, 1, .u8, .ro, .stored, .expert, .any, (.nat 5)⟩,
   ⟨0x9030, 1, 1, 0x01, 1, 1, .bool, .rwc, .sealed, .expert, .any, (.nat 1)⟩,
   ⟨0x9030, 1, 1, 0x02, 1, 1, .u16, .rwc, .sealed, .expert, (.rng 100 5000), (.nat 500)⟩,
   ⟨0x9030, 1, 1, 0x03, 1, 1, .u8, .rwc, .sealed, .expert, (.rng 0 7), (.nat 2)⟩,
   ⟨0x9030, 1, 1, 0x04, 1, 1, .u8, .ro, .retained, .expert, .any, (.nat 0)⟩,
   ⟨0x9030, 1, 1, 0x05, 1, 1, .u16, .rwc, .sealed, .expert, (.rng 2500 5000), (.nat 3000)⟩]
/-- R125. -/
def objectsR125 : List ObjRow := objectsR125_1 ++ objectsR125_2
/-- R132. -/
def objectsR132 : List ObjRow :=
  [⟨0x1000, 1, 1, 0x00, 1, 1, .u8, .ro, .stored, .basic, .any, (.nat 7)⟩,
   ⟨0x1000, 1, 1, 0x01, 1, 1, (.string 16), .ro, .stored, .basic, .any, (.oct (bytesOf [0x51, 0x75, 0x69, 0x6E, 0x76, 0x65, 0x6E]))⟩,
   ⟨0x1000, 1, 1, 0x02, 1, 1, (.string 16), .ro, .stored, .basic, .any, (.oct (bytesOf [0x54, 0x72, 0x61, 0x6C, 0x64, 0x6F, 0x6C, 0x65, 0x20, 0x54, 0x37, 0x34, 0x30]))⟩,
   ⟨0x1000, 1, 1, 0x03, 1, 1, .u8, .ro, .stored, .basic, .any, (.nat Config.orderCode)⟩,
   ⟨0x1000, 1, 1, 0x04, 1, 1, .u8, .ro, .stored, .basic, .any, (.nat 67)⟩,
   ⟨0x1000, 1, 1, 0x05, 1, 1, .u8, .ro, .stored, .basic, .any, (.nat 192)⟩,
   ⟨0x1000, 1, 1, 0x06, 1, 1, .u64, .ro, .stored, .basic, .any, (.nat Config.serial.toNat)⟩,
   ⟨0x1000, 1, 1, 0x07, 1, 1, .u8, .ro, .stored, .expert, .any, (.nat 176)⟩]
/-- R152. -/
def objectsR152 : List ObjRow :=
  [⟨0x2F00, 1, 1, 0x00, 1, 1, .u8, .ro, .stored, .basic, .any, (.nat 8)⟩,
   ⟨0x2F00, 1, 1, 0x01, 1, 1, .u8, .ro, .volUnit, .basic, .any, (.nat 0)⟩,
   ⟨0x2F00, 1, 1, 0x02, 1, 1, .u32, .ro, .volUnit, .basic, .any, (.nat 0)⟩,
   ⟨0x2F00, 1, 1, 0x03, 1, 1, .u16, .rw, .stored, .basic, (.rng 10 3600), (.nat 60)⟩,
   ⟨0x2F00, 1, 1, 0x04, 1, 1, .u8, .ro, .retained, .basic, .any, (.nat 0)⟩,
   ⟨0x2F00, 1, 1, 0x05, 1, 1, .u16, .ro, .volUnit, .basic, .any, (.nat 0)⟩,
   ⟨0x2F00, 1, 1, 0x06, 1, 1, .u8, .ro, .stored, .basic, .any, (.nat 20)⟩,
   ⟨0x2F00, 1, 1, 0x07, 1, 1, .u8, .ro, .volUnit, .expert, .any, (.nat 0)⟩,
   ⟨0x2F00, 1, 1, 0x08, 1, 1, .u16, .rw, .stored, .expert, (.rng 50 5000), (.nat 500)⟩,
   ⟨0x2F01, 1, 1, 0x00, 1, 1, .u8, .ro, .stored, .basic, .any, (.nat 7)⟩,
   ⟨0x2F01, 1, 1, 0x01, 1, 1, .u32, .ro, .volUnit, .basic, .any, (.nat 0)⟩,
   ⟨0x2F01, 1, 1, 0x02, 1, 1, .u32, .wo, .volUnit, .basic, .any, (.nat 0)⟩,
   ⟨0x2F01, 1, 1, 0x03, 1, 1, .u8, .ro, .stored, .basic, .any, (.nat 0)⟩,
   ⟨0x2F01, 1, 1, 0x04, 1, 1, .u32, .ro, .stored, .basic, .any, (.nat 0)⟩,
   ⟨0x2F01, 1, 1, 0x05, 1, 1, .u32, .ro, .stored, .basic, .any, (.nat 0)⟩,
   ⟨0x2F01, 1, 1, 0x06, 1, 1, .u64, .ro, .stored, .basic, .any, (.nat 18446744073709551615)⟩,
   ⟨0x2F01, 1, 1, 0x07, 1, 1, .u16, .ro, .volUnit, .expert, .any, (.nat 0)⟩,
   ⟨0x2F10, 1, 1, 0x00, 1, 1, .u8, .ro, .stored, .expert, .any, (.nat 3)⟩,
   ⟨0x2F10, 1, 1, 0x01, 1, 1, (.octets 16), .wo, .stored, .expert, .any, (.oct (zeros 16))⟩,
   ⟨0x2F10, 1, 1, 0x02, 1, 1, (.octets 16), .wo, .stored, .expert, .any, (.oct (zeros 16))⟩,
   ⟨0x2F10, 1, 1, 0x03, 1, 1, (.octets 16), .wo, .stored, .expert, .any, (.oct (le 16 Config.deliveryKey.toNat))⟩]
/-- R182. -/
def objectsR182_1 : List ObjRow :=
  [⟨0x3000, 1, 1, 0x00, 1, 1, .u8, .ro, .stored, .basic, .any, (.nat 10)⟩,
   ⟨0x3000, 1, 1, 0x01, 1, 1, .u8, .wo, .volUnit, .basic, (.set [197]), (.nat 0)⟩,
   ⟨0x3000, 1, 1, 0x02, 1, 1, .u8, .ro, .volUnit, .basic, .any, (.nat 0)⟩,
   ⟨0x3000, 1, 1, 0x03, 1, 1, .u64, .ro, .volUnit, .basic, .any, (.nat 0)⟩,
   ⟨0x3000, 1, 1, 0x04, 1, 1, .u64, .ro, .volUnit, .expert, .any, (.nat 18446744073709551615)⟩,
   ⟨0x3000, 1, 1, 0x05, 1, 1, .u8, .rwr, .stored, .basic, (.set [0, 1]), (.nat 0)⟩,
   ⟨0x3000, 1, 1, 0x06, 1, 1, .u8, .rwr, .stored, .basic, (.set [0, 1]), (.nat 0)⟩,
   ⟨0x3000, 1, 1, 0x07, 1, 1, .u16, .rwr, .stored, .expert, (.step 0 1000 10), (.nat 250)⟩,
   ⟨0x3000, 1, 1, 0x08, 1, 1, .u16, .ro, .stored, .expert, .any, (.nat 160)⟩,
   ⟨0x3000, 1, 1, 0x09, 1, 1, .u32, .rw, .stored, .expert, (.rng 1 1048576), (.nat 16777)⟩,
   ⟨0x3000, 1, 1, 0x0A, 1, 1, .u8, .ro, .volUnit, .basic, .any, (.nat 0)⟩,
   ⟨0x3100, 1, 18, 0x00, 1, 1, .u8, .ro, .stored, .expert, .any, (.nat 5)⟩,
   ⟨0x3100, 1, 18, 0x01, 1, 1, .i32, .ro, .volUnit, .basic, .any, (.nat 0)⟩,
   ⟨0x3100, 1, 18, 0x02, 1, 1, .u32, .ro, .volUnit, .basic, .any, (.nat 80)⟩,
   ⟨0x3100, 1, 18, 0x03, 1, 1, .u32, .ro, .volUnit, .expert, .any, (.nat 0)⟩,
   ⟨0x3100, 1, 18, 0x04, 1, 1, .i32, .ro, .volUnit, .expert, .any, (.nat 0)⟩,
   ⟨0x3100, 1, 18, 0x05, 1, 1, .u16, .ro, .volUnit, .expert, .any, (.nat 32768)⟩,
   ⟨0x3140, 1, 16, 0x00, 1, 1, .u8, .ro, .stored, .expert, .any, (.nat 5)⟩,
   ⟨0x3140, 1, 16, 0x01, 1, 1, .i32, .ro, .volUnit, .basic, .any, (.nat 0)⟩,
   ⟨0x3140, 1, 16, 0x02, 1, 1, .u32, .ro, .volUnit, .basic, .any, (.nat 80)⟩,
   ⟨0x3140, 1, 16, 0x03, 1, 1, .u32, .ro, .volUnit, .expert, .any, (.nat 0)⟩,
   ⟨0x3140, 1, 16, 0x04, 1, 1, .i32, .ro, .volUnit, .expert, .any, (.nat 0)⟩,
   ⟨0x3140, 1, 16, 0x05, 1, 1, .u16, .ro, .volUnit, .expert, .any, (.nat 32768)⟩,
   ⟨0x3180, 1, 4, 0x00, 1, 1, .u8, .ro, .stored, .expert, .any, (.nat 3)⟩,
   ⟨0x3180, 1, 4, 0x01, 1, 1, .i32, .ro, .volUnit, .expert, .any, (.nat 0)⟩,
   ⟨0x3180, 1, 4, 0x02, 1, 1, .u16, .ro, .volUnit, .expert, .any, (.nat 32768)⟩,
   ⟨0x3180, 1, 1, 0x03, 1, 1, (.table 4), .rw, .stored, .expert, .any, (.oct (gcScanDefault 0))⟩,
   ⟨0x3181, 1, 1, 0x03, 1, 1, (.table 4), .rw, .stored, .expert, .any, (.oct (gcScanDefault 1))⟩,
   ⟨0x3182, 1, 1, 0x03, 1, 1, (.table 4), .rw, .stored, .expert, .any, (.oct (gcScanDefault 2))⟩,
   ⟨0x3183, 1, 1, 0x03, 1, 1, (.table 4), .rw, .stored, .expert, .any, (.oct (gcScanDefault 3))⟩]
/-- R182. -/
def objectsR182_2 : List ObjRow :=
  [⟨0x31C0, 1, 60, 0x00, 1, 1, .u8, .ro, .stored, .expert, .any, (.nat 2)⟩,
   ⟨0x31C0, 1, 60, 0x01, 1, 1, .i32, .ro, .volUnit, .basic, .any, (.nat 0)⟩,
   ⟨0x31C0, 1, 60, 0x02, 1, 1, .u32, .ro, .volUnit, .basic, .any, (.nat 80)⟩,
   ⟨0x3300, 1, 1, 0x00, 1, 1, .u8, .ro, .stored, .basic, .any, (.nat 4)⟩,
   ⟨0x3300, 1, 1, 0x01, 1, 1, .u8, .rw, .stored, .basic, (.rng 0 15), (.nat 15)⟩,
   ⟨0x3300, 1, 1, 0x02, 1, 1, .u8, .ro, .volUnit, .basic, .any, (.nat 0)⟩,
   ⟨0x3300, 1, 1, 0x03, 1, 1, .u8, .wo, .volUnit, .basic, (.set [90]), (.nat 0)⟩,
   ⟨0x3300, 1, 1, 0x04, 1, 1, .u8, .rw, .stored, .expert, (.rng 1 32), (.nat 8)⟩]
/-- R182. -/
def objectsR182 : List ObjRow := objectsR182_1 ++ objectsR182_2
/-- R217. -/
def objectsR217_1 : List ObjRow :=
  [⟨0x4000, 64, 12, 0x00, 1, 1, .u8, .ro, .stored, .basic, .any, (.nat 63)⟩,
   ⟨0x4000, 64, 12, 0x01, 1, 1, .u8, .rwr, .stored, .basic, (.set [0, 1, 2]), (.nat 0)⟩,
   ⟨0x4000, 64, 12, 0x02, 1, 1, .u8, .rwr, .stored, .basic, (.set [1, 2, 4]), (.nat 4)⟩,
   ⟨0x4000, 64, 12, 0x03, 1, 1, .bool, .rwr, .stored, .basic, .any, (.nat 0)⟩,
   ⟨0x4000, 64, 12, 0x04, 1, 1, .u8, .rwr, .stored, .basic, (.nzRng 1 255), (.nat 16)⟩,
   ⟨0x4000, 64, 12, 0x05, 1, 1, .u8, .rwr, .stored, .basic, (.rng 1 16), (.nat 2)⟩,
   ⟨0x4000, 64, 12, 0x06, 1, 1, .u32, .rwr, .volUnit, .basic, .any, (.nat 0)⟩,
   ⟨0x4000, 64, 12, 0x07, 1, 1, .u32, .ro, .volUnit, .basic, .any, (.nat 0)⟩,
   ⟨0x4000, 64, 12, 0x08, 1, 1, .i64, .ro, .keepRegion, .basic, .any, (.nat 0)⟩,
   ⟨0x4000, 64, 12, 0x09, 1, 1, .i64, .wo, .volUnit, .basic, .any, (.nat 0)⟩,
   ⟨0x4000, 64, 12, 0x0A, 1, 1, .u32, .ro, .volUnit, .expert, .any, (.nat 0)⟩,
   ⟨0x4000, 64, 12, 0x0B, 1, 1, .u32, .ro, .volUnit, .expert, .any, (.nat 0)⟩,
   ⟨0x4000, 64, 12, 0x0C, 1, 1, .u32, .rwr, .stored, .basic, .any, (.nat 0)⟩,
   ⟨0x4000, 64, 12, 0x0D, 1, 1, .u8, .rwr, .stored, .expert, (.rng 0 3), (.nat 3)⟩,
   ⟨0x4000, 64, 12, 0x0E, 1, 1, .u8, .rw, .stored, .basic, (.set [0, 1, 2]), (.nat 0)⟩,
   ⟨0x4000, 64, 12, 0x0F, 1, 1, .u8, .rw, .stored, .basic, .any, (.nat 3)⟩,
   ⟨0x4000, 64, 12, 0x10, 1, 1, .u8, .rw, .volUnit, .basic, (.set [0]), (.nat 0)⟩,
   ⟨0x4000, 64, 12, 0x11, 1, 1, .u32, .ro, .volUnit, .basic, .any, (.nat 0)⟩,
   ⟨0x4000, 64, 12, 0x12, 1, 1, .i32, .ro, .volUnit, .basic, .any, (.nat 0)⟩,
   ⟨0x4000, 64, 12, 0x13, 1, 1, .u32, .ro, .volUnit, .expert, .any, (.nat 0)⟩,
   ⟨0x4000, 64, 12, 0x14, 1, 1, .u8, .rwr, .stored, .basic, (.set [0, 1]), (.nat 0)⟩,
   ⟨0x4000, 64, 12, 0x15, 1, 1, .u32, .rwr, .stored, .basic, .any, (.nat 0)⟩,
   ⟨0x4000, 64, 12, 0x16, 1, 1, .u8, .rw, .stored, .basic, (.rng 0 15), (.nat 0)⟩,
   ⟨0x4000, 64, 12, 0x17, 1, 1, .u8, .rw, .stored, .basic, (.rng 0 3), (.nat 0)⟩,
   ⟨0x4000, 64, 12, 0x18, 1, 1, .u8, .rw, .stored, .basic, (.set [0, 1, 2]), (.nat 0)⟩,
   ⟨0x4000, 64, 12, 0x19, 1, 1, .u8, .rw, .stored, .basic, (.rng 0 3), (.nat 0)⟩,
   ⟨0x4000, 64, 12, 0x1A, 1, 1, .u8, .rw, .stored, .basic, (.set [0, 1]), (.nat 0)⟩,
   ⟨0x4000, 64, 12, 0x1B, 1, 1, .u8, .wo, .volUnit, .basic, (.set [76, 65]), (.nat 0)⟩,
   ⟨0x4000, 64, 12, 0x1C, 1, 1, .u32, .ro, .volUnit, .basic, .any, (.nat 0)⟩,
   ⟨0x4000, 64, 12, 0x1D, 1, 1, .u64, .ro, .volUnit, .basic, .any, (.nat 0)⟩]
/-- R217. -/
def objectsR217_2 : List ObjRow :=
  [⟨0x4000, 64, 12, 0x1E, 1, 1, .u8, .ro, .volUnit, .basic, .any, (.nat 0)⟩,
   ⟨0x4000, 64, 12, 0x1F, 1, 1, .u32, .ro, .volUnit, .basic, .any, (.nat 0)⟩,
   ⟨0x4000, 64, 12, 0x20, 1, 1, .u32, .ro, .volUnit, .expert, .any, (.nat 0)⟩,
   ⟨0x4000, 64, 12, 0x21, 1, 1, .u8, .rwr, .stored, .basic, (.set [0, 1]), (.nat 0)⟩,
   ⟨0x4000, 64, 12, 0x22, 1, 1, .i32, .ro, .volUnit, .expert, .any, (.nat 0)⟩]
/-- R217. -/
def objectsR217 : List ObjRow := objectsR217_1 ++ objectsR217_2
/-- R218. -/
def objectsR218 : List ObjRow :=
  [⟨0x4300, 1, 6, 0x00, 1, 1, .u8, .ro, .stored, .basic, .any, (.nat 10)⟩,
   ⟨0x4300, 1, 6, 0x01, 1, 1, .u8, .rwr, .stored, .basic, (.nzRng 1 255), (.nat 32)⟩,
   ⟨0x4300, 1, 6, 0x02, 1, 1, .u8, .rwr, .stored, .basic, (.rng 1 16), (.nat 16)⟩,
   ⟨0x4300, 1, 6, 0x03, 1, 1, .u8, .rwr, .stored, .basic, (.set [0, 1]), (.nat 0)⟩,
   ⟨0x4300, 1, 6, 0x04, 1, 1, .u32, .rwr, .stored, .basic, .any, (.nat 0)⟩,
   ⟨0x4300, 1, 6, 0x05, 1, 1, .u8, .rw, .stored, .expert, (.rng 1 255), (.nat 2)⟩,
   ⟨0x4300, 1, 6, 0x06, 1, 1, .u8, .ro, .volUnit, .basic, .any, (.nat 7)⟩,
   ⟨0x4300, 1, 6, 0x07, 1, 1, .u8, .rw, .stored, .basic, (.rngOr 0 11 255), (.nat 255)⟩,
   ⟨0x4300, 1, 6, 0x08, 1, 1, .u32, .ro, .volUnit, .expert, .any, (.nat 0)⟩,
   ⟨0x4300, 1, 6, 0x09, 1, 1, .u64, .ro, .volUnit, .expert, .any, (.nat 0)⟩,
   ⟨0x4300, 1, 6, 0x0A, 1, 1, .u64, .ro, .volUnit, .expert, .any, (.nat 0)⟩]
/-- R219. -/
def objectsR219 : List ObjRow :=
  [⟨0x4400, 32, 8, 0x00, 1, 1, .u8, .ro, .stored, .basic, .any, (.nat 18)⟩,
   ⟨0x4400, 32, 8, 0x01, 1, 1, .bool, .rwr, .stored, .basic, .any, (.nat 0)⟩,
   ⟨0x4400, 32, 8, 0x02, 1, 1, .u8, .rwr, .stored, .basic, (.rng 25 60), (.nat 30)⟩,
   ⟨0x4400, 32, 8, 0x03, 1, 1, .u8, .rwr, .stored, .basic, (.rng 1 6), (.nat 6)⟩,
   ⟨0x4400, 32, 8, 0x04, 1, 1, .u8, .rwr, .stored, .basic, (.set [0, 1]), (.nat 0)⟩,
   ⟨0x4400, 32, 8, 0x05, 1, 1, .u8, .rwr, .stored, .basic, (.set [0, 1]), (.nat 0)⟩,
   ⟨0x4400, 32, 8, 0x06, 1, 1, .u8, .rwr, .stored, .basic, (.set [0, 1, 2]), (.nat 1)⟩,
   ⟨0x4400, 32, 8, 0x07, 1, 1, .u16, .rwr, .stored, .basic, .any, (.nat 0)⟩,
   ⟨0x4400, 32, 8, 0x08, 1, 1, .bool, .rw, .stored, .expert, .any, (.nat 1)⟩,
   ⟨0x4400, 32, 8, 0x09, 1, 1, .u16, .rw, .stored, .basic, (.nzRng 100 60000), (.nat 2000)⟩,
   ⟨0x4400, 32, 8, 0x0A, 1, 1, .u16, .rw, .stored, .basic, (.rng 0 1000), (.nat 0)⟩,
   ⟨0x4400, 32, 8, 0x0B, 1, 1, .u32, .ro, .volUnit, .basic, .any, (.nat 0)⟩,
   ⟨0x4400, 32, 8, 0x0C, 1, 1, .u32, .ro, .volUnit, .basic, .any, (.nat 0)⟩,
   ⟨0x4400, 32, 8, 0x0D, 1, 1, .u32, .ro, .volUnit, .basic, .any, (.nat 0)⟩,
   ⟨0x4400, 32, 8, 0x0E, 1, 1, .u64, .ro, .volUnit, .basic, .any, (.nat 0)⟩,
   ⟨0x4400, 32, 8, 0x0F, 1, 1, .u32, .ro, .volUnit, .expert, .any, (.nat 0)⟩,
   ⟨0x4400, 32, 8, 0x10, 1, 1, .u8, .rwr, .stored, .basic, (.set [0, 1, 2]), (.nat 0)⟩,
   ⟨0x4400, 32, 8, 0x11, 1, 1, (.table 8), .ro, .volUnit, .basic, .any, (.oct [])⟩,
   ⟨0x4400, 32, 8, 0x12, 1, 1, .u16, .ro, .volUnit, .expert, .any, (.nat 0)⟩]
/-- R220. -/
def objectsR220 : List ObjRow :=
  [⟨0x4600, 32, 12, 0x00, 1, 1, .u8, .ro, .stored, .basic, .any, (.nat 21)⟩,
   ⟨0x4600, 32, 12, 0x01, 1, 1, .u8, .rwr, .stored, .basic, .obSource, (.nat 255)⟩,
   ⟨0x4600, 32, 12, 0x02, 1, 1, .i32, .rwr, .stored, .basic, .any, (.nat 1)⟩,
   ⟨0x4600, 32, 12, 0x03, 1, 1, .u8, .rwr, .stored, .basic, (.rng 0 31), (.nat 0)⟩,
   ⟨0x4600, 32, 12, 0x04, 1, 1, .u16, .rwr, .stored, .basic, (.rng 1 1000), (.nat 100)⟩,
   ⟨0x4600, 32, 12, 0x05, 1, 1, .u32, .rw, .stored, .basic, .any, (.nat 33554432)⟩,
   ⟨0x4600, 32, 12, 0x06, 1, 1, .u8, .rw, .stored, .basic, (.rng 1 255), (.nat 4)⟩,
   ⟨0x4600, 32, 12, 0x07, 1, 1, .u16, .rw, .stored, .expert, (.rng 1 65535), (.nat 64)⟩,
   ⟨0x4600, 32, 12, 0x08, 1, 1, .u16, .rw, .stored, .basic, .any, (.nat 2000)⟩,
   ⟨0x4600, 32, 12, 0x09, 1, 1, .u16, .rw, .stored, .expert, (.rng 1 65535), (.nat 256)⟩,
   ⟨0x4600, 32, 12, 0x0A, 1, 1, .u8, .rwr, .stored, .basic, (.rng 0 31), (.nat 16)⟩,
   ⟨0x4600, 32, 12, 0x0B, 1, 1, .u8, .rwr, .stored, .basic, (.rng 0 31), (.nat 16)⟩,
   ⟨0x4600, 32, 12, 0x0C, 1, 1, .u8, .rw, .stored, .basic, (.rngOr 0 11 255), (.nat 255)⟩,
   ⟨0x4600, 32, 12, 0x0D, 1, 1, .u8, .rw, .stored, .basic, (.rng 1 32), (.nat 1)⟩,
   ⟨0x4600, 32, 12, 0x0E, 1, 1, .u32, .rw, .stored, .basic, .any, (.nat 238609294)⟩,
   ⟨0x4600, 32, 12, 0x0F, 1, 1, .u8, .rw, .stored, .basic, (.rng 1 255), (.nat 8)⟩,
   ⟨0x4600, 32, 12, 0x10, 1, 1, .u32, .ro, .volUnit, .basic, .any, (.nat 0)⟩,
   ⟨0x4600, 32, 12, 0x11, 1, 1, .i32, .ro, .volUnit, .basic, .any, (.nat 0)⟩,
   ⟨0x4600, 32, 12, 0x12, 1, 1, .i32, .ro, .volUnit, .basic, .any, (.nat 0)⟩,
   ⟨0x4600, 32, 12, 0x13, 1, 1, .i32, .ro, .volUnit, .expert, .any, (.nat 0)⟩,
   ⟨0x4600, 32, 12, 0x14, 1, 1, .u32, .ro, .volUnit, .basic, .any, (.nat 2)⟩,
   ⟨0x4600, 32, 12, 0x15, 1, 1, .u8, .wo, .volUnit, .basic, (.set [73]), (.nat 0)⟩]
/-- R247. -/
def objectsR247 : List ObjRow :=
  [⟨0x5000, 1, 1, 0x00, 1, 1, .u8, .ro, .stored, .basic, .any, (.nat 11)⟩,
   ⟨0x5000, 1, 1, 0x01, 1, 1, .u8, .rwc, .sealed, .basic, (.set [0, 1]), (.nat 0)⟩,
   ⟨0x5000, 1, 1, 0x02, 1, 1, .u8, .rwc, .sealed, .expert, (.rng 0 50), (.nat 10)⟩,
   ⟨0x5000, 1, 1, 0x03, 1, 1, .u32, .ro, .volUnit, .basic, .any, (.nat 16474)⟩,
   ⟨0x5000, 1, 1, 0x04, 1, 1, .u32, .ro, .volUnit, .basic, .any, (.nat 0)⟩,
   ⟨0x5000, 1, 1, 0x05, 1, 1, .u32, .ro, .volUnit, .expert, .any, (.nat 0)⟩,
   ⟨0x5000, 1, 1, 0x06, 1, 1, .u32, .rw, .volUnit, .expert, (.set [0]), (.nat 0)⟩,
   ⟨0x5000, 1, 1, 0x07, 1, 1, .u32, .ro, .volUnit, .basic, .any, (.nat 0)⟩,
   ⟨0x5000, 1, 1, 0x08, 1, 1, .u8, .rw, .stored, .expert, (.rng 0 3), (.nat 2)⟩,
   ⟨0x5000, 1, 1, 0x09, 1, 1, .u8, .rw, .stored, .expert, (.rng 0 3), (.nat 0)⟩,
   ⟨0x5000, 1, 1, 0x0A, 1, 1, .u16, .ro, .volUnit, .basic, .any, (.nat 0)⟩,
   ⟨0x5000, 1, 1, 0x0B, 1, 1, .u32, .ro, .volUnit, .expert, .any, (.nat 0)⟩]
/-- R248. -/
def objectsR248 : List ObjRow :=
  [⟨0x5100, 1, 256, 0x00, 1, 1, .u8, .ro, .stored, .expert, .any, (.nat 16)⟩,
   ⟨0x5100, 1, 256, 0x01, 1, 1, .u8, .rwc, .sealed, .expert, (.set [0, 1, 2, 3, 4, 5, 6, 7, 8, 9]), (.nat 0)⟩,
   ⟨0x5100, 1, 256, 0x02, 1, 1, .u8, .rwc, .sealed, .expert, (.rng 0 4), (.nat 0)⟩,
   ⟨0x5100, 1, 256, 0x03, 1, 1, .u8, .rwc, .sealed, .expert, (.rng 0 15), (.nat 0)⟩,
   ⟨0x5100, 1, 256, 0x04, 1, 1, .u64, .rwc, .sealed, .expert, .any, (.nat 18446744073709551615)⟩,
   ⟨0x5100, 1, 256, 0x05, 1, 1, .u16, .rwc, .sealed, .expert, (.rngOr 1024 3071 65535), (.nat 65535)⟩,
   ⟨0x5100, 1, 256, 0x06, 1, 4, .fx32, .rwc, .sealed, .expert, .any, (.fx 0 0)⟩,
   ⟨0x5100, 1, 256, 0x0A, 1, 3, .i32, .rwc, .sealed, .expert, .any, (.nat 0)⟩,
   ⟨0x5100, 1, 256, 0x0D, 1, 1, .bool, .rwc, .sealed, .expert, .any, (.nat 0)⟩,
   ⟨0x5100, 1, 256, 0x0E, 1, 1, .i32, .rw, .volUnit, .expert, .any, (.nat 0)⟩,
   ⟨0x5100, 1, 256, 0x0F, 1, 1, .i32, .rw, .volUnit, .expert, .any, (.nat 0)⟩,
   ⟨0x5100, 1, 256, 0x10, 1, 1, .u32, .rw, .volUnit, .expert, (.set [0]), (.nat 0)⟩]
/-- R251. -/
def objectsR251 : List ObjRow :=
  [⟨0x5800, 1, 1, 0x00, 1, 1, .u8, .ro, .stored, .expert, .any, (.nat 6)⟩,
   ⟨0x5800, 1, 1, 0x01, 1, 1, .u8, .ro, .volUnit, .expert, .any, (.nat 0)⟩,
   ⟨0x5800, 1, 1, 0x02, 1, 1, .u8, .wo, .volUnit, .expert, (.set [65, 84, 83]), (.nat 0)⟩,
   ⟨0x5800, 1, 1, 0x03, 1, 1, .u64, .ro, .volUnit, .expert, .any, (.nat 18446744073709551615)⟩,
   ⟨0x5800, 1, 1, 0x04, 1, 1, .u8, .ro, .volUnit, .expert, .any, (.nat 0)⟩,
   ⟨0x5800, 1, 1, 0x05, 1, 1, .u32, .ro, .volUnit, .expert, .any, (.nat 0)⟩,
   ⟨0x5800, 1, 1, 0x06, 1, 1, .u32, .ro, .volUnit, .expert, .any, (.nat 0)⟩,
   ⟨0x5810, 1, 1, 0x00, 1, 1, .u8, .ro, .stored, .expert, .any, (.nat 4)⟩,
   ⟨0x5810, 1, 1, 0x01, 1, 4, .u64, .rwr, .stored, .expert, .trigCond, (.nat 0)⟩,
   ⟨0x5820, 1, 32, 0x00, 1, 1, .u8, .ro, .stored, .expert, .any, (.nat 9)⟩,
   ⟨0x5820, 1, 32, 0x01, 1, 1, .u16, .rwr, .stored, .expert, (.rng 0 4095), (.nat 0)⟩,
   ⟨0x5820, 1, 32, 0x02, 1, 1, .u8, .rwr, .stored, .expert, (.rng 0 4), (.nat 0)⟩,
   ⟨0x5820, 1, 32, 0x03, 1, 1, .u8, .rwr, .stored, .expert, (.rng 0 15), (.nat 0)⟩,
   ⟨0x5820, 1, 32, 0x04, 1, 1, .u16, .rwr, .stored, .expert, (.nzRng 1 65535), (.nat 1)⟩,
   ⟨0x5820, 1, 32, 0x05, 1, 1, .u32, .rwr, .stored, .expert, (.nzRng 1 196608), (.nat 1024)⟩,
   ⟨0x5820, 1, 32, 0x06, 1, 1, .u32, .rwr, .stored, .expert, (.rng 0 196608), (.nat 512)⟩,
   ⟨0x5820, 1, 32, 0x07, 1, 1, .u8, .rwr, .stored, .expert, (.rng 0 7), (.nat 0)⟩,
   ⟨0x5820, 1, 32, 0x08, 1, 1, (.table 4), .ro, .volUnit, .expert, .any, (.oct [])⟩,
   ⟨0x5820, 1, 32, 0x09, 1, 1, .u32, .ro, .volUnit, .expert, .any, (.nat 0)⟩]
/-- R253. -/
def objectsR253 : List ObjRow :=
  [⟨0x2011, 1, 1, 0x00, 1, 1, .u8, .ro, .stored, .basic, .any, (.nat 3)⟩,
   ⟨0x2011, 1, 1, 0x01, 1, 1, .u8, .rwc, .sealed, .basic, (.rng 0 6), (.nat 6)⟩,
   ⟨0x2011, 1, 1, 0x02, 1, 1, .u32, .rwc, .sealed, .expert, .any, (.nat 1)⟩,
   ⟨0x2011, 1, 1, 0x03, 1, 1, .u16, .ro, .volUnit, .expert, .any, (.nat 750)⟩]
/-- R275. -/
def objectsR275 : List ObjRow :=
  [⟨0x2012, 1, 1, 0x00, 1, 1, .u8, .ro, .stored, .basic, .any, (.nat 6)⟩,
   ⟨0x2012, 1, 1, 0x01, 1, 1, .u16, .rwc, .sealed, .basic, (.rng 40000 59500), (.nat 58000)⟩,
   ⟨0x2012, 1, 1, 0x02, 1, 1, .u16, .rwc, .sealed, .basic, (.rng 500 10000), (.nat 2000)⟩,
   ⟨0x2012, 1, 1, 0x03, 1, 1, .bool, .rwc, .sealed, .basic, .any, (.nat 0)⟩,
   ⟨0x2012, 1, 1, 0x04, 1, 1, .u16, .rwc, .sealed, .expert, (.rng 200 5000), (.nat 1000)⟩,
   ⟨0x2012, 1, 1, 0x05, 1, 1, .u16, .rwc, .sealed, .basic, (.rng 10 60000), (.nat 2000)⟩,
   ⟨0x2012, 1, 1, 0x06, 1, 1, .u8, .ro, .volUnit, .basic, .any, (.nat 0)⟩]
/-- R280. -/
def objectsR280_1 : List ObjRow :=
  [⟨0x6000, 256, 6, 0x00, 1, 1, .u8, .ro, .stored, .basic, .any, (.nat 54)⟩,
   ⟨0x6000, 256, 6, 0x01, 1, 1, .bool, .rwc, .sealed, .basic, .any, (.nat 0)⟩,
   ⟨0x6000, 256, 6, 0x02, 1, 1, .u8, .rwc, .sealed, .basic, (.rng 0 15), (.nat 8)⟩,
   ⟨0x6000, 256, 6, 0x03, 1, 1, .u8, .rwc, .sealed, .basic, (.rng 0 15), (.nat 10)⟩,
   ⟨0x6000, 256, 6, 0x04, 1, 1, .u8, .rwc, .sealed, .expert, (.rng 0 15), (.nat 2)⟩,
   ⟨0x6000, 256, 6, 0x05, 1, 1, .u16, .rwc, .sealed, .basic, (.stepSet 50 2000 5), (.nat 300)⟩,
   ⟨0x6000, 256, 6, 0x06, 1, 1, .u16, .rwc, .sealed, .expert, (.step 0 1000 5), (.nat 200)⟩,
   ⟨0x6000, 256, 6, 0x07, 1, 1, .u16, .rwc, .sealed, .expert, (.rng 200 1500), (.nat 1000)⟩,
   ⟨0x6000, 256, 6, 0x08, 1, 1, .u16, .rwc, .sealed, .basic, (.step 200 2000 100), (.nat 800)⟩,
   ⟨0x6000, 256, 6, 0x09, 1, 1, .u16, .rwc, .sealed, .expert, (.step 250 4000 50), (.nat 1000)⟩,
   ⟨0x6000, 256, 6, 0x0A, 1, 1, .u16, .rwc, .sealed, .basic, (.rng 10 125), (.nat 100)⟩,
   ⟨0x6000, 256, 6, 0x0B, 1, 1, .fx32, .rwc, .sealed, .basic, .any, (.fx 250 7)⟩,
   ⟨0x6000, 256, 6, 0x0C, 1, 1, .u16, .rwc, .sealed, .basic, .any, (.nat 100)⟩,
   ⟨0x6000, 256, 6, 0x0D, 1, 1, .u16, .rwc, .sealed, .basic, .any, (.nat 300)⟩,
   ⟨0x6000, 256, 6, 0x0E, 1, 1, .u16, .rwc, .sealed, .basic, (.rng 100 2000), (.nat 2000)⟩,
   ⟨0x6000, 256, 6, 0x0F, 1, 1, .u16, .rwc, .sealed, .basic, .any, (.nat 100)⟩,
   ⟨0x6000, 256, 6, 0x10, 1, 1, .u16, .rwc, .sealed, .basic, .any, (.nat 300)⟩,
   ⟨0x6000, 256, 6, 0x11, 1, 1, .u16, .rwc, .sealed, .basic, (.rng 100 2000), (.nat 2000)⟩,
   ⟨0x6000, 256, 6, 0x12, 1, 1, .u16, .rwc, .sealed, .expert, (.rng 100 2000), (.nat 500)⟩,
   ⟨0x6000, 256, 6, 0x13, 1, 1, .u32, .rwc, .sealed, .basic, .any, (.nat 20000)⟩,
   ⟨0x6000, 256, 6, 0x14, 1, 1, .u32, .rwc, .sealed, .basic, .any, (.nat 120000)⟩,
   ⟨0x6000, 256, 6, 0x15, 1, 1, .u32, .rwc, .sealed, .basic, .any, (.nat 120000)⟩,
   ⟨0x6000, 256, 6, 0x16, 1, 1, .u32, .rwc, .sealed, .basic, (.rng 1 4294967295), (.nat 19000)⟩,
   ⟨0x6000, 256, 6, 0x17, 1, 1, .u8, .rwc, .sealed, .basic, (.rngOr 0 11 255), (.nat 255)⟩,
   ⟨0x6000, 256, 6, 0x18, 1, 1, .u8, .rwc, .sealed, .basic, (.rngOr 0 11 255), (.nat 255)⟩,
   ⟨0x6000, 256, 6, 0x19, 1, 1, .u32, .rwc, .sealed, .basic, .any, (.nat 0)⟩,
   ⟨0x6000, 256, 6, 0x1A, 1, 1, .u32, .rwc, .sealed, .basic, .any, (.nat 0)⟩,
   ⟨0x6000, 256, 6, 0x1B, 1, 1, .u8, .rwc, .sealed, .basic, (.rng 0 3), (.nat 0)⟩,
   ⟨0x6000, 256, 6, 0x1C, 1, 1, .u32, .rwc, .sealed, .expert, .any, (.nat 89478485)⟩,
   ⟨0x6000, 256, 6, 0x1D, 1, 1, .u16, .rwc, .sealed, .basic, .any, (.nat 50)⟩]
/-- R280. -/
def objectsR280_2 : List ObjRow :=
  [⟨0x6000, 256, 6, 0x1E, 1, 1, .bool, .rwc, .sealed, .basic, .any, (.nat 1)⟩,
   ⟨0x6000, 256, 6, 0x1F, 1, 1, .u16, .rwc, .sealed, .basic, (.rng 1000 20000), (.nat 4000)⟩,
   ⟨0x6000, 256, 6, 0x20, 1, 1, .u32, .ro, .volUnit, .basic, .any, (.nat 1701)⟩,
   ⟨0x6000, 256, 6, 0x21, 1, 1, .u16, .rwc, .sealed, .expert, (.rng 500 1000), (.nat 1000)⟩,
   ⟨0x6000, 256, 6, 0x22, 1, 1, .u16, .rwc, .sealed, .basic, (.rng 500 1000), (.nat 950)⟩,
   ⟨0x6000, 256, 6, 0x23, 1, 1, .u16, .rwc, .sealed, .basic, .any, (.nat 0)⟩,
   ⟨0x6000, 256, 6, 0x24, 1, 1, .u16, .rwc, .sealed, .basic, (.rng 100 2000), (.nat 1000)⟩,
   ⟨0x6000, 256, 6, 0x25, 1, 1, .fx32, .rwc, .sealed, .expert, .any, (.fx 0 0)⟩,
   ⟨0x6000, 256, 6, 0x26, 1, 1, .fx32, .rwc, .sealed, .basic, .any, (.fx 0 0)⟩,
   ⟨0x6000, 256, 6, 0x27, 1, 1, .fx32, .rwc, .sealed, .basic, .any, (.fx 0 0)⟩,
   ⟨0x6000, 256, 6, 0x28, 1, 1, .fx32, .rwc, .sealed, .basic, .any, (.fx 0 0)⟩,
   ⟨0x6000, 256, 6, 0x29, 1, 1, .fx32, .rwc, .sealed, .basic, .any, (.fx 0 0)⟩,
   ⟨0x6000, 256, 6, 0x2A, 1, 1, .u32, .rwc, .sealed, .basic, .any, (.nat 0)⟩,
   ⟨0x6000, 256, 6, 0x2B, 1, 1, .u32, .rwc, .sealed, .basic, .any, (.nat 0)⟩,
   ⟨0x6000, 256, 6, 0x2C, 1, 1, .u16, .rwc, .sealed, .basic, .any, (.nat 65535)⟩,
   ⟨0x6000, 256, 6, 0x2D, 1, 1, .u8, .rwc, .sealed, .basic, (.rngOr 0 11 255), (.nat 255)⟩,
   ⟨0x6000, 256, 6, 0x2E, 1, 1, .u16, .rwc, .sealed, .expert, .any, (.nat 65535)⟩,
   ⟨0x6000, 256, 6, 0x2F, 1, 1, .u16, .rwc, .sealed, .expert, .any, (.nat 65535)⟩,
   ⟨0x6000, 256, 6, 0x30, 1, 1, .u16, .rwc, .sealed, .expert, .any, (.nat 65535)⟩,
   ⟨0x6000, 256, 6, 0x31, 1, 1, .u8, .rwc, .sealed, .basic, (.rng 5 30), (.nat 12)⟩,
   ⟨0x6000, 256, 6, 0x32, 1, 1, .u8, .rwc, .sealed, .basic, (.rng 10 50), (.nat 25)⟩,
   ⟨0x6000, 256, 6, 0x33, 1, 1, .u16, .rwc, .sealed, .expert, (.rng 100 10000), (.nat 1000)⟩,
   ⟨0x6000, 256, 6, 0x34, 1, 1, .u16, .rwc, .sealed, .expert, .any, (.nat 100)⟩,
   ⟨0x6000, 256, 6, 0x35, 1, 1, .u16, .rwc, .sealed, .expert, (.rng 500 10000), (.nat 2000)⟩,
   ⟨0x6000, 256, 6, 0x36, 1, 1, .u8, .ro, .volUnit, .basic, .any, (.nat 0)⟩]
/-- R280. -/
def objectsR280 : List ObjRow := objectsR280_1 ++ objectsR280_2
/-- R280. -/
def objectsR280b : List ObjRow :=
  [⟨0x6001, 256, 6, 0x00, 1, 1, .u8, .ro, .stored, .basic, .any, (.nat 6)⟩,
   ⟨0x6001, 256, 6, 0x01, 1, 1, .u32, .ro, .volUnit, .basic, .any, (.nat 0)⟩,
   ⟨0x6001, 256, 6, 0x02, 1, 1, .u32, .ro, .volUnit, .basic, .any, (.nat 0)⟩,
   ⟨0x6001, 256, 6, 0x03, 1, 1, .u32, .ro, .stored, .basic, .any, (.nat 0)⟩,
   ⟨0x6001, 256, 6, 0x04, 1, 1, .u8, .wo, .volUnit, .expert, (.set [82]), (.nat 0)⟩,
   ⟨0x6001, 256, 6, 0x05, 1, 1, (.table 12), .ro, .stored, .basic, .any, (.oct [])⟩,
   ⟨0x6001, 256, 6, 0x06, 1, 1, .u16, .ro, .volUnit, .basic, .any, (.nat 0)⟩]
/-- R308. -/
def objectsR308 : List ObjRow :=
  [⟨0x7000, 64, 12, 0x00, 1, 1, .u8, .ro, .stored, .basic, .any, (.nat 23)⟩,
   ⟨0x7000, 64, 12, 0x01, 1, 1, .u8, .rwc, .sealed, .basic, (.set [0, 1, 2, 3, 4, 5, 16, 17, 18, 19, 32, 33, 34, 35, 255]), (.nat 255)⟩,
   ⟨0x7000, 64, 12, 0x02, 1, 1, .u8, .rwc, .sealed, .basic, (.set [0, 1]), (.nat 0)⟩,
   ⟨0x7000, 64, 12, 0x03, 1, 1, .u32, .rwc, .sealed, .basic, (.rng 1 100000000), (.nat 100000)⟩,
   ⟨0x7000, 64, 12, 0x04, 1, 1, .u32, .rwc, .sealed, .basic, (.rng 1 4000000000), (.nat 1000000)⟩,
   ⟨0x7000, 64, 12, 0x05, 1, 1, .u32, .rwc, .sealed, .basic, (.rng 1 4000000000), (.nat 1000000)⟩,
   ⟨0x7000, 64, 12, 0x06, 1, 1, .u32, .rwc, .sealed, .expert, (.rng 1 4000000000), (.nat 100000000)⟩,
   ⟨0x7000, 64, 12, 0x07, 1, 1, .u32, .rwc, .sealed, .basic, (.rng 1 4000000000), (.nat 2000000)⟩,
   ⟨0x7000, 64, 12, 0x08, 1, 1, .u32, .rwc, .sealed, .expert, (.rng 1 100000000), (.nat 100)⟩,
   ⟨0x7000, 64, 12, 0x09, 1, 1, .fx32, .rwc, .sealed, .basic, .any, (.fx 1 0)⟩,
   ⟨0x7000, 64, 12, 0x0A, 1, 1, .u16, .rwc, .sealed, .basic, (.step 100 10000 5), (.nat 1000)⟩,
   ⟨0x7000, 64, 12, 0x0B, 1, 1, .u16, .rwc, .sealed, .basic, (.step 50 10000 5), (.nat 500)⟩,
   ⟨0x7000, 64, 12, 0x0C, 1, 1, .u8, .rwc, .sealed, .expert, (.rng 0 3), (.nat 0)⟩,
   ⟨0x7000, 64, 12, 0x0D, 1, 1, .u8, .rwr, .volUnit, .basic, (.set [0, 1, 2, 3]), (.nat 0)⟩,
   ⟨0x7000, 64, 12, 0x0E, 1, 1, .i64, .rwr, .volUnit, .basic, .any, (.nat 0)⟩,
   ⟨0x7000, 64, 12, 0x0F, 1, 1, .i32, .rwr, .volUnit, .basic, (.within 100000000), (.nat 0)⟩,
   ⟨0x7000, 64, 12, 0x10, 1, 1, .u64, .rwr, .volUnit, .basic, .any, (.nat 0)⟩,
   ⟨0x7000, 64, 12, 0x11, 1, 1, .u8, .wo, .volUnit, .basic, (.set [71, 83]), (.nat 0)⟩,
   ⟨0x7000, 64, 12, 0x12, 1, 1, .i64, .rwr, .volUnit, .basic, .any, (.nat 0)⟩,
   ⟨0x7000, 64, 12, 0x13, 1, 1, .i32, .ro, .volUnit, .basic, .any, (.nat 0)⟩,
   ⟨0x7000, 64, 12, 0x14, 1, 1, .u32, .ro, .volUnit, .basic, .any, (.nat 4)⟩,
   ⟨0x7000, 64, 12, 0x15, 1, 1, .u32, .ro, .volUnit, .basic, .any, (.nat 0)⟩,
   ⟨0x7000, 64, 12, 0x16, 1, 1, .u32, .ro, .volUnit, .expert, .any, (.nat 0)⟩,
   ⟨0x7000, 64, 12, 0x17, 1, 1, .u64, .ro, .volUnit, .expert, .any, (.nat 4294967296)⟩]
/-- R309. -/
def objectsR309 : List ObjRow :=
  [⟨0x7400, 1, 12, 0x00, 1, 1, .u8, .ro, .stored, .basic, .any, (.nat 17)⟩,
   ⟨0x7400, 1, 12, 0x01, 1, 1, .u8, .rwc, .sealed, .basic, (.set [0, 1, 2, 3, 4, 5, 6, 7, 8, 9, 10, 11, 16, 17, 18, 19, 20, 21, 22, 23, 24, 25, 26, 27, 28, 29, 30, 31, 32, 33, 34, 35, 36, 37, 38, 39, 40, 41, 42, 43, 48]), (.nat 0)⟩,
   ⟨0x7400, 1, 12, 0x02, 1, 1, .u16, .rwc, .sealed, .basic, (.rng 3072 3583), (.nat 3072)⟩,
   ⟨0x7400, 1, 12, 0x03, 1, 1, .u32, .rwc, .sealed, .basic, .any, (.nat 0)⟩,
   ⟨0x7400, 1, 12, 0x04, 1, 1, (.table 12), .rwc, .sealed, .basic, .any, (.oct [])⟩,
   ⟨0x7400, 1, 12, 0x05, 1, 1, (.table 12), .rwc, .sealed, .basic, .any, (.oct [])⟩,
   ⟨0x7400, 1, 12, 0x06, 1, 1, .u8, .rwc, .sealed, .basic, (.set [0, 1]), (.nat 0)⟩,
   ⟨0x7400, 1, 12, 0x07, 1, 1, .i64, .rwc, .sealed, .basic, .any, (.nat 0)⟩,
   ⟨0x7400, 1, 12, 0x08, 1, 1, .u32, .rwc, .sealed, .basic, (.rng 1 2147483648), (.nat 16)⟩,
   ⟨0x7400, 1, 12, 0x09, 1, 1, .u8, .rwc, .sealed, .basic, (.set [0, 1]), (.nat 0)⟩,
   ⟨0x7400, 1, 12, 0x0A, 1, 1, .u16, .rwc, .sealed, .basic, .any, (.nat 1500)⟩,
   ⟨0x7400, 1, 12, 0x0B, 1, 1, .u16, .rwc, .sealed, .basic, .any, (.nat 1200)⟩,
   ⟨0x7400, 1, 12, 0x0C, 1, 1, .u8, .rw, .volUnit, .basic, (.set [0, 1]), (.nat 0)⟩,
   ⟨0x7400, 1, 12, 0x0D, 1, 1, .u8, .ro, .volUnit, .basic, .any, (.nat 0)⟩,
   ⟨0x7400, 1, 12, 0x0E, 1, 1, .i64, .ro, .volUnit, .expert, .any, (.nat 0)⟩,
   ⟨0x7400, 1, 12, 0x0F, 1, 1, .u8, .ro, .volUnit, .basic, .any, (.nat 0)⟩,
   ⟨0x7400, 1, 12, 0x10, 1, 1, .u32, .ro, .volUnit, .basic, .any, (.nat 1)⟩,
   ⟨0x7400, 1, 12, 0x11, 1, 1, .u32, .ro, .volUnit, .expert, .any, (.nat 0)⟩]
/-- R310. -/
def objectsR310 : List ObjRow :=
  [⟨0x4000, 64, 12, 0x30, 4, 4, .u32, .rw, .volUnit, .basic, .any, (.nat 0)⟩,
   ⟨0x4000, 64, 12, 0x31, 4, 4, .u8, .rw, .volUnit, .basic, .cmpControl, (.nat 0)⟩,
   ⟨0x4000, 64, 12, 0x32, 4, 4, .u8, .ro, .volUnit, .basic, .any, (.nat 0)⟩,
   ⟨0x4000, 64, 12, 0x33, 4, 4, .u64, .ro, .volUnit, .basic, .any, (.nat 0)⟩]
/-- R330. -/
def objectsR330 : List ObjRow :=
  [⟨0x7800, 32, 4, 0x00, 1, 1, .u8, .ro, .stored, .basic, .any, (.nat 24)⟩,
   ⟨0x7800, 32, 4, 0x01, 1, 1, .bool, .rwc, .sealed, .basic, .any, (.nat 0)⟩,
   ⟨0x7800, 32, 4, 0x02, 1, 1, .u16, .rwc, .sealed, .basic, (.rng 0 2100), (.nat 1000)⟩,
   ⟨0x7800, 32, 4, 0x03, 1, 1, .u16, .rwc, .sealed, .basic, (.rng 0 2100), (.nat 500)⟩,
   ⟨0x7800, 32, 4, 0x04, 1, 1, .u16, .rwc, .sealed, .basic, (.rng 0 10000), (.nat 200)⟩,
   ⟨0x7800, 32, 4, 0x05, 1, 1, .u16, .rwc, .sealed, .expert, (.rng 1 2100), (.nat 100)⟩,
   ⟨0x7800, 32, 4, 0x06, 1, 1, .u16, .rwc, .sealed, .basic, (.set [1, 2, 4, 8, 16, 32, 64, 128, 256]), (.nat 4)⟩,
   ⟨0x7800, 32, 4, 0x07, 1, 1, .u16, .rwc, .sealed, .expert, (.rng 0 1023), (.nat 0)⟩,
   ⟨0x7800, 32, 4, 0x08, 1, 1, .u8, .rwc, .sealed, .basic, (.rng 5 200), (.nat 40)⟩,
   ⟨0x7800, 32, 4, 0x09, 1, 1, .u8, .rwc, .sealed, .basic, (.rng 0 16), (.nat 4)⟩,
   ⟨0x7800, 32, 4, 0x0A, 1, 1, .u16, .rwc, .sealed, .expert, (.step 250 2000 50), (.nat 500)⟩,
   ⟨0x7800, 32, 4, 0x0B, 1, 1, .u16, .rwc, .sealed, .expert, (.rng 10 1000), (.nat 100)⟩,
   ⟨0x7800, 32, 4, 0x0C, 1, 1, (.table 4), .rwc, .sealed, .expert, .any, (.oct sineTableDefault)⟩,
   ⟨0x7800, 32, 4, 0x0D, 1, 1, .u32, .rwc, .sealed, .basic, .any, (.nat 2000000)⟩,
   ⟨0x7800, 32, 4, 0x0E, 1, 1, .u32, .rwc, .sealed, .basic, .any, (.nat 5000000)⟩,
   ⟨0x7800, 32, 4, 0x0F, 1, 1, .u32, .rwc, .sealed, .basic, .any, (.nat 0)⟩,
   ⟨0x7800, 32, 4, 0x10, 1, 1, .u8, .rwc, .sealed, .basic, (.rng 1 64), (.nat 4)⟩,
   ⟨0x7800, 32, 4, 0x11, 1, 1, .u16, .rwc, .sealed, .expert, (.rng 1 10000), (.nat 50)⟩,
   ⟨0x7800, 32, 4, 0x12, 1, 1, .u8, .rwc, .sealed, .basic, (.set [0, 1]), (.nat 0)⟩,
   ⟨0x7800, 32, 4, 0x13, 1, 1, .u16, .rwc, .sealed, .expert, (.rng 50 2100), (.nat 200)⟩,
   ⟨0x7800, 32, 4, 0x14, 1, 1, .u8, .rwc, .sealed, .basic, (.rng 10 100), (.nat 50)⟩,
   ⟨0x7800, 32, 4, 0x15, 1, 1, .u32, .ro, .volUnit, .basic, .any, (.nat 0)⟩,
   ⟨0x7800, 32, 4, 0x16, 1, 1, .u8, .wo, .volUnit, .basic, (.set [82]), (.nat 0)⟩,
   ⟨0x7800, 32, 4, 0x17, 1, 1, .u32, .ro, .volUnit, .expert, .any, (.nat 0)⟩,
   ⟨0x7800, 32, 4, 0x18, 1, 1, .u16, .ro, .volUnit, .basic, .any, (.nat 0)⟩]
/-- R331. -/
def objectsR331 : List ObjRow :=
  [⟨0x7880, 1, 16, 0x00, 1, 1, .u8, .ro, .stored, .basic, .any, (.nat 16)⟩,
   ⟨0x7880, 1, 16, 0x01, 1, 1, .bool, .rwc, .sealed, .basic, .any, (.nat 0)⟩,
   ⟨0x7880, 1, 16, 0x02, 1, 1, .u16, .rwc, .sealed, .basic, (.rngOr 3072 4095 65535), (.nat 65535)⟩,
   ⟨0x7880, 1, 16, 0x03, 1, 1, .u16, .rwc, .sealed, .basic, (.rng 10 1000), (.nat 50)⟩,
   ⟨0x7880, 1, 16, 0x04, 1, 1, .u16, .rwc, .sealed, .basic, (.rng 0 2500), (.nat 2000)⟩,
   ⟨0x7880, 1, 16, 0x05, 1, 1, .u16, .rwc, .sealed, .basic, (.rng 0 2000), (.nat 50)⟩,
   ⟨0x7880, 1, 16, 0x06, 1, 1, .u16, .rwc, .sealed, .basic, (.rng 0 2000), (.nat 20)⟩,
   ⟨0x7880, 1, 16, 0x07, 1, 1, .u16, .rwc, .sealed, .basic, (.rng 100 2500), (.nat 2500)⟩,
   ⟨0x7880, 1, 16, 0x08, 1, 1, .u16, .rwc, .sealed, .basic, (.rng 10 500), (.nat 50)⟩,
   ⟨0x7880, 1, 16, 0x09, 1, 1, .u8, .rwc, .sealed, .expert, (.rng 1 50), (.nat 5)⟩,
   ⟨0x7880, 1, 16, 0x0A, 1, 1, .fx32, .rwc, .sealed, .expert, .any, (.fx 1 2)⟩,
   ⟨0x7880, 1, 16, 0x0B, 1, 1, .u16, .rwc, .sealed, .expert, (.rng 50 2500), (.nat 200)⟩,
   ⟨0x7880, 1, 16, 0x0C, 1, 1, .u16, .rwc, .sealed, .expert, (.rng 5 1000), (.nat 50)⟩,
   ⟨0x7880, 1, 16, 0x0D, 1, 1, .u16, .rwc, .sealed, .expert, (.rng 1 1000), (.nat 10)⟩,
   ⟨0x7880, 1, 16, 0x0E, 1, 1, .u32, .ro, .volUnit, .basic, .any, (.nat 0)⟩,
   ⟨0x7880, 1, 16, 0x0F, 1, 1, .u8, .wo, .volUnit, .basic, (.set [82]), (.nat 0)⟩,
   ⟨0x7880, 1, 16, 0x10, 1, 1, .i32, .ro, .volUnit, .basic, .any, (.nat 0)⟩]
/-- R352. -/
def objectsR352_1 : List ObjRow :=
  [⟨0x8000, 1, 1, 0x00, 1, 1, .u8, .ro, .stored, .basic, .any, (.nat 12)⟩,
   ⟨0x8000, 1, 1, 0x01, 1, 1, .bool, .rwc, .sealed, .basic, .any, (.nat 0)⟩,
   ⟨0x8000, 1, 1, 0x02, 1, 1, .u8, .rwc, .sealed, .expert, (.rng 2 31), (.nat 4)⟩,
   ⟨0x8000, 1, 1, 0x03, 1, 1, .u32, .rwc, .sealed, .basic, .any, (.nat 100000)⟩,
   ⟨0x8000, 1, 1, 0x04, 1, 1, .u16, .rwc, .sealed, .basic, .any, (.nat 65535)⟩,
   ⟨0x8000, 1, 1, 0x05, 1, 1, .u16, .rwc, .sealed, .basic, .any, (.nat 65535)⟩,
   ⟨0x8000, 1, 1, 0x06, 1, 1, .u16, .rwc, .sealed, .basic, .any, (.nat 65535)⟩,
   ⟨0x8000, 1, 1, 0x07, 1, 1, .u32, .rwc, .sealed, .basic, .any, (.nat 100000)⟩,
   ⟨0x8000, 1, 1, 0x08, 1, 1, .u16, .rwc, .sealed, .expert, .any, (.nat 1000)⟩,
   ⟨0x8000, 1, 1, 0x09, 1, 1, .u16, .rwc, .sealed, .expert, .any, (.nat 2500)⟩,
   ⟨0x8000, 1, 1, 0x0A, 1, 1, .u16, .ro, .volApp, .basic, .any, (.nat 65535)⟩,
   ⟨0x8000, 1, 1, 0x0B, 1, 1, .u32, .ro, .volApp, .basic, .any, (.nat 0)⟩,
   ⟨0x8000, 1, 1, 0x0C, 1, 1, .u32, .ro, .volApp, .expert, .any, (.nat 0)⟩,
   ⟨0x8010, 1, 1, 0x00, 1, 1, .u8, .ro, .stored, .basic, .any, (.nat 11)⟩,
   ⟨0x8010, 1, 1, 0x01, 1, 1, .u8, .rwc, .sealed, .basic, (.set [0, 1, 2, 3, 4, 5, 6, 7, 8, 9, 10, 11, 12, 13, 14, 15, 16, 17, 18, 19, 20, 21, 22, 23, 24, 25, 26, 27, 28, 29, 30, 31, 32, 33, 34, 35, 36, 37, 38, 39, 40, 41, 42, 43, 44, 45, 46, 47, 64, 65, 66, 67, 68, 69, 70, 71, 72, 73, 74, 75, 76, 77, 78, 79, 255]), (.nat 255)⟩,
   ⟨0x8010, 1, 1, 0x02, 1, 1, .u8, .rwc, .sealed, .basic, (.set [0, 1, 2, 3, 4, 5, 6, 7, 8, 9, 10, 11, 12, 13, 14, 15, 16, 17, 18, 19, 20, 21, 22, 23, 24, 25, 26, 27, 28, 29, 30, 31, 32, 33, 34, 35, 36, 37, 38, 39, 40, 41, 42, 43, 44, 45, 46, 47, 64, 65, 66, 67, 68, 69, 70, 71, 72, 73, 74, 75, 76, 77, 78, 79, 255]), (.nat 255)⟩,
   ⟨0x8010, 1, 1, 0x03, 1, 1, .i32, .rwc, .sealed, .basic, .any, (.nat 0)⟩,
   ⟨0x8010, 1, 1, 0x04, 1, 1, .i32, .rwc, .sealed, .basic, .any, (.nat 0)⟩,
   ⟨0x8010, 1, 1, 0x05, 1, 1, .i32, .rwc, .sealed, .basic, .any, (.nat 0)⟩,
   ⟨0x8010, 1, 1, 0x06, 1, 1, .i32, .rwc, .sealed, .basic, .any, (.nat 0)⟩,
   ⟨0x8010, 1, 1, 0x07, 1, 1, .u16, .rwc, .sealed, .basic, (.rng 50 2000), (.nat 500)⟩,
   ⟨0x8010, 1, 1, 0x08, 1, 1, .u16, .rwc, .sealed, .basic, (.rng 10 1000), (.nat 100)⟩,
   ⟨0x8010, 1, 1, 0x09, 1, 1, (.table 4), .rwc, .sealed, .basic, .any, (.oct pedalMapDefault)⟩,
   ⟨0x8010, 1, 1, 0x0A, 1, 1, .u16, .rwc, .sealed, .basic, (.rng 500 5000), (.nat 1500)⟩,
   ⟨0x8010, 1, 1, 0x0B, 1, 1, .u32, .ro, .volApp, .basic, .any, (.nat 0)⟩,
   ⟨0x8020, 1, 1, 0x00, 1, 1, .u8, .ro, .stored, .basic, .any, (.nat 10)⟩,
   ⟨0x8020, 1, 1, 0x01, 1, 1, .u8, .rwc, .sealed, .basic, (.rngOr 0 47 255), (.nat 255)⟩,
   ⟨0x8020, 1, 1, 0x02, 1, 1, .fx32, .rwc, .sealed, .basic, .any, (.fx 0 0)⟩,
   ⟨0x8020, 1, 1, 0x03, 1, 1, .u16, .rwc, .sealed, .basic, .any, (.nat 65535)⟩,
   ⟨0x8020, 1, 1, 0x04, 1, 1, .u16, .rwc, .sealed, .basic, .any, (.nat 65535)⟩]
/-- R352. -/
def objectsR352_2 : List ObjRow :=
  [⟨0x8020, 1, 1, 0x05, 1, 1, .u16, .rwc, .sealed, .basic, .any, (.nat 8000)⟩,
   ⟨0x8020, 1, 1, 0x06, 1, 1, .u16, .rwc, .sealed, .basic, (.rng 10 2000), (.nat 300)⟩,
   ⟨0x8020, 1, 1, 0x07, 1, 1, .u16, .rwc, .sealed, .expert, .any, (.nat 200)⟩,
   ⟨0x8020, 1, 1, 0x08, 1, 1, .u16, .rwc, .sealed, .basic, .any, (.nat 65535)⟩,
   ⟨0x8020, 1, 1, 0x09, 1, 1, .u16, .ro, .volApp, .basic, .any, (.nat 0)⟩,
   ⟨0x8020, 1, 1, 0x0A, 1, 1, .u32, .ro, .volApp, .basic, .any, (.nat 0)⟩,
   ⟨0x8030, 1, 4, 0x00, 1, 1, .u8, .ro, .stored, .basic, .any, (.nat 6)⟩,
   ⟨0x8030, 1, 4, 0x01, 1, 1, .u16, .rwc, .sealed, .basic, .any, (.nat 0)⟩,
   ⟨0x8030, 1, 4, 0x02, 1, 1, .u16, .rwc, .sealed, .basic, .any, (.nat 1500)⟩,
   ⟨0x8030, 1, 4, 0x03, 1, 1, .u16, .rwc, .sealed, .expert, .any, (.nat 500)⟩,
   ⟨0x8030, 1, 4, 0x04, 1, 1, .u16, .rwc, .sealed, .expert, .any, (.nat 1500)⟩,
   ⟨0x8030, 1, 4, 0x05, 1, 1, .u16, .ro, .volApp, .basic, .any, (.nat 0)⟩,
   ⟨0x8030, 1, 4, 0x06, 1, 1, .u32, .ro, .volApp, .basic, .any, (.nat 65536)⟩,
   ⟨0x8040, 1, 8, 0x00, 1, 1, .u8, .ro, .stored, .basic, .any, (.nat 3)⟩,
   ⟨0x8040, 1, 8, 0x01, 1, 1, .u16, .rwc, .sealed, .basic, .any, (.nat 65535)⟩,
   ⟨0x8040, 1, 8, 0x02, 1, 1, .fx32, .rwc, .sealed, .basic, .any, (.fx 1 0)⟩,
   ⟨0x8040, 1, 8, 0x03, 1, 1, .u8, .rwc, .sealed, .basic, (.rngOr 0 3 255), (.nat 255)⟩,
   ⟨0x8050, 1, 8, 0x00, 1, 1, .u8, .ro, .stored, .basic, .any, (.nat 3)⟩,
   ⟨0x8050, 1, 8, 0x01, 1, 1, .u8, .rwc, .sealed, .basic, (.rngOr 0 3 255), (.nat 255)⟩,
   ⟨0x8050, 1, 8, 0x02, 1, 1, .u16, .rwc, .sealed, .basic, .any, (.nat 65535)⟩,
   ⟨0x8050, 1, 8, 0x03, 1, 1, .fx32, .rwc, .sealed, .basic, .any, (.fx 0 0)⟩,
   ⟨0x8060, 1, 8, 0x00, 1, 1, .u8, .ro, .stored, .basic, .any, (.nat 5)⟩,
   ⟨0x8060, 1, 8, 0x01, 1, 1, .u8, .rwc, .sealed, .basic, (.rngOr 0 3 255), (.nat 255)⟩,
   ⟨0x8060, 1, 8, 0x02, 1, 1, .u16, .rwc, .sealed, .basic, .any, (.nat 0)⟩,
   ⟨0x8060, 1, 8, 0x03, 1, 1, .fx32, .rwc, .sealed, .basic, .any, (.fx 0 0)⟩,
   ⟨0x8060, 1, 8, 0x04, 1, 1, .i32, .rwc, .sealed, .basic, .any, (.nat 0)⟩,
   ⟨0x8060, 1, 8, 0x05, 1, 1, .i32, .rwc, .sealed, .basic, .any, (.nat 0)⟩]
/-- R352. -/
def objectsR352 : List ObjRow := objectsR352_1 ++ objectsR352_2
/-- R375. -/
def objectsR375_1 : List ObjRow :=
  [⟨0x2070, 1, 1, 0x00, 1, 1, .u8, .ro, .stored, .basic, .any, (.nat 15)⟩,
   ⟨0x2070, 1, 1, 0x01, 1, 1, .u8, .ro, .volUnit, .basic, .any, (.nat 0)⟩,
   ⟨0x2070, 1, 1, 0x02, 1, 1, .u8, .ro, .volUnit, .basic, .any, (.nat 1)⟩,
   ⟨0x2070, 1, 1, 0x03, 1, 1, .u32, .ro, .volUnit, .basic, .any, (.nat 0)⟩,
   ⟨0x2070, 1, 1, 0x04, 1, 1, .u8, .ro, .volUnit, .basic, .any, (.nat 0)⟩,
   ⟨0x2070, 1, 1, 0x05, 1, 1, .u64, .ro, .volUnit, .basic, .any, (.nat 0)⟩,
   ⟨0x2070, 1, 1, 0x06, 1, 1, .u16, .rwc, .sealed, .basic, (.rng 5 200), (.nat 20)⟩,
   ⟨0x2070, 1, 1, 0x07, 1, 1, .u16, .rwc, .sealed, .expert, (.rng 1 100), (.nat 5)⟩,
   ⟨0x2070, 1, 1, 0x08, 1, 1, .u16, .rwc, .sealed, .basic, (.rng 60 3600), (.nat 600)⟩,
   ⟨0x2070, 1, 1, 0x09, 1, 1, .u64, .ro, .volUnit, .basic, .any, (.nat 18446744073709551615)⟩,
   ⟨0x2070, 1, 1, 0x0A, 1, 1, .u16, .ro, .volUnit, .basic, .any, (.nat 0)⟩,
   ⟨0x2070, 1, 1, 0x0B, 1, 1, .u32, .ro, .volUnit, .basic, .any, (.nat 0)⟩,
   ⟨0x2070, 1, 1, 0x0C, 1, 1, .u8, .ro, .volUnit, .basic, .any, (.nat 0)⟩,
   ⟨0x2070, 1, 1, 0x0D, 1, 1, .u32, .ro, .volUnit, .basic, .any, (.nat 0)⟩,
   ⟨0x2070, 1, 1, 0x0E, 1, 1, .u32, .ro, .volUnit, .basic, .any, (.nat 0)⟩,
   ⟨0x2070, 1, 1, 0x0F, 1, 1, .u8, .wo, .volUnit, .basic, (.set [71, 84]), (.nat 0)⟩,
   ⟨0x2071, 1, 1, 0x00, 1, 1, .u8, .ro, .stored, .basic, .any, (.nat 10)⟩,
   ⟨0x2071, 1, 1, 0x01, 1, 1, .u32, .ro, .volUnit, .basic, .any, (.nat 0)⟩,
   ⟨0x2071, 1, 1, 0x02, 1, 1, .u8, .rwc, .sealed, .basic, (.rng 1 254), (.nat 96)⟩,
   ⟨0x2071, 1, 1, 0x03, 1, 1, .u8, .ro, .volUnit, .basic, .any, (.nat 0)⟩,
   ⟨0x2071, 1, 1, 0x04, 1, 1, .u8, .rwc, .sealed, .expert, (.rng 0 31), (.nat 2)⟩,
   ⟨0x2071, 1, 1, 0x05, 1, 1, .u16, .rwc, .sealed, .expert, (.rng 1 1000), (.nat 16)⟩,
   ⟨0x2071, 1, 1, 0x06, 1, 1, .u32, .ro, .volUnit, .expert, .any, (.nat 0)⟩,
   ⟨0x2071, 1, 1, 0x07, 1, 1, .u32, .ro, .volUnit, .basic, .any, (.nat 0)⟩,
   ⟨0x2071, 1, 1, 0x08, 1, 1, .u32, .rwc, .sealed, .expert, .any, (.nat 16777216)⟩,
   ⟨0x2071, 1, 1, 0x09, 1, 1, .u8, .rwc, .sealed, .expert, (.rng 1 64), (.nat 4)⟩,
   ⟨0x2071, 1, 1, 0x0A, 1, 1, .u8, .rwc, .sealed, .expert, (.rng 2 16), (.nat 3)⟩,
   ⟨0x2072, 1, 2, 0x00, 1, 1, .u8, .ro, .stored, .basic, .any, (.nat 4)⟩,
   ⟨0x2072, 1, 2, 0x01, 1, 1, .u8, .ro, .volUnit, .basic, .any, (.nat 0)⟩,
   ⟨0x2072, 1, 2, 0x02, 1, 1, .u8, .ro, .volUnit, .basic, .any, (.nat 0)⟩]
/-- R375. -/
def objectsR375_2 : List ObjRow :=
  [⟨0x2072, 1, 2, 0x03, 1, 1, .u32, .ro, .volUnit, .basic, .any, (.nat 0)⟩,
   ⟨0x2072, 1, 2, 0x04, 1, 1, .u32, .ro, .volUnit, .expert, .any, (.nat 0)⟩]
/-- R375. -/
def objectsR375 : List ObjRow := objectsR375_1 ++ objectsR375_2
/-- R404. -/
def objectsR404_1 : List ObjRow :=
  [⟨0x9000, 1, 1, 0x00, 1, 1, .u8, .ro, .stored, .basic, .any, (.nat 8)⟩,
   ⟨0x9000, 1, 1, 0x01, 1, 1, .u8, .ro, .volUnit, .basic, .any, (.nat 0)⟩,
   ⟨0x9000, 1, 1, 0x02, 1, 1, .u32, .ro, .volUnit, .basic, .any, (.nat 0)⟩,
   ⟨0x9000, 1, 1, 0x03, 1, 1, .u16, .ro, .volUnit, .basic, .any, (.nat 0)⟩,
   ⟨0x9000, 1, 1, 0x04, 1, 1, .u8, .ro, .volUnit, .expert, .any, (.nat 0)⟩,
   ⟨0x9000, 1, 1, 0x05, 1, 1, .u32, .ro, .volUnit, .basic, .any, (.nat 0)⟩,
   ⟨0x9000, 1, 1, 0x06, 1, 1, .u32, .ro, .volUnit, .expert, .any, (.nat 7829367)⟩,
   ⟨0x9000, 1, 1, 0x07, 1, 1, .u8, .ro, .volUnit, .basic, .any, (.nat 0)⟩,
   ⟨0x9000, 1, 1, 0x08, 1, 1, .u32, .ro, .volUnit, .expert, .any, (.nat 0)⟩,
   ⟨0x9010, 1, 1, 0x00, 1, 1, .u8, .ro, .stored, .expert, .any, (.nat 6)⟩,
   ⟨0x9010, 1, 1, 0x01, 1, 1, .u16, .rwc, .sealed, .expert, (.rng 500 10000), (.nat 1000)⟩,
   ⟨0x9010, 1, 1, 0x02, 1, 1, .u8, .rwc, .sealed, .expert, (.rng 10 80), (.nat 50)⟩,
   ⟨0x9010, 1, 1, 0x03, 1, 1, .u8, .rwc, .sealed, .expert, (.rng 20 100), (.nat 90)⟩,
   ⟨0x9010, 1, 1, 0x04, 1, 1, .u8, .rwc, .sealed, .expert, (.rng 2 16), (.nat 4)⟩,
   ⟨0x9010, 1, 1, 0x05, 1, 1, .u8, .ro, .volUnit, .expert, .any, (.nat 0)⟩,
   ⟨0x9010, 1, 1, 0x06, 1, 1, .u16, .ro, .volUnit, .expert, .any, (.nat 0)⟩,
   ⟨0x9020, 1, 1, 0x00, 1, 1, .u8, .ro, .stored, .basic, .any, (.nat 15)⟩,
   ⟨0x9020, 1, 1, 0x01, 1, 6, .u32, .rwc, .sealed, .basic, .any, (.nat 6710886)⟩,
   ⟨0x9020, 1, 1, 0x07, 1, 1, .u8, .rwc, .sealed, .expert, (.rng 1 16), (.nat 2)⟩,
   ⟨0x9020, 1, 1, 0x08, 1, 1, .u8, .rwc, .sealed, .basic, (.rng 0 63), (.nat 0)⟩,
   ⟨0x9020, 1, 1, 0x09, 1, 1, .fx32, .rwc, .sealed, .basic, .any, (.fx 0 0)⟩,
   ⟨0x9020, 1, 1, 0x0A, 1, 1, (.table 4), .rwc, .sealed, .basic, .any, (.oct (zeros 32))⟩,
   ⟨0x9020, 1, 1, 0x0B, 1, 1, .u16, .rwc, .sealed, .basic, (.rng 5 500), (.nat 20)⟩,
   ⟨0x9020, 1, 1, 0x0C, 1, 1, .u16, .rwc, .sealed, .expert, (.rng 10 1000), (.nat 50)⟩,
   ⟨0x9020, 1, 1, 0x0D, 1, 1, .u16, .rwc, .sealed, .basic, (.rng 200 5000), (.nat 1000)⟩,
   ⟨0x9020, 1, 1, 0x0E, 1, 1, .u16, .rwc, .sealed, .basic, (.rng 20 2000), (.nat 200)⟩,
   ⟨0x9020, 1, 1, 0x0F, 1, 1, .u16, .rwc, .sealed, .expert, (.rng 100 10000), (.nat 2000)⟩,
   ⟨0x9040, 1, 1, 0x00, 1, 1, .u8, .ro, .stored, .basic, .any, (.nat 8)⟩,
   ⟨0x9040, 1, 1, 0x01, 1, 1, .u16, .rwc, .sealed, .basic, (.rng 10 250), (.nat 30)⟩,
   ⟨0x9040, 1, 1, 0x02, 1, 1, .u16, .rwc, .sealed, .basic, (.rng 0 600), (.nat 60)⟩]
/-- R404. -/
def objectsR404_2 : List ObjRow :=
  [⟨0x9040, 1, 1, 0x03, 1, 1, .u16, .rwc, .sealed, .basic, (.rng 5 100), (.nat 25)⟩,
   ⟨0x9040, 1, 1, 0x04, 1, 1, .u8, .rwc, .sealed, .expert, (.rng 5 100), (.nat 20)⟩,
   ⟨0x9040, 1, 1, 0x05, 1, 1, .u32, .rwc, .sealed, .basic, .pairShift, (.nat 0)⟩,
   ⟨0x9040, 1, 1, 0x06, 1, 1, .u16, .rwc, .sealed, .basic, (.rng 1500 6000), (.nat 3000)⟩,
   ⟨0x9040, 1, 1, 0x07, 1, 1, .u32, .ro, .volUnit, .basic, .any, (.nat 0)⟩,
   ⟨0x9040, 1, 1, 0x08, 1, 1, .u64, .ro, .volUnit, .basic, .any, (.nat 18446744073709551615)⟩,
   ⟨0x9050, 1, 1, 0x00, 1, 1, .u8, .ro, .stored, .basic, .any, (.nat 6)⟩,
   ⟨0x9050, 1, 1, 0x01, 1, 1, .u8, .ro, .volUnit, .basic, .any, (.nat 0)⟩,
   ⟨0x9050, 1, 1, 0x02, 1, 1, .u8, .ro, .volUnit, .basic, .any, (.nat 0)⟩,
   ⟨0x9050, 1, 1, 0x03, 1, 1, .u8, .ro, .volUnit, .basic, .any, (.nat 0)⟩,
   ⟨0x9050, 1, 1, 0x04, 1, 1, .u16, .rwc, .sealed, .basic, (.rng 500 8000), (.nat 2500)⟩,
   ⟨0x9050, 1, 1, 0x05, 1, 1, .u16, .rwc, .sealed, .basic, (.rng 0 10000), (.nat 0)⟩,
   ⟨0x9050, 1, 1, 0x06, 1, 1, .u8, .ro, .volUnit, .basic, .any, (.nat 0)⟩,
   ⟨0x9060, 1, 1, 0x00, 1, 1, .u8, .ro, .stored, .expert, .any, (.nat 3)⟩,
   ⟨0x9060, 1, 1, 0x01, 1, 1, .u8, .ro, .volUnit, .expert, .any, (.nat 0)⟩,
   ⟨0x9060, 1, 1, 0x02, 1, 1, .u32, .ro, .volUnit, .expert, .any, (.nat 0)⟩,
   ⟨0x9060, 1, 1, 0x03, 1, 1, .u8, .rwc, .sealed, .expert, (.rng 1 64), (.nat 8)⟩]
/-- R404. -/
def objectsR404 : List ObjRow := objectsR404_1 ++ objectsR404_2
/-- R438. -/
def objectsR438 : List ObjRow :=
  [⟨0xA000, 1, 1, 0x00, 1, 1, .u8, .ro, .stored, .basic, .any, (.nat 11)⟩,
   ⟨0xA000, 1, 1, 0x01, 1, 1, .u16, .rwc, .sealed, .basic, (.step 250 4000 250), (.nat 1000)⟩,
   ⟨0xA000, 1, 1, 0x02, 1, 1, .u8, .rwc, .sealed, .basic, (.set [1, 2, 4, 8, 16, 32, 64]), (.nat 8)⟩,
   ⟨0xA000, 1, 1, 0x03, 1, 1, .u8, .rw, .stored, .basic, (.rng 0 3), (.nat 3)⟩,
   ⟨0xA000, 1, 1, 0x04, 1, 1, .u8, .rwc, .sealed, .basic, (.bits 0x0B), (.nat 3)⟩,
   ⟨0xA000, 1, 1, 0x05, 1, 1, .u8, .rwc, .sealed, .expert, (.rng 2 64), (.nat 8)⟩,
   ⟨0xA000, 1, 1, 0x06, 1, 1, .u8, .ro, .volUnit, .basic, .any, (.nat 0)⟩,
   ⟨0xA000, 1, 1, 0x07, 1, 1, .i32, .ro, .volUnit, .expert, .any, (.nat 0)⟩,
   ⟨0xA000, 1, 1, 0x08, 1, 1, .i32, .ro, .volUnit, .expert, .any, (.nat 0)⟩,
   ⟨0xA000, 1, 1, 0x09, 1, 1, .u8, .ro, .volUnit, .basic, .any, (.nat 0)⟩,
   ⟨0xA000, 1, 1, 0x0A, 1, 1, .u8, .ro, .volUnit, .expert, .any, (.nat 0)⟩,
   ⟨0xA000, 1, 1, 0x0B, 1, 1, .i64, .ro, .volUnit, .expert, .any, (.nat 0)⟩]
/-- R439. -/
def objectsR439 : List ObjRow :=
  [⟨0xA010, 1, 4, 0x00, 1, 1, .u8, .ro, .stored, .basic, .any, (.nat 15)⟩,
   ⟨0xA012, 1, 1, 0x01, 1, 1, .u16, .rwc, .sealed, .basic, (.set [500, 1000]), (.nat 1000)⟩,
   ⟨0xA010, 1, 4, 0x01, 1, 1, .u16, .rwc, .sealed, .basic, (.set [500, 1000]), (.nat 500)⟩,
   ⟨0xA012, 1, 1, 0x02, 1, 1, .u16, .rwc, .sealed, .basic, (.set [2000, 5000, 10000]), (.nat 10000)⟩,
   ⟨0xA010, 1, 4, 0x02, 1, 1, .u16, .rwc, .sealed, .basic, (.set [2000, 5000, 10000]), (.nat 5000)⟩,
   ⟨0xA010, 1, 4, 0x03, 1, 1, .u8, .rwc, .sealed, .expert, (.rng 60 90), (.nat 80)⟩,
   ⟨0xA010, 1, 4, 0x04, 1, 1, .u8, .rwc, .sealed, .expert, (.rng 50 85), (.nat 70)⟩,
   ⟨0xA010, 1, 1, 0x05, 1, 1, .u8, .ro, .sealed, .basic, (.set [0, 1, 2]), (.nat 1)⟩,
   ⟨0xA011, 1, 1, 0x05, 1, 1, .u8, .ro, .sealed, .basic, (.set [0, 1, 2]), (.nat 1)⟩,
   ⟨0xA012, 1, 1, 0x05, 1, 1, .u8, .ro, .sealed, .basic, (.set [0, 1, 2]), (.nat 3)⟩,
   ⟨0xA010, 1, 4, 0x05, 1, 1, .u8, .rwc, .sealed, .basic, (.set [0, 1, 2]), (.nat 0)⟩,
   ⟨0xA011, 1, 1, 0x06, 1, 1, .u8, .ro, .sealed, .basic, (.set [0, 3, 255]), (.nat 255)⟩,
   ⟨0xA012, 1, 1, 0x06, 1, 1, .u8, .ro, .sealed, .basic, (.set [0, 3, 255]), (.nat 255)⟩,
   ⟨0xA010, 1, 4, 0x06, 1, 1, .u8, .rwc, .sealed, .basic, (.set [0, 3, 255]), (.nat 255)⟩,
   ⟨0xA010, 1, 4, 0x07, 1, 1, .u8, .rwc, .sealed, .expert, .any, (.nat 0)⟩,
   ⟨0xA010, 1, 4, 0x08, 1, 1, .u16, .rw, .stored, .expert, (.rng 0 2000), (.nat 100)⟩,
   ⟨0xA010, 1, 4, 0x09, 1, 1, .u8, .ro, .volUnit, .basic, .any, (.nat 0)⟩,
   ⟨0xA010, 1, 4, 0x0A, 1, 1, .u8, .ro, .volUnit, .basic, .any, (.nat 0)⟩,
   ⟨0xA010, 1, 4, 0x0B, 1, 1, .u8, .ro, .volUnit, .basic, .any, (.nat 0)⟩,
   ⟨0xA010, 1, 4, 0x0C, 1, 1, .u32, .ro, .volUnit, .expert, .any, (.nat 0)⟩,
   ⟨0xA010, 1, 4, 0x0D, 1, 1, .u32, .ro, .volUnit, .expert, .any, (.nat 0)⟩,
   ⟨0xA010, 1, 4, 0x0E, 1, 1, .u32, .ro, .volUnit, .expert, .any, (.nat 0)⟩,
   ⟨0xA010, 1, 4, 0x0F, 1, 1, .u8, .rwc, .sealed, .expert, (.rng 1 16), (.nat 2)⟩]
/-- R440. -/
def objectsR440 : List ObjRow :=
  [⟨0xA100, 1, 1, 0x00, 1, 1, .u8, .ro, .stored, .expert, .any, (.nat 7)⟩,
   ⟨0xA100, 1, 1, 0x01, 1, 1, (.table 8), .rwc, .sealed, .expert, .any, (.oct [])⟩,
   ⟨0xA100, 1, 1, 0x02, 1, 1, (.table 8), .rwc, .sealed, .expert, .any, (.oct schedCDefault)⟩,
   ⟨0xA100, 1, 1, 0x03, 1, 1, (.table 8), .rwc, .sealed, .expert, .any, (.oct [])⟩,
   ⟨0xA100, 1, 1, 0x04, 1, 1, .u32, .ro, .volUnit, .expert, .any, (.nat 0)⟩,
   ⟨0xA100, 1, 1, 0x05, 1, 1, .u32, .ro, .volUnit, .expert, .any, (.nat 0)⟩,
   ⟨0xA100, 1, 1, 0x06, 1, 1, .u32, .ro, .volUnit, .expert, .any, (.nat 0)⟩,
   ⟨0xA100, 1, 1, 0x07, 1, 1, .u32, .ro, .volUnit, .expert, .any, (.nat 0)⟩]
/-- R441. -/
def objectsR441 : List ObjRow :=
  [⟨0xA200, 1, 1, 0x00, 1, 1, .u8, .ro, .stored, .basic, .any, (.nat 8)⟩,
   ⟨0xA200, 1, 1, 0x01, 1, 4, .u32, .rw, .stored, .basic, .claimReq, (.nat 0)⟩,
   ⟨0xA200, 1, 1, 0x05, 1, 1, .u8, .rw, .stored, .expert, (.rng 1 16), (.nat 4)⟩,
   ⟨0xA200, 1, 1, 0x06, 1, 1, .u32, .ro, .volUnit, .basic, .any, (.nat 0)⟩,
   ⟨0xA200, 1, 1, 0x07, 1, 1, (.octetsMax 64), .ro, .volUnit, .expert, .any, (.oct [])⟩,
   ⟨0xA200, 1, 1, 0x08, 1, 1, (.octetsMax 64), .ro, .volUnit, .expert, .any, (.oct [])⟩]
/-- R464. -/
def objectsR464 : List ObjRow :=
  [⟨0x1400, 1, 1, 0x00, 1, 1, .u8, .ro, .stored, .basic, .any, (.nat 6)⟩,
   ⟨0x1400, 1, 1, 0x01, 1, 1, .u16, .ro, .volApp, .basic, .any, (.nat 0)⟩,
   ⟨0x1400, 1, 1, 0x02, 1, 1, .u16, .ro, .volApp, .basic, .any, (.nat 0)⟩,
   ⟨0x1400, 1, 1, 0x03, 1, 1, (.octets 128), .ro, .volApp, .basic, .any, (.oct (zeros 128))⟩,
   ⟨0x1400, 1, 1, 0x04, 1, 1, .u32, .ro, .volApp, .expert, .any, (.nat 0)⟩,
   ⟨0x1400, 1, 1, 0x05, 1, 1, .u32, .ro, .volApp, .expert, .any, (.nat 0)⟩,
   ⟨0x1400, 1, 1, 0x06, 1, 1, .u32, .ro, .volApp, .expert, .any, (.nat 0)⟩]
/-- R465. -/
def objectsR465 : List ObjRow :=
  [⟨0xB000, 1, 1024, 0x00, 1, 1, .u8, .ro, .stored, .basic, .any, (.nat 24)⟩,
   ⟨0xB000, 1, 1024, 0x01, 1, 1, .u8, .rwc, .sealed, .basic, (.set [0, 1, 2]), (.nat 0)⟩,
   ⟨0xB000, 1, 1024, 0x02, 1, 1, .u16, .rwc, .sealed, .basic, (.rng 1 65534), (.nat 0)⟩,
   ⟨0xB000, 1, 1024, 0x03, 1, 1, .u16, .rwc, .sealed, .basic, .any, (.nat 0)⟩,
   ⟨0xB000, 1, 1024, 0x04, 1, 1, .u8, .rwc, .sealed, .basic, (.set [0, 1]), (.nat 0)⟩,
   ⟨0xB000, 1, 1024, 0x05, 1, 1, .u32, .rwc, .sealed, .expert, .any, (.nat 0)⟩,
   ⟨0xB000, 1, 1024, 0x06, 1, 1, .u16, .rwc, .sealed, .basic, (.rng 0 1024), (.nat 0)⟩,
   ⟨0xB000, 1, 1024, 0x07, 1, 1, .u8, .rwc, .sealed, .basic, (.set [0, 1]), (.nat 0)⟩,
   ⟨0xB000, 1, 1024, 0x08, 1, 1, .u16, .rwc, .sealed, .basic, (.rng 1 4096), (.nat 1)⟩,
   ⟨0xB000, 1, 1024, 0x09, 1, 1, .u16, .rwc, .sealed, .basic, (.rng 0 4095), (.nat 0)⟩,
   ⟨0xB000, 1, 1024, 0x0A, 1, 1, (.table 12), .rwc, .sealed, .basic, .any, (.oct [])⟩,
   ⟨0xB000, 1, 1024, 0x0B, 1, 1, .u8, .rwc, .sealed, .basic, (.rng 0 7), (.nat 1)⟩,
   ⟨0xB000, 1, 1024, 0x0C, 1, 1, .u32, .rwc, .sealed, .basic, (.rng 100 10000000), (.nat 20000)⟩,
   ⟨0xB000, 1, 1024, 0x0D, 1, 1, .u32, .rwc, .sealed, .basic, (.rng 1000 60000000), (.nat 50000)⟩,
   ⟨0xB000, 1, 1024, 0x0E, 1, 1, .u8, .rwc, .sealed, .expert, (.rng 1 16), (.nat 2)⟩,
   ⟨0xB000, 1, 1024, 0x0F, 1, 1, .u8, .rwc, .sealed, .basic, (.set [0, 1]), (.nat 0)⟩,
   ⟨0xB000, 1, 1024, 0x10, 1, 1, .u8, .ro, .volApp, .basic, .any, (.nat 0)⟩,
   ⟨0xB000, 1, 1024, 0x11, 1, 1, .u8, .wo, .volApp, .basic, (.set [82]), (.nat 0)⟩,
   ⟨0xB000, 1, 1024, 0x12, 1, 1, .u16, .ro, .volApp, .expert, .any, (.nat 0)⟩,
   ⟨0xB000, 1, 1024, 0x13, 1, 1, .i32, .ro, .volApp, .expert, .any, (.nat 0)⟩,
   ⟨0xB000, 1, 1024, 0x14, 1, 1, .u32, .ro, .volApp, .expert, .any, (.nat 0)⟩,
   ⟨0xB000, 1, 1024, 0x15, 1, 1, .u32, .ro, .volApp, .expert, .any, (.nat 0)⟩,
   ⟨0xB000, 1, 1024, 0x16, 1, 1, .u16, .ro, .volApp, .basic, .any, (.nat 0)⟩,
   ⟨0xB000, 1, 1024, 0x17, 1, 1, .u32, .ro, .volApp, .expert, .any, (.nat 0)⟩,
   ⟨0xB000, 1, 1024, 0x18, 1, 1, (.octetsMax 1024), .ro, .volApp, .expert, .any, (.oct [])⟩]
/-- R466. -/
def objectsR466 : List ObjRow :=
  [⟨0xC800, 1, 1, 0x00, 1, 1, .u8, .ro, .stored, .expert, .any, (.nat 8)⟩,
   ⟨0xC800, 1, 1, 0x01, 1, 1, (.table 4), .rwc, .sealed, .expert, .any, (.oct [])⟩,
   ⟨0xC800, 1, 1, 0x02, 1, 1, .u8, .rwc, .sealed, .basic, (.rngOr 0 15 255), (.nat 255)⟩,
   ⟨0xC800, 1, 1, 0x03, 1, 1, .u8, .rwc, .sealed, .expert, (.rng 1 64), (.nat 2)⟩,
   ⟨0xC800, 1, 1, 0x04, 1, 1, .u16, .rwc, .sealed, .expert, .any, (.nat 0)⟩,
   ⟨0xC800, 1, 1, 0x05, 1, 1, .u32, .ro, .volApp, .expert, .any, (.nat 0)⟩,
   ⟨0xC800, 1, 1, 0x06, 1, 1, .u32, .ro, .volApp, .expert, .any, (.nat 0)⟩,
   ⟨0xC800, 1, 1, 0x07, 1, 1, .u32, .ro, .volApp, .expert, .any, (.nat 0)⟩,
   ⟨0xC800, 1, 1, 0x08, 1, 1, .u32, .ro, .volApp, .expert, .any, (.nat 0)⟩,
   ⟨0xC810, 1, 1, 0x00, 1, 1, .u8, .ro, .stored, .basic, .any, (.nat 3)⟩,
   ⟨0xC810, 1, 1, 0x01, 1, 1, (.table 32), .ro, .volApp, .basic, .any, (.oct [])⟩,
   ⟨0xC810, 1, 1, 0x02, 1, 1, (.table 32), .ro, .volApp, .basic, .any, (.oct [])⟩,
   ⟨0xC810, 1, 1, 0x03, 1, 1, (.table 32), .ro, .volApp, .basic, .any, (.oct [])⟩]
/-- R483. -/
def objectsR483 : List ObjRow :=
  [⟨0xC400, 1, 1, 0x00, 1, 1, .u8, .ro, .stored, .basic, .any, (.nat 13)⟩,
   ⟨0xC400, 1, 1, 0x01, 1, 1, .bool, .rw, .stored, .basic, .any, (.nat 1)⟩,
   ⟨0xC400, 1, 1, 0x02, 1, 1, .bool, .rw, .stored, .basic, .any, (.nat 0)⟩,
   ⟨0xC400, 1, 1, 0x03, 1, 1, .u8, .ro, .volUnit, .basic, .any, (.nat 0)⟩,
   ⟨0xC400, 1, 1, 0x04, 1, 1, .u16, .rw, .stored, .expert, (.rng 1 1000), (.nat 10)⟩,
   ⟨0xC400, 1, 1, 0x05, 1, 1, .u32, .ro, .volUnit, .expert, .any, (.nat 0)⟩,
   ⟨0xC400, 1, 1, 0x06, 1, 1, .u32, .ro, .volUnit, .expert, .any, (.nat 0)⟩,
   ⟨0xC400, 1, 1, 0x07, 1, 1, .u32, .ro, .volUnit, .expert, .any, (.nat 0)⟩,
   ⟨0xC400, 1, 1, 0x08, 1, 1, .u32, .ro, .volUnit, .expert, .any, (.nat 0)⟩,
   ⟨0xC400, 1, 1, 0x09, 1, 1, .u32, .ro, .volUnit, .expert, .any, (.nat 0)⟩,
   ⟨0xC400, 1, 1, 0x0A, 1, 1, .u32, .ro, .volUnit, .basic, .any, (.nat 0)⟩,
   ⟨0xC400, 1, 1, 0x0B, 1, 1, .u32, .ro, .volUnit, .expert, .any, (.nat 0)⟩,
   ⟨0xC400, 1, 1, 0x0C, 1, 1, .u32, .ro, .volUnit, .expert, .any, (.nat 0)⟩,
   ⟨0xC400, 1, 1, 0x0D, 1, 1, .u32, .ro, .volUnit, .expert, .any, (.nat 0)⟩]
/-- R508. -/
def objectsR508 : List ObjRow :=
  [⟨0xD000, 1, 1, 0x00, 1, 1, .u8, .ro, .stored, .basic, .any, (.nat 9)⟩,
   ⟨0xD000, 1, 1, 0x01, 1, 1, (.table 16), .ro, .volUnit, .expert, .any, (.oct [])⟩,
   ⟨0xD000, 1, 1, 0x02, 1, 1, (.table 8), .ro, .stored, .basic, .any, (.oct [])⟩,
   ⟨0xD000, 1, 1, 0x03, 1, 1, .u8, .ro, .stored, .basic, .any, (.nat 0)⟩,
   ⟨0xD000, 1, 1, 0x04, 1, 1, .u8, .ro, .stored, .basic, .any, (.nat 0)⟩,
   ⟨0xD000, 1, 1, 0x05, 1, 1, .u8, .ro, .stored, .basic, .any, (.nat 0)⟩,
   ⟨0xD000, 1, 1, 0x06, 1, 1, .u16, .ro, .stored, .expert, .any, (.nat 0)⟩,
   ⟨0xD000, 1, 1, 0x07, 1, 1, .u32, .ro, .stored, .basic, .any, (.nat 0)⟩,
   ⟨0xD000, 1, 1, 0x08, 1, 1, .u16, .ro, .volUnit, .expert, .any, (.nat 0)⟩,
   ⟨0xD000, 1, 1, 0x09, 1, 1, (.table 8), .ro, .volUnit, .expert, .any, (.oct (zeros 128))⟩,
   ⟨0xD100, 1, 11, 0x00, 1, 1, .u8, .ro, .stored, .expert, .any, (.nat 5)⟩,
   ⟨0xD100, 1, 11, 0x01, 1, 1, .u32, .ro, .volUnit, .basic, .any, (.nat 0)⟩,
   ⟨0xD100, 1, 11, 0x02, 1, 1, .u32, .ro, .volUnit, .basic, .any, (.nat 0)⟩,
   ⟨0xD100, 1, 1, 0x03, 1, 1, .u32, .rw, .stored, .expert, (.rng 100 4000000000), (.nat 1000)⟩,
   ⟨0xD101, 1, 1, 0x03, 1, 1, .u32, .rw, .stored, .expert, (.rng 100 4000000000), (.nat 1000)⟩,
   ⟨0xD102, 1, 1, 0x03, 1, 1, .u32, .rw, .stored, .expert, (.rng 100 4000000000), (.nat 1000)⟩,
   ⟨0xD103, 1, 1, 0x03, 1, 1, .u32, .rw, .stored, .expert, (.rng 100 4000000000), (.nat 1000)⟩,
   ⟨0xD104, 1, 1, 0x03, 1, 1, .u32, .rw, .stored, .expert, (.rng 100 4000000000), (.nat 1000)⟩,
   ⟨0xD105, 1, 1, 0x03, 1, 1, .u32, .rw, .stored, .expert, (.rng 100 4000000000), (.nat 10000)⟩,
   ⟨0xD106, 1, 1, 0x03, 1, 1, .u32, .rw, .stored, .expert, (.rng 100 4000000000), (.nat 500)⟩,
   ⟨0xD107, 1, 1, 0x03, 1, 1, .u32, .rw, .stored, .expert, (.rng 100 4000000000), (.nat 10000)⟩,
   ⟨0xD108, 1, 1, 0x03, 1, 1, .u32, .rw, .stored, .expert, (.rng 100 4000000000), (.nat 100)⟩,
   ⟨0xD109, 1, 1, 0x03, 1, 1, .u32, .rw, .stored, .expert, (.rng 100 4000000000), (.nat 600000)⟩,
   ⟨0xD10A, 1, 1, 0x03, 1, 1, .u32, .rw, .stored, .expert, (.rng 100 4000000000), (.nat 604800000)⟩,
   ⟨0xD100, 1, 11, 0x04, 1, 1, .u32, .ro, .volUnit, .basic, .any, (.nat 0)⟩,
   ⟨0xD100, 1, 11, 0x05, 1, 1, .u32, .ro, .volUnit, .basic, .any, (.nat 0)⟩]
/-- R509. -/
def objectsR509 : List ObjRow :=
  [⟨0xC000, 1, 1, 0x00, 1, 1, .u8, .ro, .stored, .basic, .any, (.nat 13)⟩,
   ⟨0xC000, 1, 1, 0x01, 1, 1, .bool, .rw, .stored, .basic, .any, (.nat 1)⟩,
   ⟨0xC000, 1, 1, 0x02, 1, 1, .u16, .rw, .stored, .basic, (.rng 0 16380), (.nat 10000)⟩,
   ⟨0xC000, 1, 1, 0x03, 1, 1, .u16, .rw, .stored, .basic, (.rng 1 16380), (.nat 5000)⟩,
   ⟨0xC000, 1, 1, 0x04, 1, 1, .u8, .rw, .stored, .basic, (.rng 0 15), (.nat 15)⟩,
   ⟨0xC000, 1, 1, 0x05, 1, 1, (.octets 8), .rw, .stored, .basic, .any, (.oct (zeros 8))⟩,
   ⟨0xC000, 1, 1, 0x06, 1, 1, .u8, .rw, .stored, .basic, (.set [2, 3]), (.nat 2)⟩,
   ⟨0xC000, 1, 1, 0x07, 1, 1, .u8, .wo, .volUnit, .basic, (.set [84, 69]), (.nat 0)⟩,
   ⟨0xC000, 1, 1, 0x08, 1, 1, .u8, .rw, .stored, .basic, .any, (.nat 0)⟩,
   ⟨0xC000, 1, 1, 0x09, 1, 1, .u8, .wo, .volUnit, .basic, (.rng 0 7), (.nat 0)⟩,
   ⟨0xC000, 1, 1, 0x0A, 1, 1, .u8, .ro, .volApp, .basic, .any, (.nat 0)⟩,
   ⟨0xC000, 1, 1, 0x0B, 1, 1, .u32, .ro, .volUnit, .expert, .any, (.nat 0)⟩,
   ⟨0xC000, 1, 1, 0x0C, 1, 1, .u32, .ro, .volApp, .basic, .any, (.nat 0)⟩,
   ⟨0xC000, 1, 1, 0x0D, 1, 1, .u32, .ro, .volUnit, .expert, .any, (.nat 0)⟩,
   ⟨0xC010, 1, 8, 0x00, 1, 1, .u8, .ro, .stored, .basic, .any, (.nat 1)⟩,
   ⟨0xC010, 1, 8, 0x01, 1, 1, (.octets 128), .ro, .stored, .basic, .any, (.oct (zeros 128))⟩]
/-- R528. -/
def objectsR528 : List ObjRow :=
  [⟨0xE000, 1, 1, 0x00, 1, 1, .u8, .ro, .stored, .basic, .any, (.nat 9)⟩,
   ⟨0xE000, 1, 1, 0x01, 1, 1, .u8, .rwc, .sealed, .basic, (.bits 0x0E), (.nat 14)⟩,
   ⟨0xE000, 1, 1, 0x02, 1, 1, .u8, .ro, .volUnit, .basic, .any, (.nat 0)⟩,
   ⟨0xE000, 1, 1, 0x03, 1, 1, .u8, .ro, .volUnit, .basic, .any, (.nat 0)⟩,
   ⟨0xE000, 1, 1, 0x04, 1, 1, .u64, .ro, .volUnit, .basic, .any, (.nat 0)⟩,
   ⟨0xE000, 1, 1, 0x05, 1, 1, .u32, .ro, .volUnit, .basic, .any, (.nat 0)⟩,
   ⟨0xE000, 1, 1, 0x06, 1, 1, .u32, .ro, .volUnit, .expert, .any, (.nat 0)⟩,
   ⟨0xE000, 1, 1, 0x07, 1, 1, .u32, .ro, .stored, .basic, .any, (.nat 0)⟩,
   ⟨0xE000, 1, 1, 0x08, 1, 1, .u32, .ro, .stored, .expert, .any, (.nat 0)⟩,
   ⟨0xE000, 1, 1, 0x09, 1, 1, .u32, .wo, .volUnit, .basic, .any, (.nat 0)⟩,
   ⟨0xE010, 1, 1, 0x00, 1, 1, .u8, .ro, .stored, .basic, .any, (.nat 1)⟩,
   ⟨0xE010, 1, 1, 0x01, 1, 1, (.table 24), .ro, .volUnit, .basic, .any, (.oct [])⟩,
   ⟨0xE020, 1, 1, 0x00, 1, 1, .u8, .ro, .stored, .basic, .any, (.nat 2)⟩,
   ⟨0xE020, 1, 1, 0x01, 1, 1, .u32, .rw, .volApp, .basic, .any, (.nat 0)⟩,
   ⟨0xE020, 1, 1, 0x02, 1, 1, (.table 32), .ro, .volUnit, .basic, .any, (.oct [])⟩]
/-- R547. -/
def objectsR547 : List ObjRow :=
  [⟨0x2080, 1, 1, 0x00, 1, 1, .u8, .ro, .stored, .basic, .any, (.nat 8)⟩,
   ⟨0x2080, 1, 1, 0x01, 1, 1, .i16, .ro, .volUnit, .basic, .any, (.nat 0)⟩,
   ⟨0x2080, 1, 1, 0x02, 1, 1, .i16, .ro, .volUnit, .basic, .any, (.nat 0)⟩,
   ⟨0x2080, 1, 1, 0x03, 1, 1, .i16, .ro, .volUnit, .expert, .any, (.nat 0)⟩,
   ⟨0x2080, 1, 1, 0x04, 1, 1, .u8, .ro, .volUnit, .basic, .any, (.nat 0)⟩,
   ⟨0x2080, 1, 1, 0x05, 1, 1, .u32, .ro, .stored, .expert, .any, (.nat 0)⟩,
   ⟨0x2080, 1, 1, 0x06, 1, 1, .u32, .ro, .stored, .expert, .any, (.nat 0)⟩,
   ⟨0x2080, 1, 1, 0x07, 1, 1, .i16, .rw, .volUnit, .expert, (.set [0]), (.nat 0)⟩,
   ⟨0x2080, 1, 1, 0x08, 1, 1, .u32, .ro, .stored, .basic, .any, (.nat 0)⟩]

/-- The object tables, each with the lowest and the highest index it covers. -/
def objectTables : List (Nat × Nat × List ObjRow) :=
  [(0x2010, 0x2010, objectsR34),
   (0x2000, 0x2000, objectsR42),
   (0x2030, 0x2040, objectsR68),
   (0x2050, 0x2056, objectsR96),
   (0x1020, 0x9030, objectsR125),
   (0x1000, 0x1000, objectsR132),
   (0x2F00, 0x2F10, objectsR152),
   (0x3000, 0x3300, objectsR182),
   (0x4000, 0x42C0, objectsR217),
   (0x4300, 0x4305, objectsR218),
   (0x4400, 0x44E0, objectsR219),
   (0x4600, 0x4760, objectsR220),
   (0x5000, 0x5000, objectsR247),
   (0x5100, 0x51FF, objectsR248),
   (0x5800, 0x583F, objectsR251),
   (0x2011, 0x2011, objectsR253),
   (0x2012, 0x2012, objectsR275),
   (0x6000, 0x6500, objectsR280),
   (0x6001, 0x6501, objectsR280b),
   (0x7000, 0x72C0, objectsR308),
   (0x7400, 0x740B, objectsR309),
   (0x4000, 0x42C0, objectsR310),
   (0x7800, 0x7860, objectsR330),
   (0x7880, 0x788F, objectsR331),
   (0x8000, 0x8067, objectsR352),
   (0x2070, 0x2073, objectsR375),
   (0x9000, 0x9060, objectsR404),
   (0xA000, 0xA000, objectsR438),
   (0xA010, 0xA013, objectsR439),
   (0xA100, 0xA100, objectsR440),
   (0xA200, 0xA200, objectsR441),
   (0x1400, 0x1400, objectsR464),
   (0xB000, 0xB3FF, objectsR465),
   (0xC800, 0xC810, objectsR466),
   (0xC400, 0xC400, objectsR483),
   (0xD000, 0xD10A, objectsR508),
   (0xC000, 0xC017, objectsR509),
   (0xE000, 0xE020, objectsR528),
   (0x2080, 0x2080, objectsR547)]

/-- R513: how the class of a kind is laid down. -/
inductive KindClass where
  | settable | fixed | open
  deriving DecidableEq, Repr

/-- R513: kinds, part 1. -/
def faultKinds_1 : List (Nat × Nat × KindClass) :=
  [(0x01, 2, .settable), (0x02, 2, .settable), (0x03, 2, .settable), (0x04, 1, .settable), (0x05, 2, .settable), (0x06, 3, .fixed), (0x10, 0, .settable), (0x11, 0, .open), (0x12, 0, .open), (0x13, 2, .settable), (0x14, 1, .settable), (0x15, 3, .fixed), (0x16, 0, .settable), (0x17, 2, .settable), (0x20, 1, .settable), (0x21, 2, .settable), (0x22, 1, .settable), (0x23, 2, .settable), (0x30, 0, .settable), (0x31, 1, .settable), (0x32, 2, .settable), (0x33, 1, .settable), (0x34, 2, .settable), (0x35, 2, .settable), (0x36, 2, .settable)]
/-- R513: kinds, part 2. -/
def faultKinds_2 : List (Nat × Nat × KindClass) :=
  [(0x37, 0, .settable), (0x40, 3, .settable), (0x41, 0, .open), (0x42, 0, .settable), (0x50, 3, .fixed), (0x51, 1, .settable), (0x52, 2, .settable), (0x53, 2, .settable), (0x54, 3, .fixed), (0x55, 1, .settable), (0x56, 2, .settable), (0x57, 0, .settable), (0x58, 2, .settable), (0x59, 2, .settable), (0x5A, 1, .settable), (0x60, 0, .settable), (0x61, 0, .settable), (0x62, 2, .settable), (0x70, 2, .settable), (0x71, 1, .settable), (0x72, 2, .settable), (0x73, 2, .settable), (0x74, 1, .settable), (0x75, 2, .settable), (0x80, 3, .fixed)]
/-- R513: kinds, part 3. -/
def faultKinds_3 : List (Nat × Nat × KindClass) :=
  [(0x81, 3, .fixed), (0x82, 2, .settable), (0x83, 3, .fixed), (0x84, 3, .fixed), (0x85, 3, .fixed), (0x90, 2, .settable), (0x91, 1, .settable), (0x92, 0, .settable), (0x93, 1, .settable), (0x94, 2, .settable), (0x95, 2, .settable), (0xA0, 1, .settable), (0xA1, 1, .settable), (0xA2, 2, .settable), (0xA3, 1, .settable), (0xA4, 2, .settable), (0xB0, 1, .settable), (0xB1, 1, .settable), (0xC0, 2, .settable), (0xC1, 0, .settable), (0xC2, 0, .settable), (0xD0, 3, .fixed), (0xD1, 3, .fixed)]
/-- R513: every fault kind's code, default class and whether its class may be configured. -/
def faultKinds : List (Nat × Nat × KindClass) := faultKinds_1 ++ faultKinds_2 ++ faultKinds_3

/-- R523: the record of kind `k`; its class entry is RO where R513 says so. [log 4 DESIGN CHOICE] -/
def kindRows (k : Nat) : List ObjRow :=
  match faultKinds.find? (·.1 == k) with
  | none => []
  | some (_, cls, how) =>
    [⟨0xE100 + k, 1, 1, 0x00, 1, 1, .u8, .ro, .stored, .expert, .any, .nat 3⟩,
     ⟨0xE100 + k, 1, 1, 0x01, 1, 1, .u8, if how = .settable then .rwc else .ro, .sealed, .expert, .rng 0 3,
       .nat (if how = .open then Config.openClass k else cls)⟩,
     ⟨0xE100 + k, 1, 1, 0x02, 1, 1, .u32, .rwc, .sealed, .expert, .step 100 100000 100, .nat 2000⟩,
     ⟨0xE100 + k, 1, 1, 0x03, 1, 1, .u32, .ro, .volUnit, .basic, .any, .nat 0⟩]

/-- R250: the entry of a node; nodes 3584 to 4095 are RW. -/
def nodeRow (idx sub : Nat) : ObjRow :=
  ⟨idx, 1, 1, sub, 1, 1, .i32, if 0x541C ≤ idx then .rw else .ro, .volUnit, .expert, .any, .nat 0⟩

/-- R126: the highest sub-index of a record of nodes. -/
def nodeHighest (idx : Nat) : ObjRow := ⟨idx, 1, 1, 0, 1, 1, .u8, .ro, .stored, .expert, .any, .nat 0x80⟩

/-- The rows that may describe an index. -/
def tablesAt (idx : Nat) : List ObjRow :=
  if 0xE100 ≤ idx ∧ idx ≤ 0xE1FF then kindRows (idx - 0xE100)
  else (objectTables.filter fun t => t.1 ≤ idx && idx ≤ t.2.1).flatMap (·.2.2)

/-- The object-table row of an entry, none where the manual lists no such entry. -/
def rowOf (key : Nat) : Option ObjRow :=
  let idx := key / 256
  let sub := key % 256
  if 0x5400 ≤ idx ∧ idx ≤ 0x541F then (if sub = 0 then some (nodeHighest idx) else if sub ≤ 128 then some (nodeRow idx sub) else none)
  else (tablesAt idx).find? (·.covers idx sub)

/-- Does the index hold any object (0x0601_0001 against 0x0601_0002, R131)? -/
def indexExists (idx : Nat) : Bool :=
  (0x5400 ≤ idx && idx ≤ 0x541F) || (tablesAt idx).any (·.coversIndex idx)

/-- The default of an entry, `num 0` where there is no entry. [log 1 DESIGN CHOICE] -/
def defaultOf (key : Nat) : Val := (rowOf key).elim (.num 0) (·.dflt)

end Sys2Proof
end

