-- ==== Sys2Proof/Machine/Units.lean ====
section
/-!
DEFINITION. Machine/Units.lean: the state the units of a lane hold beside their dictionary entries and nodes. A quantity
that software reads as an entry lives in the entry (State.dict); what stands here is what the manual describes without
giving it an entry. The default of a field is its reset value.
-/
namespace Sys2Proof.Machine

/-- R73, R27, R32, R223–R227, R423–R426: the lane's time. [log 1, 17, 262 DESIGN CHOICE] -/
structure Clock where
  /-- global time in 10 ns counts (R9); before the first join the lane's own count -/
  now : Nat := 0
  /-- the lane has joined global time and still holds it -/
  joined : Bool := false
  /-- tick edges are generated (from step 5 of a start until the domain drops) -/
  running : Bool := false
  /-- lengths, in actuator clocks, of the ticks of the present beat -/
  lens : List Nat := []
  /-- length of the tick in progress, and the ordinal of its beat -/
  tickLen : Nat := 12500
  tickBeat : Nat := 0
  /-- length of the tick that has ended last (R31) -/
  ended : Nat := 12500
  /-- the beat's boundary has passed and its tick 0 has still to open (R27) -/
  opened : Bool := false
  /-- a cell window is open (R225) -/
  windowOpen : Bool := false
  /-- ticks since the start of the lane, for periods counted in ticks -/
  ticks : Nat := 0
  deriving DecidableEq, Repr

/-- R97–R124: where a start and a shutdown self-test stand. [log 1 DESIGN CHOICE] -/
structure Start where
  /-- the lane does not take lead: a calibration that failed twice, an unsettled reference, a failed self-test (R105,
  R107, R123) -/
  noLead : Bool := false
  /-- its health score is held at 0 (R105, R107, R123) -/
  scoreZero : Bool := false
  /-- the reset kind whose start is due (R97, R103) -/
  due : Option Nat := some 0
  /-- the always-on tick at which it took effect (R97) -/
  dueTick : Nat := 0
  /-- SIG_STATE and SIG_ACTIVE as stored, kept while seal mode shows its own (R389) -/
  sigBefore : Nat × Nat := (0, 0)
  /-- the trigger of the running start, in 10 ns counts of the lane's time -/
  began : Int := 0
  /-- the running start ends a stay in DOZE or PARKED (R84) -/
  wakeStart : Bool := false
  /-- the signature has been presented in the running start (R99) -/
  presented : Bool := false
  /-- R123: a repeated phase failed and no self-test has passed since -/
  barred : Bool := false
  /-- the recovery loader runs (R110) -/
  loader : Bool := false
  /-- the slot that the last start ran, and the slot recorded with the self-test record (R101, R109) -/
  slotRan : Nat := 0
  sstSlot : Nat := 0
  /-- trial starts in a row that did not reach step 8 (R111) -/
  trialFails : Nat := 0
  /-- the phase of the shutdown self-test that runs, 1 to 6; it has run in the present entry to PARKED (R117, R118) -/
  phase : Nat := 0
  tested : Bool := false
  /-- time since the running phase began, 10 ns counts; R120: the rest condition had held for 1 s when phase 2 began -/
  phaseTime : Nat := 0
  restTwo : Bool := false
  /-- R121: the record as it stood before the present entry opened a new one, and its slot -/
  recordBefore : List (Nat × Val) := []
  slotBefore : Nat := 0
  /-- units that failed phase 5, to be retired at step 4 of the next start: memory and base address (R122) -/
  found : List (Nat × Nat) := []
  deriving DecidableEq, Repr

/-- R71–R95: the power controller in PD_AON. [log 1 DESIGN CHOICE] -/
structure Power where
  /-- 0 awake, 1 DOZE, 2 PARKED; the entry under way, as the state it leads to (R84–R87) -/
  sleep : Nat := 0
  entry : Nat := 0
  /-- domains whose hold-off has expired and that wait for those above them (R78), in the layout of R75 -/
  expired : Nat := 0
  /-- domains whose rise has begun and not reached power-good (R84, R85) -/
  rising : Nat := 0
  /-- ports with a valid frame within PORT_ACT_REELS reels; partners whose vote arrived within 2 reels (R76) -/
  ports : Nat := 0
  partners : Nat := 0
  /-- filtered level of KEY, and the level read back from the HOLD net (R54, R93) -/
  key : Bool := false
  holdNet : Bool := false
  /-- the keeper's linger vote is taken (R81) -/
  linger : Bool := true
  /-- PD_MAIN has come up since PD_AON was powered or VBAT browned out (R51, R83) -/
  mainUp : Bool := false
  /-- a wake was recognised in PARKED and PD_MAIN is not yet up; VBAT is awaited (R83, R88) -/
  waking : Bool := false
  vbatWait : Bool := false
  /-- always-on tick of the last wake record, none before the first (R94) -/
  wokeTick : Option Nat := none
  /-- where the last wake record was written: 1 DOZE, 2 PARKED, 3 and 4 the entries to them (R90, R94) -/
  wokeFrom : Nat := 0
  /-- the last wake's global time is to be estimated on rejoining (R95) -/
  estimate : Bool := false
  /-- PD_MEAS has dropped since the last calibration (R86) -/
  recal : Bool := false
  /-- R86, R176: a wake has asked for the calibration that PD_MEAS's next rise runs -/
  recalDue : Bool := false
  /-- frame-detection error counters of ports A and B (R92) -/
  cueErrors : Vector Nat 2 := .replicate 2 0
  /-- ticks of the always-on timer since PD_AON was powered; the tick at which AON_SECONDS was 0 (R93, R102) -/
  tick : Nat := 0
  origin : Nat := 0
  /-- parts of an always-on tick and of an operating second, in 10 ns counts × 32,768 and 10 ns counts (R102, R494) -/
  tickPart : Nat := 0
  secPart : Nat := 0
  /-- 10 ns counts for which the rest condition of R120 has held, at most 1 s -/
  rest : Nat := 0
  deriving DecidableEq, Repr

/-- R542–R544: the thermal governor beside its entries. -/
structure Thermal where
  /-- qualifiers raised and not yet fallen back: THERMAL_WARN 1 to 3 in bits 0 to 2, THERMAL_LIMIT 1 to 3 in bits 3 to 5 -/
  raised : Nat := 0
  /-- the level the last sample asks for, applied at the next tick edge -/
  coming : Nat := 0
  /-- the integrated stages are shut down (R544) -/
  shut : Bool := false
  /-- ms at level 1 or above and at level 2 not yet counted as whole seconds -/
  part1 : Nat := 0
  part2 : Nat := 0
  deriving DecidableEq, Repr

/-- R467–R483: the stream port beside its entries. -/
structure Stream where
  /-- the last training attempt failed and IDLE columns are sent for 10 ms; STREAM_LINK_DOWN 0x4 stands raised (R469, R482) -/
  idle : Bool := false
  failed : Bool := false
  /-- credits of each class freed by this lane since the link came up, used by it, and returned to it, modulo 2^16 (R475) -/
  freed : Vector Nat 2 := .replicate 2 0
  used : Vector Nat 2 := .replicate 2 0
  returned : Vector Nat 2 := .replicate 2 0
  /-- the next sequence of each type sent, and expected, by type 1 to 6 (R471, R473) -/
  seqTx : Vector Nat 6 := .replicate 6 0
  seqRx : Vector (Option Nat) 6 := .replicate 6 none
  /-- waiting frames: TIME, AZSIN and DICT payloads, IMAGE answers (R474) -/
  time : Bool := false
  azsin : List (List Byte) := []
  dict : List (List Byte) := []
  image : List (List Byte) := []
  /-- containers latched for the coming boundary (R474) -/
  latched : List Byte := []
  /-- bytes accepted of the running image load (R478) -/
  load : Option Nat := none
  /-- the recovery loader resets the lane once its last answer has been sent (R110, R478) -/
  reboot : Bool := false
  /-- a live sample was dropped since the last TRACE frame (R479) -/
  gap : Bool := false
  deriving DecidableEq, Repr

/-- R140–R144: one open transfer. -/
structure Transfer where
  client : Client
  /-- the transport its requests come by -/
  via : Via := .stream
  tag : Nat
  write : Bool
  key : Nat
  /-- the value being read, or the bytes written so far; the length stated in a WRITE_INIT -/
  data : List Byte
  total : Nat
  /-- bytes of a read sent so far -/
  sent : Nat
  /-- its rights came from a session, and that session has closed (R144) -/
  session : Bool
  closed : Bool
  deriving DecidableEq, Repr

/-- R135–R138: the keeper's sessions beside their entries. -/
structure Session where
  owner : Option Client := none
  /-- the outstanding challenge: its client, session code, lane nonce and client nonce -/
  challenge : Option (Client × Nat × List Byte × List Byte) := none
  /-- 10 ns counts of the lockout still to run -/
  lockout : Nat := 0
  transfers : List Transfer := []
  deriving DecidableEq, Repr

/-- A fault message before it is packed into 64 bits (R510), and the global time at which it was raised (R515, R518). -/
structure FaultMsg where
  src : Nat
  kind : Nat
  cls : Nat
  qual : Nat
  seq : Nat
  detail : Word
  time : Nat
  deriving DecidableEq, Repr

/-- R518, R529: one row of the active table. -/
structure FaultRow where
  src : Nat
  kind : Nat
  /-- class at raising -/
  cls : Nat
  /-- 1 uncleared, 2 timer running, 3 acknowledged, 4 CRITICAL, 5 escalated -/
  state : Nat
  count : Nat
  first : Nat
  last : FaultMsg
  deriving DecidableEq, Repr

/-- R525: one entry of the fault log. -/
structure LogEntry where
  seq : Nat
  type : Nat
  flags : Nat
  role : Nat
  resetKind : Nat
  aonSeconds : Nat
  time : Nat
  /-- bytes [7:0]: the fault message -/
  msg : FaultMsg
  /-- bytes [15:0] of a type 6 entry: the ECC_LOG entry -/
  ecc : List Byte := []
  deriving DecidableEq, Repr

/-- R515–R528: the fault collector. -/
structure Collector where
  /-- the input queue, at most 64 -/
  queue : List FaultMsg := []
  /-- MAJOR and CRITICAL messages their sources hold until the queue has room -/
  held : List FaultMsg := []
  /-- messages sent by each source since its die's reset -/
  seqs : Sparse Nat := []
  /-- R515: a message has been dropped: the log entry of the next one taken carries the gap flag -/
  gap : Bool := false
  rows : List FaultRow := []
  tableFull : Bool := false
  /-- CRITICAL lines asserted and not yet acted on, each by its message -/
  lines : List FaultMsg := []
  /-- source and kind of the line that started the last CRITICAL reaction, until its message is taken -/
  reacting : Option (Nat × Nat) := none
  /-- log entries in the SRAM ring not yet committed, oldest first (R526) -/
  ramLog : List LogEntry := []
  /-- log entries in flash, oldest first (R525) -/
  flashLog : List LogEntry := []
  /-- messages the chaperone holds while the main die is in reset, at most 8 (R517) -/
  chapHeld : List FaultMsg := []
  /-- a CRITICAL reaction has run since the last reset: the lane is fail-silent (R519), and the kind that made it so (R99) -/
  failSilent : Bool := false
  silentBy : Option Nat := none
  deriving DecidableEq, Repr

/-- R166–R169: one multiplexed converter. -/
structure Gc where
  /-- the running scan table, rows of R167; empty before the first list start -/
  table : List Nat := []
  row : Nat := 0
  /-- R176: the table written when the running calibration began, which the list takes while it runs -/
  next : List Nat := []
  /-- the row's settle is over: in tick mode the next tick edge opens its window (R168) -/
  wait : Bool := false
  /-- the row's window is open or has ended, and its charge is not read -/
  window : Bool := false
  /-- R168, tick mode: the ticks the window still lasts, and the count clocks it has lasted -/
  left : Nat := 0
  lasted : Nat := 0
  /-- the row's reference has been settled throughout the window -/
  settled : Bool := false
  deriving DecidableEq, Repr, Inhabited

/-- R180, R181: one sensor supply. -/
structure Sup where
  on : Bool := false
  /-- consecutive failed retries -/
  failed : Nat := 0
  deriving DecidableEq, Repr, Inhabited

/-- R155–R181: the measuring state that has no entry. -/
structure Measure where
  /-- legs that have ended their integration in this tick and are not yet written, by converter -/
  legs : Vector (Option Charge) 18 := .replicate 18 none
  /-- R159, R164, R265: a tick has opened the IC windows; axes disarmed or in active short circuit at that edge, whose legs
  integrate over the whole tick -/
  opened : Bool := false
  whole : Vector Bool 6 := .replicate 6 false
  /-- R164, R265: those of them that are disarmed and not in active short circuit, which run the shunt offset check -/
  offset : Vector Bool 6 := .replicate 6 false
  /-- converters integrating now -/
  integrating : Vector Bool 18 := .replicate 18 false
  /-- R172: the reference has been settled since the window, a tick or a beat, opened -/
  icSettled : Vector Bool 18 := .replicate 18 false
  scSettled : Vector Bool 16 := .replicate 16 false
  /-- the last result was clamped, so ADC_RANGE is not raised again (R156) -/
  icClamped : Vector Bool 18 := .replicate 18 false
  scClamped : Vector Bool 16 := .replicate 16 false
  chClamped : Vector Bool 60 := .replicate 60 false
  /-- R116: IC0–17, SC0–15, GC0–3 without calibration factors -/
  uncal : Vector Bool 38 := .replicate 38 true
  /-- R162: consecutive ticks with two or three short legs, per axis -/
  shortTicks : Vector Nat 6 := .replicate 6 0
  /-- R163: the axis disarmed within the present tick -/
  disarmedNow : Vector Bool 6 := .replicate 6 false
  /-- R164: sum and number of the results averaged, and whether the last average lay beyond the limit -/
  offSum : Vector Int 18 := .replicate 18 0
  offCount : Vector Nat 18 := .replicate 18 0
  offBeyond : Vector Bool 18 := .replicate 18 false
  gc : Vector Gc 4 := .replicate 4 {}
  /-- R169: GC results waiting for the next tick edge: channel, result, flags -/
  gcReady : List (Nat × Int × Nat) := []
  /-- R171: ADC_REF_UNSETTLED raised and the flag not set since, by reference code -/
  refRaised : Vector Bool 8 := .replicate 8 false
  /-- R173: 0 no calibration runs, 1 the first run, 2 the second run of R174 -/
  calRun : Nat := 0
  /-- converters in the present run, by their number of R182 (IC, SC, GC) -/
  calSet : List Nat := []
  /-- converters that a calibration has had off their pins during the present window (R173) -/
  spoiled : Vector Bool 38 := .replicate 38 false
  sup : Vector Sup 4 := .replicate 4 {}
  deriving DecidableEq, Repr

/-- R184–R199: one incremental channel beside its entries. -/
structure Fb where
  /-- filtered levels of the A and B balls -/
  a : Bool := false
  b : Bool := false
  /-- the filter clocks of the last edges on A and on B (R187) -/
  lastA : Option Nat := none
  lastB : Option Nat := none
  /-- an index event has been recognised since the (B, A) state was entered (R191) -/
  indexed : Bool := false
  /-- rejected pulses and illegal transitions since the beat opened (R186) -/
  rejects : Nat := 0
  illegal : Nat := 0
  /-- the count clock of the last capture (R198) -/
  latchAt : Option Nat := none
  /-- compare units that fired within the present tick, one bit each (R292) -/
  fired : Nat := 0
  deriving DecidableEq, Repr, Inhabited

/-- R203–R205: an accepted SENT frame waiting for the tick edge. -/
structure SentValue where
  v1 : Nat
  v2 : Option Nat
  nibble : Nat
  stamp : Nat
  deriving DecidableEq, Repr

/-- R201–R205: one SENT channel beside its entries. -/
structure Sent where
  /-- length of the previous calibration pulse, 10 ns counts -/
  lastCal : Option Nat := none
  accepted : Nat := 0
  /-- rejected frames since the beat opened -/
  rejected : Nat := 0
  /-- the qualifier of the first of them (R202) -/
  why : Nat := 0
  /-- bits 3 and 2 of the last status nibbles, at most 18, oldest first (R201) -/
  slow : List (Bool × Bool) := []
  timeout : Bool := false
  nibble : Nat := 0
  ready : Option SentValue := none
  deriving DecidableEq, Repr, Inhabited

/-- R206, R207: one hall set beside its entries. -/
structure Hall where
  /-- the last filtered code (HC, HB, HA) -/
  code : Nat := 0
  /-- tick edges in a row with an invalid code, and whether it has been raised -/
  badTicks : Nat := 0
  badRaised : Bool := false
  /-- a valid edge since the last tick edge: angle and time -/
  edge : Option (Nat × Nat) := none
  /-- R265, R382: time between the last two valid edges, 10 ns counts, and the direction, true backward -/
  interval : Option Nat := none
  back : Bool := false
  /-- ANGLE_DISAGREE with qualifier 0x3 or 0x4 raised in the present tick (R273) -/
  disagreed : Bool := false
  deriving DecidableEq, Repr, Inhabited

/-- R208–R212: one tracking observer. -/
structure Obs where
  /-- position with 32 fractional bits -/
  pos : Int := 0
  /-- speed and acceleration with 16 fractional bits -/
  spd : Int := 0
  acc : Int := 0
  /-- the first sample has been taken -/
  started : Bool := false
  valid : Bool := false
  lost : Bool := false
  coast : Bool := false
  disagree : Bool := false
  /-- samples since INIT, and all samples, wrapping -/
  settle : Nat := 0
  samples : Nat := 0
  /-- consecutive samples beyond and within the bound -/
  beyond : Nat := 0
  within : Nat := 0
  /-- tick edges without a sample since COAST set -/
  coastTicks : Nat := 0
  /-- they have reached OB_LOST_M (R211) -/
  coastLost : Bool := false
  /-- e of the last sample -/
  lastE : Int := 0
  /-- ticks in a row beyond OB_CHECK_BOUND -/
  checkTicks : Nat := 0
  deriving DecidableEq, Repr, Inhabited

/-- R234, R248: one row of the cell table as it runs. -/
structure CellRow where
  law : Nat := 0
  group : Nat := 0
  phase : Nat := 0
  inA : Nat := 0xFFFF
  inB : Nat := 0xFFFF
  inC : Nat := 0xFFFF
  inD : Nat := 0xFFFF
  out : Nat := 0xFFFF
  k0 : Int × Nat := (0, 0)
  k1 : Int × Nat := (0, 0)
  k2 : Int × Nat := (0, 0)
  k3 : Int × Nat := (0, 0)
  p0 : Int := 0
  p1 : Int := 0
  p2 : Int := 0
  deriving DecidableEq, Repr, Inhabited

/-- R234–R238, R249: one cell: its row, its state words and its status. -/
structure Cell where
  row : CellRow := {}
  s0 : Int := 0
  s1 : Int := 0
  /-- state writes to be applied at the next execution (R237) -/
  pre0 : Option Int := none
  pre1 : Option Int := none
  /-- executions, wrapping -/
  runs : Nat := 0
  override : Bool := false
  held : Bool := false
  limited : Bool := false
  bounds : Bool := false
  overrun : Bool := false
  ovf : Bool := false
  wrap : Bool := false
  /-- LOOP_WRAP raised in this beat (R233) -/
  wrapRaised : Bool := false
  /-- the outputs the cell feeds (R238), one bit each in the layout of the arm signals -/
  feeds : Nat := 0
  /-- what the last execution read and gave (R368) -/
  last : ShadowCell := {}
  deriving DecidableEq, Repr, Inhabited

/-- R243: one sample in the stream FIFO and the destinations that have yet to take it. -/
structure TraceSample where
  ch : Nat
  value : Word
  time : Nat
  /-- the tick it was taken in: beat number, low 32 bits, and tick index -/
  beat : Nat
  tick : Nat
  gap : Bool
  recorder : Bool
  live : Bool
  deriving DecidableEq, Repr

/-- R242–R245: one trace channel: the settings in force and its capture ring. -/
structure TraceCh where
  node : Nat := 0
  group : Nat := 0
  phase : Nat := 0
  decim : Nat := 1
  dest : Nat := 0
  /-- due ticks since the last sample -/
  ticks : Nat := 0
  /-- the capture ring, oldest first -/
  ring : List Word := []
  /-- samples taken since the trigger -/
  post : Nat := 0
  stopped : Bool := false
  /-- the next sample that enters the FIFO carries a gap mark -/
  gap : Bool := false
  deriving DecidableEq, Repr, Inhabited

/-- R221–R251: the loop engine. -/
structure Loop where
  cells : Vector Cell 256 := .replicate 256 {}
  /-- cells execute (from step 5 of a start, R227) -/
  running : Bool := false
  /-- due cells of the present tick that the window will not hold (R231) -/
  skipped : List Nat := []
  /-- R489: cells whose loop RAM words read uncorrectable: the coming window skips them -/
  bad : List Nat := []
  /-- R241: the arm signals that stood at the edge that opened the present tick -/
  armed : Nat := 0
  /-- R236: the band written to each solenoid's comparators -/
  bands : Vector Int 16 := .replicate 16 0
  trace : Vector TraceCh 32 := .replicate 32 {}
  fifo : List TraceSample := []
  /-- samples dropped in this beat (R243); one with the recorder as destination dropped in this tick (R498) -/
  dropped : Nat := 0
  dropRow : Bool := false
  /-- samples have been dropped since the last one that entered the FIFO (R243) -/
  fifoGap : Bool := false
  /-- the nodes at step 5 of the last tick (R244) -/
  before : List (Nat × Word) := []
  /-- R245: the conditions first met in the present tick, and their trigger time -/
  met : Option (Nat × Nat) := none
  deriving DecidableEq, Repr

/-- R252–R279: one axis beside its entries. Voltages, currents and speeds carry shift 16. -/
structure Axis where
  /-- the second source is in use (R273) -/
  second : Bool := false
  /-- a source was lost to the other since the last arming (R273, R392) -/
  lostSource : Bool := false
  /-- the arm signal has been granted and the flying start's E0 is awaited (R267) -/
  granted : Bool := false
  /-- R267: 0 no flying start, 1 from E0 to E1, 2 from E1 to E2 -/
  flying : Nat := 0
  /-- sides that have faulted since the last arming: low, high (R260) -/
  lowFault : Bool := false
  highFault : Bool := false
  /-- the last flying start found no valid source (R267, R373) -/
  failed : Bool := false
  /-- a gate is sensed on although it is commanded off (R257, R357) -/
  stuck : Bool := false
  /-- high-side gates held off by their bootstrap, one bit per leg (R254) -/
  heldOff : Nat := 0
  /-- R255: the peak gate current of the last turn-off of all its gates, in 0.01 A -/
  sunk : Nat := 0
  /-- vd and vq applied in the tick in progress and computed for the next one -/
  applied : Int × Int := (0, 0)
  coming : Int × Int := (0, 0)
  /-- clocks for which each leg's high side conducts at either end of the next tick (R264) -/
  duty : List Nat := []
  vlimited : Bool := false
  /-- the electrical power over the last tick was negative (R274) -/
  braking : Bool := false
  /-- ωemf of the last armed tick (R266) -/
  emf : Int := 0
  /-- the current vector at the last edge, and its speed (R265) -/
  vector : Int × Int := (0, 0)
  turning : Rat := 0
  /-- clocks for which that speed has stayed below 0.9 × AX_ASC_SPEED -/
  slow : Nat := 0
  /-- the last edge was one of them -/
  wasSlow : Bool := false
  /-- R268: offsets set by hall alignment, and alignment disagreements raised in the present tick -/
  offsets : Vector (Option Nat) 2 := .replicate 2 none
  misaligned : Vector Bool 2 := .replicate 2 false
  /-- R371: a source has been flagged since it was last valid -/
  flagged : Vector Bool 2 := .replicate 2 false
  /-- R278: levels of the motor's and the bridge's model, in (0.1 A × 2^-16)² × actuator clocks, and whether each limits -/
  heat : Vector Nat 2 := .replicate 2 0
  limiting : Vector Bool 2 := .replicate 2 false
  /-- the ramp of Ilim: its start in A and the clocks since -/
  ramp : Option (Rat × Nat) := none
  /-- R276: filtered ψ in Wb, clocks of continuous estimation, clocks since the last estimate -/
  psi : Rat := 0
  keRun : Nat := 0
  keGap : Nat := 0
  /-- R276: an estimate has been made since the start; it has settled -/
  keSome : Bool := false
  keSettled : Bool := false
  /-- θe at the last rising crossing of the zero comparator -/
  zeroAt : Option Nat := none
  /-- R277: the first settled value has been checked; KE_LOW raised since the start -/
  keChecked : Bool := false
  keLow : Bool := false
  /-- R277: clocks of the running identification, sum of vd ÷ id, and ticks summed -/
  ident : Option Nat := none
  identSum : Rat := 0
  identTicks : Nat := 0
  deriving DecidableEq, Repr, Inhabited

/-- R274, R275: the link guard. -/
structure Link where
  /-- VACT in mV as its comparators last placed it -/
  vact : Nat := 0
  /-- DUMP is forced off -/
  forced : Bool := false
  deriving DecidableEq, Repr

/-- R288: what the plan of a move is made from at its start edge: position mode (else speed mode), the distance in steps or the
speed to reach, MX_PROFILE and the limits. -/
structure Plan where
  position : Bool := false
  goal : Int := 0
  jerked : Bool := false
  vmax : Nat := 0
  acc : Nat := 0
  dec : Nat := 0
  jerk : Nat := 0
  deriving DecidableEq, Repr, Inhabited

/-- R281–R301: one motion generator and its gearing unit beside their entries. -/
structure Gen where
  /-- the velocity word V, and V at the opening of the tick -/
  v : Int := 0
  vTick : Int := 0
  /-- clocks of the present tick already added to the accumulator -/
  clocks : Nat := 0
  /-- V has been 0 for a whole tick -/
  still : Bool := true
  pending : Bool := false
  moving : Bool := false
  done : Bool := false
  creep : Bool := false
  /-- moves started, wrapping -/
  moves : Nat := 0
  /-- the plan made at the start edge, and the ticks since that edge -/
  plan : Plan := {}
  ticks : Nat := 0
  /-- STOP takes effect at the next tick edge -/
  stopNext : Bool := false
  /-- the stop ramp: its present and its first velocity in steps/s, and the clocks since its start -/
  stop : Option (Rat × Rat × Nat) := none
  /-- position at the last tick edge -/
  last : Int := 0
  /-- R284: a STEPk pulse or its low time runs, and the directions (true forward) of the steps that wait for it -/
  pulse : Bool := false
  waiting : List Bool := []
  /-- R284: the direction of the last step sent, true forward -/
  dir : Bool := true
  /-- R297: gearing engages at the next tick edge; it is engaged -/
  engageNext : Bool := false
  engaged : Bool := false
  /-- R297, R300, R301: the offset and the slave target T, and the master hold -/
  offset : Int := 0
  target : Int := 0
  hold : Bool := false
  /-- the clock of the ended tick at which the last move came to rest (R317) -/
  restAt : Nat := 0
  /-- R300: the last tick ended with |T − P| above 1 -/
  lag : Bool := false
  deriving DecidableEq, Repr, Inhabited

/-- R315: where a coil's chopper stands. -/
inductive Chop where
  /-- all four switches off -/
  | off
  /-- on phase, comparator blanked -/
  | blank
  /-- on phase, comparison enabled -/
  | on
  /-- off-time, fast decay -/
  | fast
  /-- off-time, slow decay -/
  | slow
  /-- R316: the off-time of fast decay alone after a sign change -/
  | flip
  deriving DecidableEq, Repr, Inhabited

/-- R314–R319: one coil of a stepper channel. -/
structure Coil where
  phase : Chop := .off
  /-- the reference in force, mA -/
  ref : Int := 0
  /-- on phases in a row ended by VS_TON_MAX -/
  maxed : Nat := 0
  isOpen : Bool := false
  /-- coil current at the start of the slow decay, mA -/
  first : Int := 0
  deriving DecidableEq, Repr, Inhabited

/-- R311–R319: one stepper channel beside its entries. -/
structure Stepper where
  /-- the arm signal is granted, to take effect at the next tick edge; the channel may conduct -/
  granted : Bool := false
  live : Bool := false
  /-- the amplitude latched at the last tick edge, mA -/
  amp : Nat := 0
  coils : Vector Coil 2 := .replicate 2 {}
  full : Nat := 0
  shorted : Bool := false
  stalled : Bool := false
  /-- consecutive full steps with K below VS_STALL_K -/
  weak : Nat := 0
  /-- sum of |e| in µV and number of intervals of the full step in progress -/
  emfSum : Rat := 0
  emfCount : Nat := 0
  /-- U(2): clocks since the generator came to rest; it moved at the last tick edge -/
  rest : Nat := 0
  active : Bool := false
  everMoved : Bool := false
  deriving DecidableEq, Repr, Inhabited

/-- R322: where a solenoid's switch stands. -/
inductive Switch where
  | off
  /-- on for less than 2 µs -/
  | fresh
  | on
  /-- a 300 ns probe -/
  | probe
  deriving DecidableEq, Repr, Inhabited

/-- R320–R324: one solenoid output beside its entries. -/
structure Solenoid where
  granted : Bool := false
  live : Bool := false
  sw : Switch := .off
  /-- the switch was on at the last tick edge -/
  wasOn : Bool := false
  /-- the demand was at or above SOL_ON_MA at the last tick edge -/
  above : Bool := false
  /-- the effective centre in mA, and the lower threshold at the start of the running probe -/
  centre : Int := 0
  probeAt : Int := 0
  pullin : Bool := false
  /-- clocks the pull-in has run, pull-ins started, and whether the last was cut by the governor -/
  ran : Nat := 0
  pulls : Nat := 0
  cut : Bool := false
  /-- a pull-in ran in the present beat -/
  pulled : Bool := false
  /-- the SC result of the last beat is fresh (R323) -/
  freshResult : Bool := false
  overcurrent : Bool := false
  toSupply : Bool := false
  openOn : Bool := false
  openOff : Bool := false
  deriving DecidableEq, Repr, Inhabited

/-- R60, R18: the supplies below the level of their hardware action, one bit each: VBAT, VKA, VACT, VSM, VCH; bit 5: the
chaperone's clock has failed. -/
structure Supply where
  low : Nat := 0
  deriving DecidableEq, Repr

/-- R332–R352: brake blending. -/
structure Blend where
  /-- the split of the present beat is still to be computed, and the firmware will be late with it -/
  due : Bool := false
  late : Bool := false
  /-- late beats in a row -/
  lateRun : Nat := 0
  /-- outputs computed and not yet written: nodes and entries -/
  nodesOut : List (Nat × Int) := []
  entriesOut : List (Nat × Int) := []
  /-- ea_prev of each axle, N -/
  ePrev : Vector Int 4 := .replicate 4 0
  /-- the pedal sensors: last status sequence, beats since it advanced, validity, travel in 0.01 % -/
  seq : Vector Nat 2 := .replicate 2 0
  age : Vector Nat 2 := .replicate 2 0
  valid : Vector Bool 2 := .replicate 2 false
  travel : Vector Int 2 := .replicate 2 0
  /-- both are valid and differ by more than PEDAL_TOL; they have done so for PEDAL_DIS_TIME -/
  differ : Bool := false
  disagree : Bool := false
  /-- R351: the conditions that held in the last beat: HVLINK 0x1–0x4, then PEDAL_DISAGREE 0x2 and 0x3 -/
  held : Vector Bool 6 := .replicate 6 false
  deriving DecidableEq, Repr

/-- R380: the hall set of one axis as the chaperone decodes it. -/
structure ChapHall where
  /-- valid edges seen since the chaperone's start, at most 2 -/
  edges : Nat := 0
  /-- time between the last two valid edges, and the time of the last, clocks of the chaperone's 16 MHz -/
  interval : Nat := 0
  last : Nat := 0
  deriving DecidableEq, Repr, Inhabited

/-- R354: where the take-lead sequence stands. -/
inductive Take where
  /-- no sequence runs -/
  | idle
  /-- both peer lines must stay deasserted for 8 µs -/
  | quiet
  /-- the rank delay runs -/
  | delay
  /-- LEAD_OUT is asserted and a re-check of 8 µs runs -/
  | check
  deriving DecidableEq, Repr, Inhabited

/-- R395–R400: the last waltz. -/
structure Waltz where
  /-- entry, in the chaperone's global time (R400) -/
  entry : Nat := 0
  /-- R397: the sequence of steps 2 and 3: 0 none, 1 the waltz delay runs, 2 the re-check runs -/
  step : Nat := 0
  holder : Bool := false
  /-- a peer line of a lower lane number was asserted during the re-check -/
  lower : Bool := false
  /-- sectors latched at step 4, 7 for an axis without one -/
  sectors : Vector Nat 6 := .replicate 6 7
  /-- axes driven; axes whose high side is off after a shunt trip; axes disarmed by desaturation -/
  driven : Nat := 0
  toff : Nat := 0
  disarmed : Nat := 0
  holdDone : Bool := false
  rampDone : Bool := false
  deriving DecidableEq, Repr

/-- R16–R18, R376–R401: the chaperone die. [log 1 DESIGN CHOICE] -/
structure Chaperone where
  /-- LEAD_OUT is asserted (R353) -/
  leadOut : Bool := false
  /-- arm signals asserted, one bit per output: AX0–5 in [5:0], VS0–3 in [9:6], SOL0–15 in [25:10] -/
  armed : Nat := 0
  /-- the keeper's power-arm request, in the same layout (R17, R379) -/
  request : Nat := 0
  /-- the lease expiry carried by the request (R361); none: no lease -/
  lease : Option Nat := none
  /-- the keeper's EB_OUT release request (R391) -/
  ebRequest : Bool := false
  /-- R354: cut-in permission, with its rank -/
  permission : Option Nat := none
  /-- R361: a lane that has taken a card takes LEAD_OUT with rank delay 0 -/
  cardTake : Bool := false
  take : Take := .idle
  /-- re-checks failed, and the peer lines asserted during the running one -/
  rechecks : Nat := 0
  seen : Vector Bool 2 := .replicate 2 false
  /-- filtered levels of PEER1_LEAD_IN and PEER2_LEAD_IN (R53) -/
  peers : Vector Bool 2 := .replicate 2 false
  /-- R353: a peer line was asserted while the lane was armed; arm waits for 8 µs of quiet -/
  peerHold : Bool := false
  /-- sequence byte of the last message of the request interface (R377) -/
  seq : Option Nat := none
  /-- bad or missing side-path messages in a row (R377) -/
  sideBad : Nat := 0
  /-- R382: tick edges in a row with the leg above CH_I_BOUND, per leg -/
  legOver : Vector Nat 18 := .replicate 18 0
  /-- R17: the chaperone's own 16 MHz clock count, as of the last command that carries it -/
  clock : Nat := 0
  /-- R378: the chaperone's own global time at that clock, in 62.5 ns -/
  time : Nat := 0
  /-- R385: the spares, one bit each, that an observed reference frame has confirmed for this node, per port -/
  spares : Vector Nat 4 := .replicate 4 0
  /-- R385, R429: ports on which the chaperone itself has measured 2 reels of silence, one bit each -/
  silent : Nat := 0
  /-- R387: the active and the staged bank -/
  bank : Sparse Val := []
  staged : Sparse Val := []
  /-- set-point mirrors (R17): VEH_SPEED and the chaperone's clock when it was updated; d and autonomy; travels, none where the
  mirror shows an invalid sensor -/
  speed : Nat := 0xFFFF
  speedAt : Nat := 0
  demand : Int := 0
  autonomy : Int := 0
  travel : Vector (Option Int) 2 := .replicate 2 none
  /-- R335, R384: status sequence of each AIN pedal on the side path, and the chaperone's clock when it last advanced -/
  pedalSeq : Vector Nat 2 := .replicate 2 0
  pedalAt : Vector Nat 2 := .replicate 2 0
  hall : Vector ChapHall 6 := .replicate 6 {}
  /-- R381: the watchdog runs; the answer of the present period has been judged; the register and the period count -/
  wdg : Bool := false
  judged : Bool := true
  lfsr : Nat := 1
  period : Nat := 0
  /-- R391: the EB node reads released -/
  ebReleased : Bool := false
  /-- R56: EXTEST or INTEST is selected with TRST_N high -/
  scan : Bool := false
  /-- R120: the chaperone scan test of phase 6 runs -/
  scanTest : Bool := false
  waltz : Waltz := {}
  /-- R60: the chaperone is in its own reset -/
  inReset : Bool := true
  /-- R99: the main die is held in reset -/
  mainReset : Bool := true
  /-- R386: ports that have raised CHAP_GUARDIAN in the present reel -/
  guardRaised : Nat := 0
  /-- R67: the strap word differed at the last service read, or already stands as a fault -/
  strapOff : Bool := false
  strapBad : Bool := false
  deriving DecidableEq, Repr

/-- R360–R362: the card beside its entries. -/
structure CardState where
  /-- a card message has been seen or sent since the start -/
  any : Bool := false
  issuer : Nat := 0
  reason : Nat := 0
  /-- R362: this lane awaits the end of the lease to issue the next card; it has been named by a pass -/
  named : Bool := false
  /-- R361: a release has been sent or accepted; the hand-over edge is awaited -/
  released : Bool := false
  /-- R362: the holder has given up lead and passed the card to nobody: its lease runs out -/
  resigned : Bool := false
  deriving DecidableEq, Repr

/-- R353–R375: leadership, health and partners, beside their entries. -/
structure Lead where
  /-- the lane is lead (role 2) -/
  leading : Bool := false
  /-- R355: it has given up lead and not yet rejoined -/
  gaveUp : Bool := false
  /-- R80: it stands down -/
  standing : Bool := false
  /-- R22: an application restart runs (role 3) -/
  restarting : Bool := false
  /-- R41: excluded (role 5) -/
  excluded : Bool := false
  /-- R103: leadership is settled at step 10, and this lane has entered its role -/
  settled : Bool := false
  /-- R363: the lane looks for a card; lanes of a lower number that issue first, 10 ms each -/
  electing : Bool := false
  wait : Nat := 0
  card : CardState := {}
  /-- card messages waiting for the lane's port C window, oldest first -/
  outCards : List Card := []
  /-- R364: the running test's observations of the partners' pulses at this lane, and their reports of it -/
  testing : Bool := false
  pulseSeen : Vector Bool 2 := .replicate 2 false
  reports : Vector (Option Nat) 2 := .replicate 2 none
  /-- R365: a peer line was asserted outside every test window since the last test -/
  stray : Vector Bool 2 := .replicate 2 false
  /-- R365: the last line test failed -/
  lineFailed : Bool := false
  /-- R41: the last announcement heard from each partner -/
  announced : Vector (Option Announcement) 2 := .replicate 2 none
  /-- R363, R392: START_PARTNER_WAIT has run out since the start -/
  waited : Bool := false
  /-- R366: announcements that await a recovery; R373: one of them came during a cut-in gap -/
  recover : Bool := false
  inGap : Bool := false
  /-- R366: this lane's own announcement went out before T, so the running card includes it -/
  included : Bool := false
  /-- beats of leadership, for R373 -/
  beatsLed : Nat := 0
  /-- R372: comparisons passed since the last failure or the start -/
  passes : Nat := 0
  /-- health words of the partners received in the present beat and in the beat before, and beats since the last -/
  words : Vector (Option Nat) 2 := .replicate 2 none
  before : Vector (Option Nat) 2 := .replicate 2 none
  missing : Vector Nat 2 := .replicate 2 0
  lost : Vector Bool 2 := .replicate 2 false
  /-- R356: beats in a row with the score below HEALTH_FLOOR and a better follow of rank 1 -/
  low : Nat := 0
  belowFloor : Bool := true
  /-- the lane's rank when ranks were last formed, 0 for none -/
  rank : Nat := 0
  /-- R357: the running cut-in: time of the filtered fall, qualifier, and edges seen since the grant -/
  cutIn : Option (Nat × Nat × Nat) := none
  /-- the last fall of a peer line that left both deasserted -/
  fall : Nat := 0
  /-- R368: the capture rotation, and the record captured: opening time, beat, cells and axis pairs -/
  rotation : Nat := 0
  capture : Option ShadowRecord := none
  /-- R368, R370: a comparison has passed in this beat, and in the beat before -/
  passed : Bool := false
  passedLast : Bool := false
  /-- R371: beats since the last shadow or cross-check failure -/
  failAge : Nat := 64
  /-- R291: the generator nodes at the capture tick of the last beats, newest first -/
  genShots : List (Nat × List Int) := []
  /-- R369: the learnt offset between the zeros, and failing beats in a row, per axis -/
  offset : Vector (Option Int) 6 := .replicate 6 none
  crossBad : Vector Nat 6 := .replicate 6 0
  /-- R393, R394: LADDER_WALTZ_DELAY runs; LAST_WALTZ 0x2 raised -/
  ladderRun : Bool := false
  ladderRaised : Bool := false
  /-- R367: the gate tested next -/
  gateTest : Nat := 0
  deriving DecidableEq, Repr

/-- R499–R505: a recorder event as it is committed. -/
structure Event where
  slot : Nat := 0
  number : Nat := 0
  /-- first trigger source and word, trigger count and time -/
  source : Nat := 0
  word : Nat := 0
  trigs : Nat := 1
  trigTime : Nat := 0
  /-- first row and trigger row, counted since the ring started, and rows in all -/
  first : Nat := 0
  trigRow : Nat := 0
  total : Nat := 0
  firstTime : Nat := 0
  /-- the gap rows among those stored -/
  gaps : Nat := 0
  /-- bytes [127:64] and [51:32] of the header, taken when the event was opened -/
  nodes : List Byte := []
  setting : List Byte := []
  deriving DecidableEq, Repr, Inhabited

/-- R498–R505: the event recorder. -/
structure Recorder where
  /-- the ring, oldest row first: opening time of its tick, whether it is a gap row, and its 32 words -/
  ring : List (Nat × Bool × List Word) := []
  /-- rows recorded since the ring started -/
  total : Nat := 0
  last : Vector Word 32 := .replicate 32 0
  event : Option Event := none
  waiting : Option Event := none
  /-- R503: a trigger accepted during an application restart -/
  latched : Option Event := none
  /-- the next event number -/
  next : Nat := 0
  /-- the rows in each slot of the event store -/
  slots : Vector (List (List Word)) 8 := .replicate 8 []
  /-- the last page is written and the trailer is not; the next slot is being erased -/
  trailer : Bool := false
  erasing : Bool := false
  /-- R505: the running download: slot and rows sent -/
  download : Option (Nat × Nat) := none
  /-- an uncorrectable read has ended the download -/
  cut : Bool := false
  /-- R503: the first page of rows of each slot that failed to read -/
  badPage : Vector (Option Nat) 8 := .replicate 8 none
  deriving DecidableEq, Repr

/-- R495: a remap on its way: memory, unit base, cause, spare (0xFF unspared), and whether the copy is done. -/
structure Remap where
  m : Nat
  base : Nat
  cause : Nat
  spare : Nat
  copied : Bool
  /-- word addresses that read uncorrectable before the copy was done: their copies carry poisoned check bits (R495) -/
  poisoned : List Nat := []
  deriving DecidableEq, Repr, Inhabited

/-- R494: one entry of the watch list. -/
structure Watch where
  m : Nat
  word : Nat
  count : Nat
  since : Nat
  deriving DecidableEq, Repr, Inhabited

/-- R484–R497: the memories' integrity. -/
structure Memory where
  /-- errors corrected in this beat, by memory -/
  corrected : Vector Nat 11 := .replicate 11 0
  watch : List Watch := []
  remaps : List Remap := []
  /-- R495: words of switched units whose copies carry poisoned check bits: memory and word address -/
  poisoned : List (Nat × Nat) := []
  /-- R496: the two copies of the retirement list, each its rows with their CRC-32C -/
  lists : Vector (List Byte) 2 := .replicate 2 (zeros 4)
  /-- R491: stored and sealed entries one of whose two flash copies has failed and is not yet rewritten -/
  oneCopy : List Nat := []
  /-- R491: the last descriptor of each DMA channel -/
  desc : Vector (Option Descriptor) 16 := .replicate 16 none
  /-- SCRUB_SLOW raised in the present lap, by memory -/
  slow : Vector Bool 11 := .replicate 11 false
  /-- R487: keep RAM was rewritten whole since the start -/
  keepLost : Bool := false
  deriving DecidableEq, Repr

/-- R405–R441: one port beside its entries. -/
structure RaPort where
  /-- content latched for the scheduled windows, by window number -/
  latched : Sparse (List Byte) := []
  /-- frames waiting for arbitrating windows: class and payload; those latched for the next or present window (R420); the one
  put on the bus -/
  queue : List (Nat × List Byte) := []
  ready : List (Nat × List Byte) := []
  onBus : Option (Nat × List Byte) := none
  /-- start of the arbitrating window in which the lane was let send last (R86) -/
  openAt : Option Nat := none
  /-- null frames sent in this reel because nothing was latched -/
  nulls : Nat := 0
  /-- the confirmations, as sent or as last received, by spare index (R422) -/
  confirms : List Nat := []
  /-- claims accepted in this beat: spare index, claimant, signature (R434) -/
  claims : List (Nat × Nat × Nat) := []
  /-- the reference frame accepted in this beat and in the beat before: its master priority, and whether it was this lane's -/
  ref : Option (Nat × Bool) := none
  before : Option (Nat × Bool) := none
  /-- beats since a reference frame, and since any frame, was accepted -/
  sinceRef : Nat := 255
  sinceRx : Nat := 2047
  /-- R426: the signature of the last reference frame differed -/
  sigBad : Bool := false
  /-- R458: the network announcement is due -/
  announce : Bool := false
  /-- R429: 0 no cold start, 1 its delay runs, 2 the first reference frame goes at the next beat boundary -/
  cold : Nat := 0
  /-- R430: collisions in a row, and the time before which no reference is sent -/
  collisions : Nat := 0
  backoff : Nat := 0
  deriving DecidableEq, Repr, Inhabited

/-- R432–R435: one claim request. -/
structure RaClaim where
  /-- the spare chosen, and whether its claim has been sent and awaits the next reference frame -/
  idx : Option Nat := none
  sent : Bool := false
  /-- the ports on which it has been sent, one bit each; a beat has opened since, whose reference frame judges it (R434, R436)
  -/
  ports : Nat := 0
  waits : Bool := false
  /-- claims without confirmation, and whether they have reached CLAIM_TRIES; a failed request has claimed again in this reel -/
  tries : Nat := 0
  failed : Bool := false
  tried : Bool := false
  deriving DecidableEq, Repr, Inhabited

/-- R423–R435: the lane's Ralune time and claims. -/
structure Ralune where
  ports : Vector RaPort 4 := .replicate 4 {}
  claims : Vector RaClaim 4 := .replicate 4 {}
  /-- global time has been set from a reference frame -/
  timed : Bool := false
  /-- ri, and its value and `within` before the present beat's correction -/
  ri : Rat := 0
  riBefore : Rat := 0
  /-- beats in a row with |o| below 1 µs -/
  within : Nat := 0
  withinBefore : Nat := 0
  /-- the reference frame used in this beat: port and priority -/
  used : Option (Nat × Nat) := none
  /-- R426: inhibited by offset or rate -/
  inhibit : Bool := false
  /-- R431: the pending step: reel (low 32 bits) and d; the reel in which a step was last deferred -/
  step : Option (Nat × Int) := none
  deferred : Option Nat := none
  deriving DecidableEq, Repr

/-- R446–R454: one Azsin connection beside its entries. -/
structure AzConn where
  /-- consumer: consecutive valid messages, and a baseline set since entry to WAIT or SAFE -/
  good : Nat := 0
  baseline : Bool := false
  /-- kinds raised in this beat: AZSIN_SEQ, AGE, ID, CODE, TIMEOUT, one bit each -/
  raised : Nat := 0
  /-- producer: the sequence counter; the egresses on which the due message has still to be latched (A, B, D, stream in
  bits 0, 1, 3 and 4); the message as first latched; the node values of the last message -/
  count : Nat := 0
  due : Nat := 0
  msg : Option (List Byte) := none
  values : Option (List Word) := none
  deriving DecidableEq, Repr

/-- R444, R460: where a message goes and whence it comes: destination network, hop count, origin network and node. -/
structure AzHead where
  dest : Nat
  hop : Nat
  net : Nat
  node : Nat
  deriving DecidableEq, Repr, Inhabited

/-- R460: a message waiting to be forwarded: the egresses left, as in AzConn.due, its container header, and the beats it
has waited. -/
structure AzForward where
  egress : Nat
  head : AzHead
  bytes : List Byte
  age : Nat
  deriving DecidableEq, Repr, Inhabited

/-- R461: one forwarding record. -/
structure AzRecord where
  net : Nat
  node : Nat
  id : Nat
  seq : Nat
  deriving DecidableEq, Repr, Inhabited

/-- R442–R461: the safety layer and the fabric. -/
structure Azsin where
  conns : Sparse AzConn := []
  /-- forwarding records, oldest first, at most 256 -/
  records : List AzRecord := []
  queue : List AzForward := []
  /-- R462: the last time step: its time after the step, and d in µs -/
  step : Option (Nat × Int) := none
  deriving DecidableEq, Repr

end Sys2Proof.Machine
end

