-- ==== Sys2Proof/Machine/State.lean ====
section
/-!
DEFINITION. Machine/State.lean: the whole state of a lane as plain data, the reasons a step can stop, and the state right
after reset.
-/
namespace Sys2Proof.Machine

/-- Why a step stops with a fault. -/
inductive Fault where
  /-- Raised by no meaning: the name for a command outside WellFormed. Safe: nothing is claimed of such a command. -/
  | illFormed
  deriving DecidableEq, Repr

/-- Why a step has no meaning. -/
inductive Refusal where
  /-- Raised by no arm: the name for a command without a meaning, of which there is none. Safe. -/
  | notModelled (mnemonic : String)
  deriving DecidableEq, Repr

/-- One lane (R16, R71, R114). -/
structure State where
  /-- the commands waiting, first in first out (the model's own) -/
  pending : List Instr := []
  /-- what the lane sent or pulsed during the last command (the model's own record of its outputs) -/
  out : List Emission := []
  /-- how many unstated values the run has drawn (the model's own) -/
  free : Nat := 0
  /-- the object dictionary's entries as the running lane sees them (R126) -/
  dict : Sparse Val := []
  /-- the sealed set in flash, active copy (R129, R149) -/
  sealedSet : Sparse Val := []
  /-- sealed edits of the open COMMISSION session (R148) -/
  staged : Sparse Val := []
  /-- the confirmed set waiting for the next start (R149) -/
  confirmed : Sparse Val := []
  /-- stored entries written and not yet committed, with the value a lost commit returns (R115) -/
  uncommitted : Sparse Val := []
  /-- the 4,096 nodes (R26, R250) -/
  nodes : Sparse Word := []
  /-- node writes of firmware and dictionary taken at the next tick edge (R26) -/
  nodeWrites : List (Nat × Word) := []
  clk : Clock := {}
  col : Collector := {}
  ms : Measure := {}
  fb : Vector Fb 12 := .replicate 12 {}
  sn : Vector Sent 8 := .replicate 8 {}
  hall : Vector Hall 6 := .replicate 6 {}
  ob : Vector Obs 12 := .replicate 12 {}
  lp : Loop := {}
  ax : Vector Axis 6 := .replicate 6 {}
  link : Link := {}
  mx : Vector Gen 12 := .replicate 12 {}
  vs : Vector Stepper 4 := .replicate 4 {}
  sol : Vector Solenoid 16 := .replicate 16 {}
  su : Supply := {}
  bl : Blend := {}
  st : Start := {}
  ch : Chaperone := {}
  ld : Lead := {}
  az : Azsin := {}
  ra : Ralune := {}
  rc : Recorder := {}
  me : Memory := {}
  pw : Power := {}
  th : Thermal := {}
  sp : Stream := {}
  se : Session := {}
  deriving DecidableEq, Repr

/-- The lane at the instant keep RAM and the dies come up from nothing (reset kind 0x0): every entry at its default. [log 1
DESIGN CHOICE] -/
def State.reset : State := {}

end Sys2Proof.Machine
end

