-- ==== Sys2Proof/Machine/Ops.lean ====
section
/-!
DEFINITION. Machine/Ops.lean: the named operations over the dictionary, the nodes, the fault collector's inputs and the
lane's outputs that every meaning is written with.
-/
namespace Sys2Proof.Machine

/-! ### Dictionary entries. -/

/-- The value of an entry as the running lane sees it. [log 15 DEDUCED] -/
def State.get (s : State) (key : Nat) : Val := Sparse.get defaultOf s.dict key
/-- The integer an entry holds. -/
def State.n (s : State) (key : Nat) : Int :=
  match s.get key with
  | .num n => n
  | .fx k _ => k
  | .oct _ => 0
/-- The natural number an entry holds. -/
def State.nat (s : State) (key : Nat) : Nat := (s.n key).toNat
/-- Is an entry non-zero? -/
def State.on (s : State) (key : Nat) : Bool := s.n key != 0
/-- The integer and shift of an FX32 entry (R12). -/
def State.fx (s : State) (key : Nat) : Int × Nat :=
  match s.get key with
  | .fx k sh => (k, sh)
  | .num n => (n, 0)
  | .oct _ => (0, 0)
/-- The bytes an entry holds. -/
def State.oct (s : State) (key : Nat) : List Byte :=
  match s.get key with
  | .oct b => b
  | _ => []
/-- Give an entry a value. [log 15 DEDUCED] -/
def State.put (s : State) (key : Nat) (v : Val) : State := { s with dict := Sparse.set defaultOf s.dict key v }
/-- Give an integer entry a value. -/
def State.putN (s : State) (key : Nat) (v : Int) : State := s.put key (.num v)
/-- Give a BOOL entry a value. -/
def State.putB (s : State) (key : Nat) (b : Bool) : State := s.putN key (if b then 1 else 0)
/-- Add 1 to a counter of the given width, wrapping. -/
def State.count (s : State) (key bits : Nat) : State := s.putN key ((s.n key + 1) % (2 ^ bits : Int))
/-- Add 1 to a counter that holds at its highest value. -/
def State.countHold (s : State) (key : Nat) (top : Int) : State := s.putN key (min (s.n key + 1) top)
/-- Bit `i` of an entry. -/
def State.bit (s : State) (key i : Nat) : Bool := (s.nat key).testBit i
/-- Set or clear bit `i` of an entry. -/
def State.putBit (s : State) (key i : Nat) (b : Bool) : State :=
  let v := s.nat key
  s.putN key (if v.testBit i = b then v else if b then v + 2 ^ i else v - 2 ^ i : Nat)
/-- Return an entry to its default. -/
def State.clear (s : State) (key : Nat) : State := s.put key (defaultOf key)

/-! ### Nodes. -/

/-- R179, R222: what a node reads as until a unit or cell writes it: 0, and HELD with UNCAL in the status word of a converter or
channel. [log 233 DEDUCED] -/
def nodeReset (n : Nat) : Word :=
  if (192 ≤ n ∧ n ≤ 209) ∨ (224 ≤ n ∧ n ≤ 239) ∨ (384 ≤ n ∧ n ≤ 443) then 0x50#32 else 0#32
/-- The 32 bits a node holds. -/
def State.nodeW (s : State) (n : Nat) : Word := Sparse.get nodeReset s.nodes n
/-- A node as a signed integer (R221). -/
def State.node (s : State) (n : Nat) : Int := (s.nodeW n).toInt
/-- A node as an unsigned integer. -/
def State.nodeU (s : State) (n : Nat) : Nat := (s.nodeW n).toNat
/-- Write a node at once: by the unit that owns it, or by a cell. -/
def State.setNodeW (s : State) (n : Nat) (v : Word) : State := { s with nodes := Sparse.set nodeReset s.nodes n v }
/-- Write a node with an integer, wrapping to 32 bits. -/
def State.setNode (s : State) (n : Nat) (v : Int) : State := s.setNodeW n (BitVec.ofInt 32 v)
/-- R26: a firmware or dictionary write of a node, read by cells first in the next tick. -/
def State.writeNode (s : State) (n : Nat) (v : Int) : State :=
  { s with nodeWrites := s.nodeWrites ++ [(n, BitVec.ofInt 32 v)] }

/-! ### Outputs, time and unstated values. -/

/-- The lane sends or pulses something. [log 2 DESIGN CHOICE] -/
def State.emit (s : State) (e : Emission) : State := { s with out := s.out ++ [e] }
/-- A value the spec does not state, and the state that has drawn it. [log 2, 5 DESIGN CHOICE] -/
def State.draw (s : State) : BitVec 64 × State := (Config.freeValue s.free, { s with free := s.free + 1 })
/-- Global time as a record carries it: all ones when unknown. [log 262 DESIGN CHOICE] -/
def State.stamp (s : State) : Nat := if s.clk.joined then s.clk.now % 2 ^ 64 else 2 ^ 64 - 1
/-- The low 32 bits of the beat ordinal (R32). -/
def State.beat32 (s : State) : Nat := s.nat Obj.BEAT_NUMBER % 2 ^ 32

/-! ### Fault messages (R510–R517). -/

/-- R510: the 64 bits of a fault message. -/
def FaultMsg.bits (m : FaultMsg) : Quad :=
  BitVec.ofNat 64 ((m.src % 1024) <<< 54 + (m.kind % 256) <<< 46 + (m.cls % 4) <<< 44 + (m.qual % 16) <<< 40 +
    (m.seq % 256) <<< 32 + m.detail.toNat)

/-- R515: a message meets the queue: taken in while there is room; with none, NOTE and MINOR are dropped and counted,
MAJOR and CRITICAL are held by their source. -/
def State.enqueue (s : State) (m : FaultMsg) : State :=
  if s.col.queue.length < 64 then { s with col := { s.col with queue := s.col.queue ++ [m] } }
  else if m.cls ≤ 1 then { s.count Obj.FAULT_DROPS 32 with col := { s.col with gap := true } }
  else { s with col := { s.col with held := s.col.held ++ [m] } }

/-- The next message of a source, its sequence taken (R510). Where a chapter gives no detail, it is an unstated value. [log 5
DESIGN CHOICE] -/
def State.nextMsg (s : State) (cls src kind qual : Nat) (detail : Option Int) : FaultMsg × State :=
  let q := Sparse.get (fun _ => 0) s.col.seqs src
  let s := { s with col := { s.col with seqs := Sparse.set (fun _ => 0) s.col.seqs src ((q + 1) % 256) } }
  match detail with
  | some d => (⟨src, kind, cls, qual, q, BitVec.ofInt 32 d, s.stamp⟩, s)
  | none => (⟨src, kind, cls, qual, q, s.draw.1.setWidth 32, s.stamp⟩, s.draw.2)

/-- A source raises a kind at a given class; CRITICAL also pulls the source's wired line (R516). [log 24 DEDUCED] -/
def State.raiseAs (s : State) (cls src kind qual : Nat) (detail : Option Int := none) : State :=
  let r := s.nextMsg cls src kind qual detail
  let t := r.2.enqueue r.1
  if cls = 3 then { t with col := { t.col with lines := t.col.lines ++ [r.1] } } else t

/-- R511: a source raises a kind at the class configured for it. -/
def State.raise (s : State) (src kind qual : Nat) (detail : Option Int := none) : State :=
  s.raiseAs (s.nat (Obj.FAULT_CLASS kind)) src kind qual detail

/-- R22, R87: the application firmware is stopped: a restart of its partition, or an entry to PARKED. [log 202 DEDUCED] -/
def State.appStopped (s : State) : Bool := s.ld.restarting || s.pw.entry == 2
/-- R22, R103, R110: the application firmware runs: started at step 5, not stopped since, and not replaced by the recovery
loader. -/
def State.appRuns (s : State) : Bool := decide (5 ≤ s.nat Obj.START_STEP) && !s.appStopped && !s.st.loader
/-- Do `f` only if a condition holds. -/
def State.when (s : State) (c : Bool) (f : State → State) : State := if c then f s else s
/-- The element of a fixed row of things, the default beyond its end. -/
def vget {α : Type} [Inhabited α] {n : Nat} (v : Vector α n) (i : Nat) : α := (v[i]?).getD default
/-- Give an element of a fixed row of things a value. -/
def vset {α : Type} {n : Nat} (v : Vector α n) (i : Nat) (x : α) : Vector α n := v.setIfInBounds i x
/-- Change one element of a fixed row of things. -/
def vmod {α : Type} [Inhabited α] {n : Nat} (v : Vector α n) (i : Nat) (f : α → α) : Vector α n := vset v i (f (vget v i))
/-- Fold an operation over the numbers below `n`. -/
def State.each (s : State) (n : Nat) (f : State → Nat → State) : State := (List.range n).foldl f s

end Sys2Proof.Machine
end

