-- ==== Sys2Proof/Machine/Measure.lean ====
section
/-!
DEFINITION. Machine/Measure.lean: integrating measurement (R155–R183): results of the IC, SC and GC converters, the
references, self-calibration and the sensor supplies.
-/
namespace Sys2Proof.Machine

/-- What a meaning answers. -/
abbrev Res := Host.Outcome State Fault Refusal

/-- R171: the code of a reference in a status word and as a qualifier. -/
def refCode : Ref → Nat
  | .internal => 0
  | .refin => 1
  | .sup k => 4 + k.val
/-- R182: the bit of REF_STATUS that a reference code has. -/
def refBit (code : Nat) : Nat := if code < 2 then code else code - 2
/-- R171: is the reference of this code settled? -/
def State.refSettled (s : State) (code : Nat) : Bool := s.bit Obj.REF_STATUS (refBit code)

/-- The highest result, just inside ±2^23 (R156). [log 26 DEDUCED] -/
def fullCount : Int := 8388607

/-- R155, R156: the raw value of an integration, and whether it was clamped. A saturated integrator gives the limit on the side
of its charge, the upper one for a charge of 0. [log 216 DESIGN CHOICE] -/
def rawOf (c : Charge) : Int × Bool :=
  let q : Int := 256 * c.packets + c.residue.toNat
  let raw := (q * 2 ^ 15) / (c.w : Int)
  if c.sat ∨ raw ≤ -8388608 ∨ 8388608 ≤ raw then (if raw < 0 then -fullCount else fullCount, true) else (raw, false)

/-- R175: correction of a raw value. -/
def correct (raw offset gain : Int) : Int := asr ((raw - offset) * gain) 15

/-- R156, R175: a corrected result and the qualifier of its ADC_RANGE, 0 where nothing was clamped; 1 alone where both were.
[log 26 DEDUCED; log 216 DESIGN CHOICE] -/
def resultOf (c : Charge) (offset gain : Int) : Int × Nat :=
  let r := rawOf c
  let v := correct r.1 offset gain
  if r.2 then (clamp (-fullCount) fullCount v, 1)
  else if v < -fullCount ∨ fullCount < v then (clamp (-fullCount) fullCount v, 2)
  else (v, 0)

/-- R179: the flags below the sequence of a status word. -/
def statusFlags (nocond recon held range uncal settled : Bool) (ref gc : Nat) : Nat :=
  gc <<< 9 + b2n nocond <<< 8 + b2n recon <<< 7 + b2n held <<< 6 + b2n range <<< 5 + b2n uncal <<< 4 +
    b2n settled <<< 3 + ref
/-- R179: a status word written once more with new flags: its sequence advances. -/
def State.putStatus (s : State) (node flags : Nat) : State :=
  s.setNodeW node (BitVec.ofNat 32 ((s.nodeU node / 65536 + 1) % 65536 * 65536 + flags))

/-- Is the axis in a state with all its gates off (R259)? -/
def State.axisOff (s : State) (a : Nat) : Bool := s.nat (Obj.AX_STATE a) ≤ 1
/-- Has a calibration this converter (R182 numbering) off its pins, or had it so within the window? Its results then carry
HELD (R173). -/
def State.calibrating (s : State) (conv : Nat) : Bool := (s.ms.calRun != 0 && s.ms.calSet.contains conv) || vget s.ms.spoiled conv

/-! ### IC converters. -/

/-- R156: a result's clamp is reported once until an unclamped result follows. -/
def State.icClamp (s : State) (n qual : Nat) : State :=
  let s := s.when (qual != 0 && !vget s.ms.icClamped n) (·.raise (Src.ic n) Kind.ADC_RANGE qual)
  { s with ms.icClamped := vset s.ms.icClamped n (qual != 0) }

/-- R160, R178, R179: one IC converter's three nodes written. -/
def State.icWrite (s : State) (n : Nat) (v : Int) (recon held range : Bool) (w : Nat) : State :=
  let flags := statusFlags false recon held range (vget s.ms.uncal n) (vget s.ms.icSettled n) (s.nat Obj.IC_REF) 0
  ((s.setNode (64 + n) v).putStatus (192 + n) flags).setNode (256 + n) w

/-- A leg keeps its previous result and carries HELD (R162, R163, R173). -/
def State.icHold (s : State) (n w : Nat) : State := s.icWrite n (s.node (64 + n)) false true false w

/-- R164: the 16 results averaged are those of consecutive ticks: a tick without a fresh one starts the average anew. -/
def State.offsetReset (s : State) (n : Nat) : State :=
  { s with ms.offSum := vset s.ms.offSum n 0, ms.offCount := vset s.ms.offCount n 0 }
/-- R164: a disarmed leg's result enters its 16-tick average. -/
def State.offsetSample (s : State) (n : Nat) (v : Int) : State :=
  if vget s.ms.offCount n < 16 then
    { s with ms.offSum := vmod s.ms.offSum n (· + v), ms.offCount := vmod s.ms.offCount n (· + 1) }
  else s

/-- An IC leg with enough conduction gives a fresh result; the state and the result with its RANGE bit. -/
def State.icFresh (s : State) (n : Nat) (c : Charge) : State × Int × Bool :=
  let r := resultOf c (s.n (Obj.IC_CAL_OFFSET n)) (s.n (Obj.IC_CAL_GAIN n))
  ((s.icClamp n r.2).icWrite n r.1 false false (r.2 != 0) c.w, r.1, r.2 != 0)

/-- A leg's result, held where a calibration has its converter (R173). -/
def State.icLeg (s : State) (n : Nat) (c : Charge) : State × Int × Bool :=
  if s.calibrating n then (s.icHold n c.w, s.node (64 + n), false) else s.icFresh n c
/-- R164, R265: a leg's result over a whole tick, which enters the shunt's average where the axis is disarmed. -/
def State.icWhole (s : State) (n : Nat) (c : Charge) (check : Bool) : State :=
  if s.calibrating n ∨ c.w < 160 then (s.icHold n c.w).offsetReset n
  else
    let r := s.icFresh n c
    r.1.when check (·.offsetSample n r.2.1)
/-- R161: a short leg is reconstructed from the other two; a sum beyond ±8,388,607 stands as it is. It is no clamped result of
its own. [log 216 DESIGN CHOICE] -/
def State.icRecon (s : State) (n : Nat) (v : Int) (range : Bool) (w : Nat) : State :=
  { s.icWrite n v true false range w with ms.icClamped := if range then s.ms.icClamped else vset s.ms.icClamped n false }
/-- R159–R164: the results of one axis' three legs for the tick that closes; a leg that never integrated has W 0. [log 32
DEDUCED; log 238 DESIGN CHOICE] -/
def State.icAxisWrite (s : State) (a : Nat) : State :=
  let leg (i : Nat) : Charge := (vget s.ms.legs (3 * a + i)).getD ⟨0, 0, 0, false⟩
  let wof (i : Nat) : Nat := (leg i).w
  let isShort (i : Nat) : Bool := decide (wof i < 160)
  let shorts := (List.range 3).filter isShort
  let held := vget s.ms.disarmedNow a
  let whole := vget s.ms.whole a
  let check := vget s.ms.offset a
  let s :=
    if held then s.each 3 fun s i => s.icHold (3 * a + i) (wof i)
    else if whole then
      s.each 3 fun s i => match vget s.ms.legs (3 * a + i) with
        | some c => s.icWhole (3 * a + i) c check
        | none => s.offsetReset (3 * a + i)
    else if 2 ≤ shorts.length then s.each 3 fun s i => s.icHold (3 * a + i) (wof i)
    else
      match shorts with
      | [i] =>
        let j := (i + 1) % 3
        let k := (i + 2) % 3
        let rj := s.icLeg (3 * a + j) (leg j)
        let rk := rj.1.icLeg (3 * a + k) (leg k)
        if s.calibrating (3 * a + i) then rk.1.icHold (3 * a + i) (wof i)
        else rk.1.icRecon (3 * a + i) (-(rj.2.1 + rk.2.1)) (rj.2.2 || rk.2.2) (wof i)
      | _ => s.each 3 fun s i => (s.icLeg (3 * a + i) (leg i)).1
  let short := 2 ≤ shorts.length && !whole && !held
  let cnt := if short then vget s.ms.shortTicks a + 1 else 0
  let s := s.when (!check) (·.each 3 fun s i => s.offsetReset (3 * a + i))
  let s := { s with ms.shortTicks := vset s.ms.shortTicks a cnt,
                    ms.legs := (List.range 3).foldl (fun v i => vset v (3 * a + i) none) s.ms.legs }
  s.when (cnt == 4) (·.raise (Src.ic (3 * a)) Kind.ADC_RANGE 3
    (some (a * 256 + (shorts.foldl (fun m i => m + 2 ^ i) 0 : Nat))))

/-- R160, R162: the edge that closes a tick writes the results of every axis. [log 32 DEDUCED] -/
def State.icClose (s : State) : State := if s.ms.opened then s.each 6 fun s a => s.icAxisWrite a else s
/-- R159, R163, R164, R172, R265: a tick opens the IC windows while PD_MEAS is up; the legs of an axis that does not modulate
integrate at once. -/
def State.icOpen (s : State) : State :=
  let up := s.bit Obj.DOMAIN_STATUS 1
  let off (a : Nat) : Bool := up && s.nat (Obj.AX_STATE a) != 2
  { s with ms.opened := up, ms.whole := .ofFn fun a : Fin 6 => off a
           ms.offset := .ofFn fun a : Fin 6 => up && s.axisOff a, ms.disarmedNow := .replicate 6 false
           ms.integrating := .ofFn fun n : Fin 18 => off (n.val / 3), ms.legs := .replicate 18 none
           ms.icSettled := .replicate 18 (s.refSettled (s.nat Obj.IC_REF))
           ms.spoiled := .ofFn fun c : Fin 38 => 18 ≤ c.val && vget s.ms.spoiled c }

/-- IC_INTEGRATION_START (R159): gate sensing has reported the low-side gate on for IC_BLANK and the leg integrates, once in a
tick. -/
def runIcIntegrationStart (n : Fin 18) (s : State) : Res :=
  .next (if s.ms.opened ∧ !vget s.ms.whole (n.val / 3) ∧ (vget s.ms.legs n).isNone then
    { s with ms.integrating := vset s.ms.integrating n true } else s)

/-- IC_INTEGRATION_END (R159, R160, R164): the leg's charge is frozen; the tick edge writes the results. A leg of a disarmed
axis has integrated over the whole tick. [log 22 DEDUCED] -/
def runIcIntegrationEnd (n : Fin 18) (c : Charge) (s : State) : Res :=
  if vget s.ms.integrating n then
    let c := if vget s.ms.whole (n.val / 3) then { c with w := s.clk.tickLen / 2 } else c
    .next { s with ms.legs := vset s.ms.legs n (some c), ms.integrating := vset s.ms.integrating n false }
  else .next s

/-- SHUNT_OFFSET_AVERAGE (R164): 16 results of a disarmed leg are averaged and held against SHUNT_OFFSET_LIMIT. -/
def runShuntOffsetAverage (n : Fin 18) (s : State) : Res :=
  if vget s.ms.offCount n < 16 then .next s
  else
    let sum := vget s.ms.offSum n
    let beyond : Bool := decide (16 * s.n Obj.SHUNT_OFFSET_LIMIT < (sum.natAbs : Int))
    let t := s.when (beyond && !vget s.ms.offBeyond n)
      (·.raise (Src.ic n) Kind.SHUNT_OFFSET 1 (some (Config.roundQuot sum 16)))
    .next { t with ms.offSum := vset t.ms.offSum n 0, ms.offCount := vset t.ms.offCount n 0,
                   ms.offBeyond := vset t.ms.offBeyond n beyond }

/-! ### SC converters. -/

/-- R165: a solenoid converter's result of one beat, written within 250 ns after the boundary. -/
def State.scBeat (s : State) (m : Nat) (c : Charge) : State :=
  let uncal := vget s.ms.uncal (18 + m)
  let ref := s.nat Obj.SC_REF
  let settled := vget s.ms.scSettled m
  let s :=
    if s.calibrating (18 + m) then
      s.putStatus (224 + m) (statusFlags false false true false uncal settled ref 0)
    else if c.w < 160 then
      ({ s with ms.scClamped := vset s.ms.scClamped m false }.setNode (96 + m) 0).putStatus (224 + m) (statusFlags true false false false uncal settled ref 0)
    else
      let r := resultOf c (s.n (Obj.SC_CAL_OFFSET m)) (s.n (Obj.SC_CAL_GAIN m))
      let s := s.when (r.2 != 0 && !vget s.ms.scClamped m) (·.raise (Src.sc m) Kind.ADC_RANGE r.2)
      let s := { s with ms.scClamped := vset s.ms.scClamped m (r.2 != 0) }
      (s.setNode (96 + m) r.1).putStatus (224 + m) (statusFlags false false false (r.2 != 0) uncal settled ref 0)
  { s.setNode (288 + m) c.w with ms.scSettled := vset s.ms.scSettled m (s.refSettled ref), ms.spoiled := vset s.ms.spoiled (18 + m) false }

/-! ### GC converters. -/

/-- R167: the rows of a scan table. -/
def scanRows (b : List Byte) : List Nat := (rowsOf 4 b).map leNat
/-- R167: the channel of a row. -/
def scanCh (row : Nat) : Nat := field row 31 26
/-- R167, R158: the reference of a row; channels 48 to 59 always use the internal one. -/
def scanRef (row : Nat) : Nat := if 48 ≤ scanCh row then 0 else field row 25 23
/-- The row a GC converts now. -/
def Gc.current (g : Gc) : Nat := g.table.getD g.row 0

/-- R168: a GC's table as it runs; before its first list it takes the table that stands in GC_SCAN. -/
def State.gcTable (s : State) (g : Nat) : List Nat :=
  match (vget s.ms.gc g).table with
  | [] => scanRows (s.oct (Obj.GC_SCAN g))
  | t => t

/-- R167, R168: is a row's window one of ticks? -/
def scanTicks (row : Nat) : Bool := row.testBit 22
/-- R168: the window of a row in count clocks, in time mode 250 µs a step. -/
def Gc.length (c : Gc) : Nat := if scanTicks c.current then c.lasted else 25000 * field c.current 21 12
/-- R168, R172: a GC's window opens. -/
def State.gcOpen (s : State) (g : Nat) : State :=
  { s with ms.gc := vmod s.ms.gc g fun c =>
             { c with wait := false, window := true, left := field c.current 21 12, lasted := 0, settled := s.refSettled (scanRef c.current) }
           ms.spoiled := vset s.ms.spoiled (34 + g) false }
/-- GC_SETTLE_END (R168): the row's settle is over: in time mode its window starts, in tick mode it starts with the next tick.
-/
def runGcSettleEnd (g : Fin 4) (s : State) : Res :=
  let c := vget s.ms.gc g
  if c.wait ∨ c.window ∨ !s.bit Obj.DOMAIN_STATUS 1 then .next s
  else
    let t := { s with ms.gc := vset s.ms.gc g { c with table := s.gcTable g } }
    .next (if scanTicks (vget t.ms.gc g).current then { t with ms.gc := vmod t.ms.gc g fun c => { c with wait := true } } else t.gcOpen g)
/-- R168: at a tick edge a waiting window opens, and a window of ticks is one tick of so many count clocks longer. -/
def State.gcEdge (s : State) (counts : Nat) : State :=
  s.each 4 fun s g =>
    let c := vget s.ms.gc g
    if c.wait then s.gcOpen g
    else if c.window ∧ 0 < c.left ∧ scanTicks c.current then
      { s with ms.gc := vset s.ms.gc g { c with left := c.left - 1, lasted := c.lasted + counts } }
    else s
/-- R168: has a GC's window ended, its charge waiting? In time mode it ends as GC_WINDOW_END says. -/
def Gc.ended (c : Gc) : Bool := c.window && !(scanTicks c.current && c.left != 0)

/-- R158: full scale in mV of the channels with an internal divider. -/
def fullScaleMv (ch : Nat) : Int := if ch ≤ 49 then 40000 else if ch ≤ 51 then 80000 else if ch = 59 then 4000 else 8000
/-- R61, R169: a reading in mV of a channel result, truncated. -/
def readingMv (ch : Nat) (v : Int) : Int := (v * fullScaleMv ch).tdiv (2 ^ 23)

/-- R68, R169: a supply channel's reading is mirrored whenever the channel is converted; a negative one shows as 0. [log 216,
237 DESIGN CHOICE] -/
def State.mirrorSupply (s : State) (ch : Nat) (v : Int) : State :=
  s.when (48 ≤ ch && ch ≤ 52) (·.putN (Obj.VBAT_MV + (ch - 48)) ((readingMv ch v).toNat : Nat))

/-- GC_WINDOW_END (R156, R168, R169): the window's charge gives the channel's result, which the next tick edge writes; the GC
goes on to its next row, and at the end of its list takes the table written, while a calibration runs the one that stood
written when it began. -/
def runGcWindowEnd (g : Fin 4) (c : Charge) (s : State) : Res :=
  let gc := vget s.ms.gc g
  if gc.ended then
    let c := { c with w := gc.length }
    let row := gc.current
    let ch := scanCh row
    let cal := s.calibrating (34 + g)
    let r := if cal then (s.node (320 + ch), 0) else resultOf c (s.n (Obj.GC_CAL_OFFSET g)) (s.n (Obj.GC_CAL_GAIN g))
    let flags := statusFlags false false cal (r.2 != 0) (vget s.ms.uncal (34 + g)) gc.settled (scanRef row) g
    let s := s.when (r.2 != 0 && !vget s.ms.chClamped ch && !cal) (·.raise (Src.gc g) Kind.ADC_RANGE r.2)
    let wrap := gc.table.length ≤ gc.row + 1
    let table := if !wrap then gc.table else if s.ms.calRun = 0 then scanRows (s.oct (Obj.GC_SCAN g)) else gc.next
    let s := { s with
      ms.chClamped := if cal then s.ms.chClamped else vset s.ms.chClamped ch (r.2 != 0)
      ms.gcReady := s.ms.gcReady ++ [(ch, r.1, flags)]
      ms.gc := vset s.ms.gc g { table := table, next := gc.next, row := if wrap then 0 else gc.row + 1 } }
    .next (s.mirrorSupply ch r.1)
  else .next s

/-- R169: at a tick edge the finished GC results reach their channels' nodes, value and status together. -/
def State.gcWriteReady (s : State) : State :=
  let ready := s.ms.gcReady
  ready.foldl (fun s e => (s.setNode (320 + e.1) e.2.1).putStatus (384 + e.1) e.2.2) { s with ms.gcReady := [] }

/-! ### References. -/

/-- REFIN in mV, as channel 59 has last read it (R158). -/
def State.refinMv (s : State) : Int := readingMv 59 (s.node 379)
/-- R158: full scale of the solenoid converters in mA, REF × 1.6 A/V of the selected reference. [log 234 DEDUCED] -/
def State.scFullMa (s : State) : Int := if s.nat Obj.SC_REF = 1 then (s.refinMv * 8).tdiv 5 else 4000
/-- R170, R171: REFIN lies within 2.000 to 3.000 V, as channel 59 reads; before its first result nothing says otherwise. [log
235 DEDUCED] -/
def State.refinOk (s : State) : Bool := s.nodeU 443 == 0x50 || decide (2000 ≤ s.refinMv ∧ s.refinMv ≤ 3000)
/-- REF_SETTLED_SET (R171): a reference has settled; a ratiometric one only while its supply is on, REFIN within its range. -/
def runRefSettledSet (r : Ref) (s : State) : Res :=
  let code := refCode r
  let may := s.bit Obj.DOMAIN_STATUS 1 && match r with
    | .sup k => (vget s.ms.sup k).on
    | .refin => s.refinOk
    | .internal => true
  .next (if may then
    { s.putBit Obj.REF_STATUS (refBit code) true with ms.refRaised := vset s.ms.refRaised code false } else s)

/-- R171, R172: a reference's condition fails: its flag clears at once, the windows that use it lose SETTLED, and the
reference raises ADC_REF_UNSETTLED once until it has settled again. -/
def State.refFail (s : State) (code : Nat) : State :=
  let s := s.when (!vget s.ms.refRaised code) (·.raise Src.refs Kind.ADC_REF_UNSETTLED (if code = 0 then 1 else if code = 1 then 2 else code))
  { s.putBit Obj.REF_STATUS (refBit code) false with
    ms.refRaised := vset s.ms.refRaised code true
    ms.icSettled := if s.nat Obj.IC_REF = code then .replicate 18 false else s.ms.icSettled
    ms.scSettled := if s.nat Obj.SC_REF = code then .replicate 16 false else s.ms.scSettled
    ms.gc := s.ms.gc.map fun g => if scanRef g.current = code ∧ !(scanTicks g.current && g.left == 0) then { g with settled := false } else g }

/-- R170, R172: the reference of the IC or SC group has been written: a change within a window leaves it without SETTLED. [log
236 DEDUCED] -/
def State.refChange (s : State) (key : Nat) (old : Nat) : State :=
  if s.nat key = old then s
  else if key = Obj.IC_REF then { s with ms.icSettled := .replicate 18 false }
  else { s with ms.scSettled := .replicate 16 false }
/-- R171: REFIN read out of its range on channel 59 fails. -/
def State.refinJudge (s : State) : State := s.when (s.refSettled 1 && !s.refinOk) (·.refFail 1)
/-- REF_SETTLED_CLEAR (R171): a settled reference's condition fails. -/
def runRefSettledClear (r : Ref) (s : State) : Res :=
  .next (if s.refSettled (refCode r) then s.refFail (refCode r) else s)

/-- REF_SETTLE_TIMEOUT (R107, R171): at step 7 of a start a reference has not settled within 20 ms: the lane does not take
lead. [log 149 DEDUCED] -/
def runRefSettleTimeout (r : Ref) (s : State) : Res :=
  .next (if s.nat Obj.START_STEP < 12 ∧ !s.refSettled (refCode r) then { s.refFail (refCode r) with st.noLead := true } else s)

/-! ### Calibration. -/

/-- R173: the ideal difference of a converter's two points. -/
def calIdeal (conv : Nat) : Int := if conv < 18 then 12582912 else 4194304
/-- The dictionary keys of a converter's offset and gain factors, by its number of R182. -/
def calOffsetKey (conv : Nat) : Nat :=
  if conv < 18 then Obj.IC_CAL_OFFSET conv else if conv < 34 then Obj.SC_CAL_OFFSET (conv - 18) else Obj.GC_CAL_OFFSET (conv - 34)
def calGainKey (conv : Nat) : Nat :=
  if conv < 18 then Obj.IC_CAL_GAIN conv else if conv < 34 then Obj.SC_CAL_GAIN (conv - 18) else Obj.GC_CAL_GAIN (conv - 34)
/-- The source ID of a converter, by its number of R182. -/
def convSrc (conv : Nat) : Nat :=
  if conv < 18 then Src.ic conv else if conv < 34 then Src.sc (conv - 18) else Src.gc (conv - 34)
/-- R173: gain := round(0x8000 × ideal ÷ measured), to the nearest integer. [log 28 DEDUCED] -/
def calGain (conv : Nat) (r : CalResult) : Int :=
  let m := r.a - r.b
  if m ≤ 0 then 0 else (2 * 0x8000 * calIdeal conv + m) / (2 * m)
/-- R174: why a converter fails calibration, 0 where it passes; a sequence that was not completed goes before what it did not
measure, the offset before the gain. [log 27 DEDUCED] -/
def calVerdict (conv : Nat) (r : CalResult) : Nat :=
  if !r.completed then 3
  else if r.offset < -65536 ∨ 65536 < r.offset then 1
  else if calGain conv r < 0x7000 ∨ 0x9000 < calGain conv r then 2 else 0

/-- R173: the windows in which a calibration has these converters off their pins. -/
def State.spoil (s : State) (l : List Nat) : State := { s with ms.spoiled := l.foldl (fun v c => vset v c true) s.ms.spoiled }
/-- R173, R176: a calibration of every converter starts; a table written from now on waits for its end. -/
def State.calBegin (s : State) : State :=
  let s := s.spoil (List.range 38)
  { s.putN Obj.CAL_STATUS 1 with ms.calRun := 1, ms.calSet := List.range 38
                                 ms.gc := .ofFn fun g : Fin 4 => { vget s.ms.gc g with table := s.gcTable g, next := scanRows (s.oct (Obj.GC_SCAN g)) } }

/-- R176: a calibration is abandoned; the factors stand at their defaults. -/
def State.calFactorsDefault (s : State) : State :=
  let s := s.each 38 fun s c => (s.putN (calOffsetKey c) 0).putN (calGainKey c) 0x8000
  { s with ms.uncal := .replicate 38 true }

/-- Is any output of the lane armed (R176, R136)? -/
def State.anyArmed (s : State) : Bool := s.ch.armed != 0

/-- R173, R176: what a write of 0xC5 to CAL_START does, whatever the domains; the abort code where it is
rejected. [log 187 DEDUCED; log 215 DESIGN CHOICE] -/
def State.calStart (s : State) : Except AbortCode State :=
  if s.anyArmed then .error 0x06060002
  else if s.ms.calRun != 0 then .ok s
  else .ok s.calBegin

/-- One converter's outcome at the end of a run: factors, UNCAL and the raised fault (R173, R174). [log 27 DEDUCED] -/
def State.calOne (s : State) (conv : Nat) (r : CalResult) : State :=
  match calVerdict conv r with
  | 0 =>
    let s := (s.putN (calOffsetKey conv) r.offset).putN (calGainKey conv) (calGain conv r)
    { s with ms.uncal := vset s.ms.uncal conv false }
  | q =>
    let s := (s.putN (calOffsetKey conv) 0).putN (calGainKey conv) 0x8000
    let s := { s with ms.uncal := vset s.ms.uncal conv true }
    s.raise (convSrc conv) Kind.ADC_CAL_FAIL q

/-- R173, R174: the end of a calibration run, with what was measured of each converter; converters that failed run once
more. Answers whether the calibration is over. -/
def State.calEnd (s : State) (res : List CalResult) : State × Bool :=
  let at' (c : Nat) : CalResult := res.getD c ⟨0, 0, 0, false⟩
  let ran := s.ms.calSet
  let failed := ran.filter fun c => calVerdict c (at' c) != 0
  let first := s.ms.calRun == 1
  let s := (ran.foldl (fun s c => s.calOne c (at' c)) s).spoil ran
  if first && !failed.isEmpty then ({ s with ms.calRun := 2, ms.calSet := failed }, false)
  else
    let s := { s with ms.calRun := 0, ms.calSet := [] }
    let s := s.putN Obj.CAL_STATUS (if failed.isEmpty then 2 else 3)
    let s := s.putN Obj.CAL_FAILED (failed.foldl (fun m c => m + 2 ^ c) 0 : Nat)
    let s := s.putN Obj.CAL_TIME s.stamp
    ({ s with st.noLead := s.st.noLead || !failed.isEmpty }, true)

/-! ### Sensor supplies. -/

/-- SUP_FAULT (R180, R181): a sensor supply is current-limited, low or high: the fault is raised with its reading, the
supply switches off for its retry, and its ratiometric reference is unsettled. -/
def runSupFault (k : Fin 4) (high : Bool) (s : State) : Res :=
  if (vget s.ms.sup k).on then
    let s := s.raise Src.supply (if high then Kind.SUPPLY_OV else Kind.SUPPLY_UV) (6 + k)
      (some (readingMv (53 + k) (s.node (320 + 53 + k))))
    let s := { s.putBit Obj.SUP_STATUS k true with ms.sup := vmod s.ms.sup k fun p => { p with on := false } }
    .next (if s.refSettled (4 + k) then s.refFail (4 + k) else s)
  else .next s

/-- SUP_RETRY (R181): after 10 ms a supply in fault tries again; SUP_RETRIES failures in a row latch it off. [log 16, 214
DEDUCED] -/
def runSupRetry (k : Fin 4) (ok : Bool) (s : State) : Res :=
  if s.bit Obj.SUP_STATUS k && !s.bit Obj.SUP_STATUS (4 + k) && s.bit Obj.DOMAIN_STATUS 1 then
    if ok then
      .next { s.putBit Obj.SUP_STATUS k false with ms.sup := vset s.ms.sup k { on := true, failed := 0 } }
    else
      let f := (vget s.ms.sup k).failed + 1
      let s := { s with ms.sup := vset s.ms.sup k { on := false, failed := f } }
      .next (s.when (s.nat Obj.SUP_RETRIES ≤ f) (·.putBit Obj.SUP_STATUS (4 + k) true))
  else .next s

/-- R181: supplies latched off start again, while PD_MEAS is up. [log 214 DEDUCED] -/
def State.supRestart (s : State) : State :=
  s.each 4 fun s k =>
    s.when (s.bit Obj.SUP_STATUS (4 + k) && s.bit Obj.DOMAIN_STATUS 1) fun s =>
      { (s.putBit Obj.SUP_STATUS (4 + k) false).putBit Obj.SUP_STATUS k false with
        ms.sup := vset s.ms.sup k { on := true, failed := 0 } }

/-- R180: at step 7 of a start the enabled supplies switch on. -/
def State.supEnable (s : State) : State :=
  s.each 4 fun s k => { s with ms.sup := vset s.ms.sup k { on := s.bit Obj.SUP_ENABLE k, failed := 0 } }

/-- R171, R172, R176, R180: what a drop of PD_MEAS leaves: factors at default, a calibration abandoned, supplies off, and every
reference that was settled reported. A supply latched off stays so. [log 214 DEDUCED] -/
def State.measDrop (s : State) : State :=
  let s := s.when (s.ms.calRun != 0) (·.putN Obj.CAL_STATUS 4)
  let s := [0, 1, 4, 5, 6, 7].foldl (fun s c => if s.refSettled c then s.refFail c else s) s.calFactorsDefault
  { s.putN Obj.SUP_STATUS (s.nat Obj.SUP_STATUS / 16 * 17 : Nat) with
    ms.calRun := 0, ms.calSet := [], ms.sup := .replicate 4 {}, ms.gc := .replicate 4 {}, ms.gcReady := [], ms.opened := false
    ms.legs := .replicate 18 none, ms.integrating := .replicate 18 false
    ms.offSum := .replicate 18 0, ms.offCount := .replicate 18 0 }

end Sys2Proof.Machine
end

