-- ==== Sys2Proof/Machine/Feedback.lean ====
section
/-!
DEFINITION. Machine/Feedback.lean: position feedback and observers (R184–R220), with the compare units of R302–R305 that
stand on each channel's counter.
-/
namespace Sys2Proof.Machine

/-- The signed 32-bit reading of a difference of counters, wrapping. -/
def diff32 (x y : Int) : Int := wrap32 (x - y)
/-- R197: the filter delay of a channel, in 10 ns counts. -/
def State.fbDelay (s : State) (n : Nat) : Nat := s.nat (Obj.FB_FILTER_N n) * s.nat (Obj.FB_FILTER_DIV n)

/-! ### Latch (R197–R199). -/

/-- A trigger enabled in LATCH_SOURCE meets the latch: `cause` is its bit, `clock` its count clock, `time` the stored time. -/
def State.latchTrigger (s : State) (n cause clock time : Nat) : State :=
  if !s.bit (Obj.LATCH_SOURCE n) cause then s
  else if (vget s.fb n).latchAt = some clock then
    s.putBit (Obj.LATCH_CAUSE n) cause true
  else if s.nat (Obj.LATCH_MODE n) = 1 ∨ s.bit (Obj.FB_STATUS n) 2 then
    let s := (s.putN (Obj.LATCH_POSITION n) (s.n (Obj.FB_COUNTER n))).putN (Obj.LATCH_TIME n) (time % 2 ^ 64 : Nat)
    let s := (s.putN (Obj.LATCH_CAUSE n) (2 ^ cause : Nat)).count (Obj.LATCH_COUNT n) 32
    let s := s.putBit (Obj.FB_STATUS n) 3 true
    let s := s.when (s.nat (Obj.LATCH_MODE n) != 1) (·.putBit (Obj.FB_STATUS n) 2 false)
    { s with fb := vmod s.fb n fun f => { f with latchAt := some clock } }
  else s.count (Obj.LATCH_OVERRUNS n) 32

/-- R198: a write of 0x41 re-arms the latch. [log 239 DESIGN CHOICE] -/
def State.latchRearm (s : State) (n : Nat) : State := s.putBit (Obj.FB_STATUS n) 2 true

/-- LATCH_INPUT_EDGE (R199): an edge at a LATCHk ball, at the time of the edge; its filter is fixed at 80 ns. -/
def runLatchInputEdge (k : Fin 4) (rising : Bool) (time : Nat) (s : State) : Res :=
  .next (s.each 12 fun s n =>
    let e := s.nat (Obj.LATCH_EDGE n)
    if s.nat (Obj.LATCH_INPUT n) = k.val ∧ (e = 2 ∨ (e = 0 ∧ rising) ∨ (e = 1 ∧ !rising)) then
      s.latchTrigger n 1 (time + 8) time
    else s)

/-! ### Compare units (R302–R305). -/

/-- R303: δ of a unit for a direction, true backward. -/
def State.cmpDelta (s : State) (n u : Nat) (back : Bool) : Int :=
  let d := diff32 (s.n (Obj.CMP_POSITION n u)) (s.n (Obj.FB_COUNTER n))
  if back then wrap32 (-d) else d

/-- R307: the detail of COMPARE_BEHIND: [31:30] the unit, [29:0] δ. -/
def behindDetail (u : Nat) (δ : Int) : Int := u * 2 ^ 30 + δ % 2 ^ 30

/-- R302, R303: a unit is armed; a unit that is behind says so and stays armed. -/
def State.cmpArm (s : State) (n u : Nat) : State :=
  let dir := field (s.nat (Obj.CMP_CONTROL n u)) 6 5
  let back := dir = 2 ∨ dir = 0 ∧ s.bit (Obj.FB_STATUS n) 1
  let δ := s.cmpDelta n u back
  let s := s.putN (Obj.CMP_STATUS n u) (1 + 2 * b2n back + (if δ ≤ 0 then 8 else 0) : Nat)
  s.when (δ ≤ 0) (·.raise (Src.fb n) Kind.COMPARE_BEHIND 1 (some (behindDetail u δ)))

/-- R305: after a preset or a re-zero each armed unit is judged anew against the counter. -/
def State.cmpRecompute (s : State) (n : Nat) : State :=
  s.each 4 fun s u =>
    if s.bit (Obj.CMP_STATUS n u) 0 then
      let δ := s.cmpDelta n u (s.bit (Obj.CMP_STATUS n u) 1)
      let was := s.bit (Obj.CMP_STATUS n u) 3
      let s := s.putBit (Obj.CMP_STATUS n u) 3 (δ ≤ 0)
      s.when (δ ≤ 0 ∧ !was) (·.raise (Src.fb n) Kind.COMPARE_BEHIND 2 (some (behindDetail u δ)))
    else s

/-- R304: a count in direction `back` has been applied at a filter clock; every armed unit it reaches fires. -/
def State.cmpCount (s : State) (n : Nat) (back : Bool) (clock : Nat) : State :=
  s.each 4 fun s u =>
    let st := s.nat (Obj.CMP_STATUS n u)
    if st.testBit 0 ∧ s.n (Obj.CMP_POSITION n u) = s.n (Obj.FB_COUNTER n) ∧ (st.testBit 3 ∨ st.testBit 1 = back) then
      let t := clock - s.fbDelay n
      let s := (s.putBit (Obj.CMP_STATUS n u) 0 false).putBit (Obj.CMP_STATUS n u) 2 true
      let s := s.putN (Obj.CMP_TIME n u) (t % 2 ^ 64 : Nat)
      let s := { s with fb := vmod s.fb n fun f => { f with fired := f.fired ||| 2 ^ u } }
      s.when (s.nat (Obj.LATCH_COMPARE n) == u) (·.latchTrigger n 2 clock t)
    else s

/-- R305: a write of FB_CLASS disarms every unit of the channel. -/
def State.cmpDisarmAll (s : State) (n : Nat) : State := s.each 4 fun s u => s.putBit (Obj.CMP_STATUS n u) 0 false

/-! ### Counting (R185–R190). -/

/-- R189: a movement enters the accumulator, which stops at a magnitude of 2^31. -/
def State.fbAccum (s : State) (n : Nat) (d : Int) : State :=
  if s.bit (Obj.FB_STATUS n) 6 then s
  else
    let v := s.n (Obj.EXT_ACCUM n) + d
    let s := s.putN (Obj.EXT_ACCUM n) (sat32 v)
    s.when (decide (2 ^ 31 ≤ v.natAbs)) fun s =>
      ((s.putBit (Obj.FB_STATUS n) 6 true).putBit (Obj.FB_STATUS n) 7 false).raise (Src.fb n) Kind.COUNT_EXTEND_LATE 1
        (some (s.n (Obj.FB_COUNTER n)))

/-- One count in a direction, at a filter clock (R185, R189, R304). -/
def State.fbCount (s : State) (n : Nat) (d : Int) (clock : Nat) : State :=
  if d = 0 then s
  else
    let s := s.putN (Obj.FB_COUNTER n) ((s.n (Obj.FB_COUNTER n) + d) % 2 ^ 32)
    let s := s.putBit (Obj.FB_STATUS n) 1 (d < 0)
    (s.fbAccum n d).cmpCount n (d < 0) clock

/-- R185: the count of a quadrature transition, none where A and B change together. -/
def quadCount (mode : Nat) (a0 b0 a b : Bool) : Option Int :=
  if a0 != a && b0 != b then none
  else if a0 != a then
    let fwd : Bool := a != b
    some (if mode = 1 then (if b then 0 else if a then 1 else -1) else if fwd then 1 else -1)
  else if b0 != b then some (if mode = 4 then (if a == b then 1 else -1) else 0)
  else some 0

/-- R186: a level change is absorbed as a rejected pulse. -/
def State.fbReject (s : State) (n : Nat) : State :=
  { s.count (Obj.FB_REJECTS n) 32 with fb := vmod s.fb n fun f => { f with rejects := f.rejects + 1 } }
/-- R187: does a filter clock follow an earlier edge by fewer than `gap` count clocks? -/
def tooClose (gap clock : Nat) : Option Nat → Bool
  | none => false
  | some t => t ≤ clock && clock < t + gap
/-- R187: is an edge on an input too close to that input's last edge or, in the quadrature class, to the other input's? -/
def State.fbClose (s : State) (n clock : Nat) (own other : Option Nat) : Bool :=
  let gap := s.fbDelay n + 1
  tooClose gap clock own || (s.nat (Obj.FB_CLASS n) == 0 && tooClose gap clock other)

/-- R184–R187: what a channel's filters give at a filter clock: the levels `a` and `b`. An edge that comes too close is
absorbed as a rejected pulse and its level kept; levels given again later count it then. [log 222 DESIGN CHOICE] -/
def State.fbEdge (s : State) (n : Nat) (e : FbEvent) (clock : Nat) : State :=
  match e with
  | .rejectedPulse => s.fbReject n
  | .levels toA toB =>
    let f := vget s.fb n
    let closeA := f.a != toA && s.fbClose n clock f.lastA f.lastB
    let closeB := f.b != toB && s.fbClose n clock f.lastB f.lastA
    let a := if closeA then f.a else toA
    let b := if closeB then f.b else toB
    let s := (s.when closeA (·.fbReject n)).when closeB (·.fbReject n)
    let inv : Int := if s.on (Obj.FB_INVERT n) then -1 else 1
    let s := { s with fb := vmod s.fb n fun f =>
      { f with a := a, b := b, indexed := f.indexed && f.a == a && f.b == b
               lastA := if f.a != a then some clock else f.lastA, lastB := if f.b != b then some clock else f.lastB } }
    match s.nat (Obj.FB_CLASS n) with
    | 0 =>
      match quadCount (s.nat (Obj.FB_COUNT_MODE n)) f.a f.b a b with
      | some d => s.fbCount n (inv * d) clock
      | none =>
        { s.count (Obj.FB_QERRORS n) 32 with fb := vmod s.fb n fun f => { f with illegal := f.illegal + 1 } }
    | 1 =>
      let edge := if s.nat (Obj.STEP_EDGE n) = 0 then !f.a && a else f.a && !a
      s.fbCount n (if edge then (if b then -inv else inv) else 0) clock
    | _ =>
      s.fbCount n (inv * ((b2n (!f.a && a) : Int) - b2n (!f.b && b))) clock

/-- R190: a write of FB_EXT_REBASE. -/
def State.fbExtRebase (s : State) (n : Nat) (v : Int) : State :=
  let s := (s.putN (Obj.FB_EXT_POSITION n) v).putN (Obj.EXT_ACCUM n) 0
  (s.putBit (Obj.FB_STATUS n) 7 true).putBit (Obj.FB_STATUS n) 6 false

/-- EXTENSION_READ (R189, R190): the firmware reads the accumulator and clears it; a channel whose EXT_VALID is clear is
no longer updated. While the application firmware is stopped nothing is read, and the accumulator keeps running. -/
def runExtensionRead (n : Fin 12) (s : State) : Res :=
  if s.appStopped then .next s else
  let acc := s.n (Obj.EXT_ACCUM n)
  let s' := s.putN (Obj.EXT_ACCUM n) 0
  .next (if s.bit (Obj.FB_STATUS n) 7 then s'.putN (Obj.FB_EXT_POSITION n) (wrap64 (s.n (Obj.FB_EXT_POSITION n) + acc)) else s')

/-- R195: every observer of the channel shifts its position by a step of the counter. -/
def State.obsShift (s : State) (n : Nat) (step : Int) : State :=
  s.each 12 fun s o =>
    if s.nat (Obj.OB_SOURCE o) = n then
      { s with ob := vmod s.ob o fun x =>
          { x with pos := (x.pos + asr (step * s.n (Obj.OB_SCALE_K o) * 2 ^ 32) (s.nat (Obj.OB_SCALE_S o))) % 2 ^ 64 } }
    else s

/-- R195: the counter moves in one step that is no crossing; the observers follow it and the compare units are judged anew. -/
def State.fbMove (s : State) (n : Nat) (v : Int) : State :=
  let step := diff32 v (s.n (Obj.FB_COUNTER n))
  ((s.putN (Obj.FB_COUNTER n) (v % 2 ^ 32)).obsShift n step).cmpRecompute n
/-- R195: a re-zero or an INDEX_HOME preset: the step enters the accumulator as well. -/
def State.fbStep (s : State) (n : Nat) (v : Int) : State :=
  (s.fbAccum n (diff32 v (s.n (Obj.FB_COUNTER n)))).fbMove n v

/-- R192, R195: a write of FB_COUNTER presets the counter and, instead of the accumulator's step, rebases FB_EXT_POSITION
under R190; the next index is a reference. [log 218 DEDUCED] -/
def State.fbPreset (s : State) (n : Nat) (v : Int) : State :=
  ((s.fbMove n v).fbExtRebase n (wrap32 v)).putBit (Obj.FB_STATUS n) 5 false

/-- R216, R305: a write of FB_CLASS keeps the counter, clears REF_VALID and disarms the compare units. -/
def State.fbClassWrite (s : State) (n : Nat) (v : Int) : State :=
  ((s.putN (Obj.FB_CLASS n) v).putBit (Obj.FB_STATUS n) 5 false).cmpDisarmAll n

/-! ### Index checking (R191–R194). -/

/-- R192: d of an index met at `actual`. -/
def slipOf (cpr actual ref : Int) : Int := ((diff32 actual ref + cpr / 2) % cpr) - cpr / 2

/-- R193, R194: a slip is latched, counted, raised and corrected. -/
def State.indexSlip (s : State) (n : Nat) (actual d : Int) : State :=
  let before := s.n (Obj.SLIP_COUNT n)
  let s := (s.putBit (Obj.FB_STATUS n) 4 true).putN (Obj.SLIP_ACTUAL n) actual
  let s := (s.putN (Obj.SLIP_AMOUNT n) d).countHold (Obj.SLIP_COUNT n) 255
  let s := s.raise (Src.fb n) Kind.INDEX_SLIP 1 (some d)
  let s := s.when (before < s.n (Obj.SLIP_LIMIT n) && s.n (Obj.SLIP_COUNT n) == s.n (Obj.SLIP_LIMIT n))
    (·.raiseAs 2 (Src.fb n) Kind.INDEX_SLIP 2 (some d))
  match s.nat (Obj.INDEX_POLICY n) with
  | 0 => s.fbStep n (s.n (Obj.FB_COUNTER n) - d)
  | 1 => s
  | _ => s.putN (Obj.INDEX_REF n) actual

/-- R191–R194: Z is asserted in the gated state, at the filter clock `clock`. The latch takes the count before a re-zero or
a preset of the same event. [log 219 DESIGN CHOICE] -/
def State.indexEvent (s : State) (n clock : Nat) : State :=
  let f := vget s.fb n
  let gated := s.nat (Obj.FB_CLASS n) != 0 || (2 * b2n f.b + b2n f.a == s.nat (Obj.INDEX_GATE n) && !f.indexed)
  if gated then
    let actual := s.n (Obj.FB_COUNTER n)
    let s := { s with fb := vmod s.fb n fun f => { f with indexed := true } }
    let st := s.nat (Obj.FB_STATUS n)
    let s := s.putN (Obj.FB_STATUS n) ((st / 65536 + 1) % 65536 * 65536 + st % 65536 : Nat)
    let s := s.latchTrigger n 0 clock (clock - s.fbDelay n)
    if s.n (Obj.INDEX_CPR n) = 0 then s.putN (Obj.INDEX_REF n) actual
    else if !s.bit (Obj.FB_STATUS n) 5 then
      let s := (s.putBit (Obj.FB_STATUS n) 5 true).putN (Obj.INDEX_REF n) actual
      if s.nat (Obj.INDEX_HOME n) = 1 then
        (s.fbStep n (s.n (Obj.INDEX_HOME_COUNT n))).putN (Obj.INDEX_REF n) (s.n (Obj.INDEX_HOME_COUNT n))
      else s
    else
      let d := slipOf (s.n (Obj.INDEX_CPR n)) actual (s.n (Obj.INDEX_REF n))
      if d = 0 then s else s.indexSlip n actual d
  else s

/-- R194: SLIP_COUNT written with 0 also clears the sticky bit. -/
def State.slipClear (s : State) (n : Nat) : State := (s.putN (Obj.SLIP_COUNT n) 0).putBit (Obj.FB_STATUS n) 4 false
/-- R192: a write of INDEX_CPR makes the next index a reference. -/
def State.indexCprWrite (s : State) (n : Nat) (v : Int) : State :=
  (s.putN (Obj.INDEX_CPR n) v).putBit (Obj.FB_STATUS n) 5 false

/-- R186: once per beat each channel reports the pulses and transitions it refused; where both occurred the pulses alone are
reported. [log 31 DEDUCED; log 217 DESIGN CHOICE] -/
def State.fbBeat (s : State) : State :=
  s.each 12 fun s n =>
    let f := vget s.fb n
    let s := { s with fb := vset s.fb n { f with rejects := 0, illegal := 0 } }
    if f.rejects != 0 then s.raise (Src.fb n) Kind.FB_FILTER_REJECT 1 (some f.rejects)
    else s.when (f.illegal != 0) (·.raise (Src.fb n) Kind.FB_FILTER_REJECT 2 (some f.illegal))

/-! ### SENT (R201–R205). -/

/-- R201: the 4-bit CRC of SAE J2716, polynomial x⁴ + x³ + x² + 1, one nibble on (log 14). [log 14 PRESUMED] -/
def sentCrcStep (crc nib : Nat) : Nat :=
  nib ^^^ [0, 13, 7, 10, 14, 3, 9, 4, 1, 12, 6, 11, 15, 2, 8, 5].getD crc 0
/-- R201: the CRC over the data nibbles, seed 0b0101; the recommended one with the augmenting zero nibble. [log 14 PRESUMED] -/
def sentCrc (legacy : Bool) (data : List Nat) : Nat :=
  let c := data.foldl sentCrcStep 5
  if legacy then c else sentCrcStep c 0

/-- R202: the qualifier with which a frame is rejected, 0 where it is accepted. [log 30 DEDUCED] -/
def State.sentJudge (s : State) (n : Nat) (f : SentFrame) : Nat :=
  let nominal := 560 * s.nat (Obj.SN_TICK n)
  let off (x y : Nat) : Nat := if x < y then y - x else x - y
  let count := s.nat (Obj.SN_NIBBLES n)
  let total := 56 + f.nibbles.foldl (· + ·) 0 + f.pause.getD 0
  let badCal := nominal < 5 * off f.cal nominal ||
    (s.on (Obj.SN_CAL_CHECK n) && match (vget s.sn n).lastCal with | some p => p < 64 * off f.cal p | none => false)
  if badCal then 3
  else if f.nibbles.length ≠ count + 2 ∨ !f.nibbles.all (fun t => 12 ≤ t && t ≤ 27) then 4
  else if (f.nibbles.getLastD 12) - 12 ≠ sentCrc (s.on (Obj.SN_CRC_MODE n)) (((f.nibbles.drop 1).take count).map (· - 12)) then 1
  else match s.nat (Obj.SN_PAUSE n), f.pause with
    | 0, _ => 0
    | _, none => 5
    | m, some p =>
      if p < 12 ∨ 768 < p then 5
      else if m = 2 ∧ 1 < off total (s.nat (Obj.SN_FRAME_TICKS n)) then 5 else 0

/-- The number whose nibbles are given, most significant first. -/
def nibblesVal (l : List Nat) : Nat := l.foldl (fun v x => 16 * v + x) 0

/-- R205: a completed slow message enters SN_SLOW_TABLE; with the table full the row of the oldest receipt makes room. -/
def State.sentSlow (s : State) (n id data micros : Nat) : State :=
  let row := le 2 id ++ le 2 data ++ le 4 micros
  let rows := rowsOf 8 (s.oct (Obj.SN_SLOW_TABLE n))
  let has := rows.any fun r => leNat (r.take 2) == id
  let rows' :=
    if has then rows.map fun r => if leNat (r.take 2) == id then row else r
    else if rows.length < 64 then rows ++ [row]
    else
      let now := micros % 2 ^ 32
      let age (r : List Byte) : Nat := (now + 2 ^ 32 - leNat (r.drop 4)) % 2 ^ 32
      let oldest := rows.foldl (fun m r => max m (age r)) 0
      match rows.findIdx? (fun r => age r == oldest) with
      | some i => rows.set i row
      | none => rows
  s.put (Obj.SN_SLOW_TABLE n) (.oct rows'.flatten)

/-- The number whose bits are given, most significant first. -/
def bitsVal (l : List Bool) : Nat := l.foldl (fun v b => 2 * v + b2n b) 0
/-- One bit through the CRC of an enhanced serial message, polynomial x^6 + x^4 + x^3 + 1. [log 14 PRESUMED] -/
def slowCrcStep (c : Nat) (b : Bool) : Nat :=
  let next := (2 * c + b2n b) % 64
  if 32 ≤ c then next ^^^ 0x19 else next
/-- The CRC of an enhanced serial message: bits 2 and 3 of frames 7 to 18 in turn, seed 0b010101, six zero bits after them.
[log 14 PRESUMED] -/
def slowCrc (rows : List (Bool × Bool)) : Nat :=
  (rows.flatMap (fun r => [r.2, r.1]) ++ .replicate 6 false).foldl slowCrcStep 0x15
/-- R201, SN_SLOW_MODE 1: a short serial message, complete with the last of 16 status nibbles: its ID, its data, and whether
its CRC agrees. [log 14 PRESUMED] -/
def slowShort (legacy : Bool) (rows : List (Bool × Bool)) : Option (Nat × Nat × Bool) :=
  if rows.map (·.1) = true :: .replicate 15 false then
    let v := bitsVal (rows.map (·.2))
    some (v / 4096, v / 16 % 256, v % 16 == sentCrc legacy [v / 4096, v / 256 % 16, v / 16 % 16])
  else none
/-- R201, SN_SLOW_MODE 2: an enhanced serial message, complete with the last of 18 status nibbles. [log 14 PRESUMED] -/
def slowEnhanced (rows : List (Bool × Bool)) : Option (Nat × Nat × Bool) :=
  let top := rows.map (·.1)
  let low := bitsVal ((rows.drop 6).map (·.2))
  let bits (first : Nat) (count : Nat) : Nat := bitsVal ((top.drop first).take count)
  if rows.length = 18 ∧ top.take 7 = [true, true, true, true, true, true, false] ∧ top[12]? = some false ∧ top[17]? = some false then
    let wide := top[7]? == some true
    let id := if wide then bits 8 4 else 16 * bits 8 4 + bits 13 4
    let data := if wide then 4096 * bits 13 4 + low else low
    some (id, data, bitsVal ((rows.take 6).map (·.2)) == slowCrc (rows.drop 6))
  else none
/-- R201: the slow message that the status nibbles complete. -/
def State.slowMessage (s : State) (n : Nat) (rows : List (Bool × Bool)) : Option (Nat × Nat × Bool) :=
  match s.nat (Obj.SN_SLOW_MODE n) with
  | 0 => none
  | 1 => slowShort (s.on (Obj.SN_CRC_MODE n)) (rows.drop (rows.length - 16))
  | _ => slowEnhanced rows
/-- R202: a rejection is counted; the first of a beat gives the qualifier. [log 220 DESIGN CHOICE] -/
def State.sentReject (s : State) (n q : Nat) : State :=
  { s.count (Obj.SN_ERRORS n) 32 with sn := vmod s.sn n fun c =>
      { c with rejected := c.rejected + 1, why := if c.rejected = 0 then q else c.why } }
/-- R205: the µs of global time at which a frame's CRC nibble ends. [log 221 DEDUCED] -/
def sentEnd (f : SentFrame) : Nat := (f.start + f.cal * (56 + f.nibbles.foldl (· + ·) 0) / 56) / 100

/-- SENT_FRAME (R201–R205): a frame is checked; an accepted one waits for the tick edge and adds its status nibble to the
slow channel, a rejected one is counted. -/
def runSentFrame (n : Fin 8) (f : SentFrame) (s : State) : Res :=
  if !s.on (Obj.SN_ENABLE n) then .next s
  else
    let q := s.sentJudge n f
    let s := s.putN (Obj.SN_MEASURED_TICK n) (Config.roundQuot (10 * f.cal) 56)
    let s := { s with sn := vmod s.sn n fun c => { c with lastCal := some f.cal } }
    if q ≠ 0 then .next ({ s with sn := vmod s.sn n fun c => { c with slow := [] } }.sentReject n q)
    else
      let d := ((f.nibbles.drop 1).take (s.nat (Obj.SN_NIBBLES n))).map (· - 12)
      let v : Nat × Option Nat :=
        if s.nat (Obj.SN_FORMAT n) = 1 then (nibblesVal (d.take 3), some (nibblesVal (d.drop 3).reverse))
        else (nibblesVal d, none)
      let stamp := f.start - 100 * s.nat (Obj.SN_LATENCY n)
      let status := f.nibbles.headD 12 - 12
      let rows := (vget s.sn n).slow ++ [(status.testBit 3, status.testBit 2)]
      let rows := if s.nat (Obj.SN_SLOW_MODE n) = 0 then [] else rows.drop (rows.length - 18)
      let s := { s with sn := vmod s.sn n fun c =>
        { c with accepted := (c.accepted + 1) % 65536, timeout := false, nibble := status, slow := rows
                 ready := some ⟨v.1, v.2, status, stamp⟩ } }
      .next (match s.slowMessage n rows with
        | some (id, data, true) => s.sentSlow n id data (sentEnd f)
        | some (_, _, false) => s.sentReject n 2
        | none => s)

/-- SENT_TIMEOUT (R203): no frame has passed for SN_TIMEOUT; `micros` is the time since the last accepted one. -/
def runSentTimeout (n : Fin 8) (micros : Nat) (s : State) : Res :=
  if s.on (Obj.SN_ENABLE n) && !(vget s.sn n).timeout then
    .next ({ s with sn := vmod s.sn n fun c => { c with timeout := true } }.raise (Src.sn n) Kind.SENT_TIMEOUT 1 (some micros))
  else .next s

/-- R204, R215: at a tick edge the accepted frames' values and every channel's status reach their nodes. [log 241 DESIGN
CHOICE] -/
def State.sentTick (s : State) : State :=
  s.each 8 fun s n =>
    let c := vget s.sn n
    let s := match c.ready with
      | none => s
      | some v =>
        let s := ((s.setNode (512 + n) v.v1).putN (Obj.SN_VALUE1 n) v.v1).putN (Obj.SN_TIME n) (v.stamp % 2 ^ 64 : Nat)
        match v.v2 with
        | some x => (s.setNode (520 + n) x).putN (Obj.SN_VALUE2 n) x
        | none => s
    let st := c.accepted <<< 16 + c.nibble <<< 12 + min c.rejected 15 <<< 8 + b2n c.ready.isSome <<< 7 + b2n c.timeout <<< 6
    s.when (s.on (Obj.SN_ENABLE n)) fun s => (s.setNode (528 + n) st).putN (Obj.SN_STATUS n) st

/-- R202, R215: once per beat each channel reports the frames it rejected in it, and the count is cleared. [log 31 DEDUCED] -/
def State.sentBeat (s : State) : State :=
  let s := s.each 8 fun s n =>
    let c := vget s.sn n
    s.when (c.rejected != 0) (·.raise (Src.sn n) Kind.SENT_CRC c.why (some c.rejected))
  { s with sn := s.sn.map fun c => { c with rejected := 0, why := 0 } }

/-! ### Halls (R206, R207). -/

/-- R206: the sector of a code, 7 for an invalid one. -/
def hallSector (dir : Nat) (code : Nat) : Nat :=
  let s := match code with
    | 1 => 0 | 3 => 1 | 2 => 2 | 6 => 3 | 4 => 4 | 5 => 5 | _ => 7
  if s = 7 then 7 else if dir = 1 then 5 - s else s

/-- R206: electrical angle of the boundary below sector `k`. [log 7 DESIGN CHOICE] -/
def State.hallAngle (s : State) (a k : Nat) : Nat :=
  ((s.nat (Obj.HALL_OFFSET a) + Config.roundQuot (k * 2 ^ 32 : Nat) 6) % 2 ^ 32).toNat

/-- R206, R207: a filtered hall code change at a filter clock. Answers the edge's angle and time where it is valid. -/
def State.hallEdge (s : State) (a code clock : Nat) : State × Option (Nat × Nat) :=
  let h := vget s.hall a
  let dir := s.nat (Obj.HALL_DIR a)
  let old := s.nat (Obj.HALL_SECTOR a)
  let new := hallSector dir code
  let time := clock - s.nat (Obj.HALL_FILTER_N a) * s.nat (Obj.HALL_FILTER_DIV a)
  let s := s.putN (Obj.HALL_SECTOR a) new
  let s := { s with hall := vset s.hall a { h with code := code, badTicks := 0, badRaised := false } }
  if new = 7 ∨ old = 7 ∨ new = old then (s, none)
  else if new ≠ (old + 1) % 6 ∧ old ≠ (new + 1) % 6 then ({ s with hall := vmod s.hall a fun h => { h with disagreed := true } }.raise (Src.ax a) Kind.ANGLE_DISAGREE 4 (some code), none)
  else
    let back : Bool := new ≠ (old + 1) % 6
    let angle := s.hallAngle a (if back then new + 1 else new)
    let last := s.nat (Obj.HALL_EDGE_TIME a)
    let s := s.putN (Obj.HALL_EDGE_TIME a) (time % 2 ^ 64 : Nat)
    let s := { s with hall := vmod s.hall a fun h => { h with edge := some (angle, time), interval := some (time - last), back := back } }
    let s := s.when (s.nat (Obj.HALL_ALIGN_FB a) ≤ 11) fun s =>
      (s.putN (Obj.HALL_CAPT_COUNT a) (s.n (Obj.FB_COUNTER (s.nat (Obj.HALL_ALIGN_FB a))))).putN (Obj.HALL_CAPT_TIME a) (time % 2 ^ 64 : Nat)
    (s, some (angle, time))

/-- R206: the tick edges an invalid code has been held for. -/
def State.hallTick (s : State) : State :=
  s.each 6 fun s a =>
    let s := s.setNode (536 + a) (s.n (Obj.HALL_SECTOR a))
    { s with hall := vmod s.hall a fun h => { h with badTicks := if s.nat (Obj.HALL_SECTOR a) = 7 then h.badTicks + 1 else 0 } }

/-- HALL_INVALID_CODE (R206): an invalid code has been held for HALL_BAD_TICKS tick edges. -/
def runHallInvalidCode (a : Fin 6) (s : State) : Res :=
  let h := vget s.hall a
  if s.nat (Obj.HALL_BAD_TICKS a) ≤ h.badTicks ∧ !h.badRaised then
    .next ({ s with hall := vset s.hall a { h with badRaised := true, disagreed := true } }.raise (Src.ax a) Kind.ANGLE_DISAGREE 3 (some h.code))
  else .next s

/-! ### Observers (R208–R212). -/

/-- R208: what an observer's source gives at this tick edge: the source value and its age in 10 ns counts. -/
def State.obsSource (s : State) (o : Nat) : Option (Int × Nat) :=
  let src := s.nat (Obj.OB_SOURCE o)
  if src ≤ 11 then some (s.n (Obj.FB_COUNTER src), 0)
  else if 0x10 ≤ src ∧ src ≤ 0x1F then
    match (vget s.sn (src % 8)).ready with
    | none => none
    | some v => (if src < 0x18 then some v.v1 else v.v2).map fun x => ((x : Int), s.clk.now - v.stamp)
  else if 0x20 ≤ src ∧ src ≤ 0x25 then (vget s.hall (src - 0x20)).edge.map fun e => ((e.1 : Int), s.clk.now - e.2)
  else none

/-- R208: a sample is the source value scaled and reduced modulo 2^32. -/
def State.obsSample (s : State) (o : Nat) : Option (Int × Nat) :=
  (s.obsSource o).map fun v => (asr (v.1 * s.n (Obj.OB_SCALE_K o)) (s.nat (Obj.OB_SCALE_S o)) % 2 ^ 32, v.2)

/-- R209: one prediction and correction; `clocks` is the tick just ended. Answers the observer and e. [log 8 DESIGN CHOICE;
log 29 DEDUCED] -/
def obsUpdate (bw clocks : Nat) (x : Obs) (m : Option (Int × Nat)) : Obs × Int :=
  let t : Rat := (clocks : Rat) / 200000000
  let w : Rat := 2 * piQ * bw
  let spd : Rat := (x.spd : Rat) / 65536
  let acc : Rat := (x.acc : Rat) / 65536
  let pp : Rat := (x.pos : Rat) / 4294967296 + spd * t + acc * t * t / 2
  let sp : Rat := spd + acc * t
  let put (pos spd acc : Rat) : Obs :=
    { x with pos := (pos * 4294967296).floor % 2 ^ 64, spd := wrap64 (spd * 65536).floor, acc := wrap64 (acc * 65536).floor }
  match m with
  | none => (put pp sp acc, 0)
  | some (v, age) =>
    let e := wrap32 ((v : Rat) - (pp - sp * ((age : Rat) / 100000000))).floor
    let er : Rat := e
    (put (pp + 3 * w * t * er) (sp + 3 * w * w * t * er) (acc + w * w * w * t * er), e)

/-- R215: the status word of an observer. -/
def Obs.status (x : Obs) (init : Bool) : Nat :=
  x.samples <<< 16 + b2n x.disagree <<< 5 + b2n x.coast <<< 4 + b2n x.lost <<< 3 + b2n x.valid <<< 2 + b2n init <<< 1

/-- R211: what a sample with innovation e does to the observer's state; whether it raises OBS_LOST with qualifier 0x1. [log
240 DESIGN CHOICE] -/
def obsJudge (bound lostM regain settle : Nat) (x : Obs) (e : Int) : Obs × Bool :=
  let n := x.settle + 1
  let x := { x with samples := (x.samples + 1) % 65536, settle := n, coast := false, coastTicks := 0, coastLost := false, lastE := e }
  if !x.valid then ({ x with valid := settle ≤ n }, false)
  else if bound < e.natAbs then
    let k := x.beyond + 1
    ({ x with beyond := k, within := 0, lost := x.lost || lostM ≤ k }, !x.lost && lostM ≤ k)
  else
    let k := x.within + 1
    ({ x with beyond := 0, within := k, lost := x.lost && k < regain }, false)

/-- R209, R211: one observer at a tick edge; `clocks` is the tick just ended. -/
def State.obsTick (s : State) (o clocks : Nat) : State :=
  if s.nat (Obj.OB_SOURCE o) = 0xFF then s
  else
    let x := vget s.ob o
    let m := s.obsSample o
    let first := !x.started && m.isSome
    let (y, e, raise1) :=
      match m with
      | some (v, _) =>
        if first then
          let n := obsJudge (s.nat (Obj.OB_BOUND o)) (s.nat (Obj.OB_LOST_M o)) (s.nat (Obj.OB_REGAIN o)) (s.nat (Obj.OB_SETTLE o))
            { x with started := true, pos := v * 2 ^ 32, spd := 0, acc := 0 } 0
          (n.1, 0, n.2)
        else
          let u := obsUpdate (s.nat (Obj.OB_BW o)) clocks x m
          let n := obsJudge (s.nat (Obj.OB_BOUND o)) (s.nat (Obj.OB_LOST_M o)) (s.nat (Obj.OB_REGAIN o)) (s.nat (Obj.OB_SETTLE o)) u.1 u.2
          (n.1, u.2, n.2)
      | none => if x.started then ((obsUpdate (s.nat (Obj.OB_BW o)) clocks x none).1, 0, false) else (x, 0, false)
    let coastLost := m.isNone && y.valid && y.coast && s.nat (Obj.OB_LOST_M o) ≤ y.coastTicks + 1 && !y.coastLost
    let y := if m.isNone && y.coast then { y with coastTicks := y.coastTicks + 1 } else y
    let y := if coastLost then { y with lost := true, coastLost := true, within := 0 } else y
    let s := { s with ob := vset s.ob o y }
    let s := (s.setNode (544 + o) (y.pos / 2 ^ 32)).putN (Obj.OB_POSITION o) (y.pos / 2 ^ 32 % 2 ^ 32)
    let spd := sat32 (asr y.spd (16 + s.nat (Obj.OB_SPEED_SHIFT o)))
    let acc := sat32 (asr y.acc (16 + s.nat (Obj.OB_ACC_SHIFT o)))
    let s := (s.setNode (560 + o) spd).putN (Obj.OB_SPEED o) spd
    let s := (s.setNode (576 + o) acc).putN (Obj.OB_ACC o) acc
    let s := (s.setNode (592 + o) e).putN (Obj.OB_INNOVATION o) e
    let s := s.when raise1 (·.raise (Src.ob o) Kind.OBS_LOST 1 (some e))
    s.when coastLost (·.raise (Src.ob o) Kind.OBS_LOST 2 (some y.lastE))

/-- R212: the check of one observer against another at a tick edge. [log 240 DESIGN CHOICE] -/
def State.obsCheck (s : State) (o : Nat) : State :=
  let k := s.nat (Obj.OB_CHECK_SRC o)
  let x := vget s.ob o
  let y := vget s.ob k
  if k ≤ 11 ∧ x.valid ∧ y.valid then
    let c := wrap32 (x.pos / 2 ^ 32 * s.n (Obj.OB_MULT o) - y.pos / 2 ^ 32 * s.n (Obj.OB_MULT k))
    if s.nat (Obj.OB_CHECK_BOUND o) < c.natAbs then
      let n := x.checkTicks + 1
      let fires := s.nat (Obj.OB_CHECK_M o) ≤ n && !x.disagree
      let s := { s with ob := vset s.ob o { x with checkTicks := n, disagree := x.disagree || fires } }
      s.when fires (·.raise (Src.ob o) Kind.ANGLE_DISAGREE 1 (some c))
    else { s with ob := vset s.ob o { x with checkTicks := 0, disagree := false } }
  else s

/-- The status word of every observer reaches its node (R215). -/
def State.obsStatus (s : State) (o : Nat) : State :=
  let x := vget s.ob o
  let w := x.status (!x.valid)
  (s.setNode (608 + o) w).putN (Obj.OB_STATUS o) w

/-- OBSERVER_COAST (R211): a SENT source has given no sample for OB_COAST_MAX. -/
def runObserverCoast (o : Fin 12) (s : State) : Res :=
  let src := s.nat (Obj.OB_SOURCE o)
  let x := vget s.ob o
  if 0x10 ≤ src ∧ src ≤ 0x1F ∧ x.valid ∧ s.nat (Obj.OB_COAST_MAX o) ≠ 0 ∧ !x.coast then
    .next ({ s with ob := vset s.ob o { x with coast := true, coastTicks := 0, coastLost := false } }.obsStatus o)
  else .next s

/-- R211: a write of 0x49 to OB_COMMAND reinitialises the observer. -/
def State.obsInit (s : State) (o : Nat) : State :=
  { s with ob := vset s.ob o { samples := (vget s.ob o).samples } }.obsStatus o

/-- R188, R199, R214: the channels' nodes at a tick edge. -/
def State.fbTick (s : State) : State :=
  s.each 12 fun s n =>
    let s := (s.setNode (448 + n) (s.n (Obj.FB_COUNTER n))).setNode (464 + n) (s.n (Obj.FB_STATUS n))
    let s := (s.setNode (480 + n) (s.n (Obj.LATCH_POSITION n))).setNode (496 + n) (s.n (Obj.LATCH_TIME n))
    let word := (List.range 4).foldl (fun w u =>
      w + b2n (s.bit (Obj.CMP_STATUS n u) 3) <<< (8 + u) + b2n (s.bit (Obj.CMP_STATUS n u) 0) <<< (4 + u)) (vget s.fb n).fired
    { s.setNode (896 + n) word with fb := vmod s.fb n fun f => { f with fired := 0 } }

/-- Every feedback node and observer at a tick edge, in the order in which one needs the other; `clocks` is the tick just
ended (R188, R204, R206, R209, R212). -/
def State.feedbackTick (s : State) (clocks : Nat) : State :=
  let s := (s.fbTick.sentTick).hallTick
  let s := s.each 12 fun s o => s.obsTick o clocks
  let s := s.each 12 fun s o => s.obsCheck o
  let s := s.each 12 fun s o => s.obsStatus o
  { s with sn := s.sn.map fun c => { c with ready := none }, hall := s.hall.map fun h => { h with edge := none } }

end Sys2Proof.Machine
end

