-- ==== Sys2Proof/Machine/Loop.lean ====
section
/-!
DEFINITION. Machine/Loop.lean: the loop engine (R221–R251): cell laws, execution order and overrun, admission of a table,
the reach of cells to outputs, and the trace channels.
-/
namespace Sys2Proof.Machine

/-! ### Arithmetic (R232). -/

/-- R232: K ⊗ x, and whether the reduction changed the value. -/
def mulK (k : Int × Nat) (x : Int) : Int × Bool :=
  let p := asr (x * k.1) k.2
  (wrap32 p, wrap32 p != p)
/-- A sum on a law's output path: its 32-bit value and whether it wrapped. -/
def sumK (l : List (Int × Bool)) : Int × Bool :=
  let t := l.foldl (fun a x => a + x.1) 0
  (wrap32 t, l.any (·.2) || wrap32 t != t)

/-! ### Cell laws (R235). -/

/-- What one execution of a law gives. -/
structure LawResult where
  y : Int
  s0 : Int
  s1 : Int
  ovf : Bool := false
  wrap : Bool := false
  held : Bool := false
  limited : Bool := false
  bounds : Bool := false
  deriving DecidableEq, Repr

/-- R235: the integrator step shared by PI and PID, with e the scaled error and D naming the hold input. -/
def integrate (r : CellRow) (s0 d e : Int) : Int × Bool × Bool × Bool :=
  if r.inD ≠ 0xFFFF ∧ d ≠ 0 then (s0, false, false, true)
  else
    let step := mulK r.k2 e
    (wrap32 (s0 + step.1), step.2, wrap32 (s0 + step.1) != s0 + step.1, false)

/-- The median of three numbers. -/
def median3 (a b c : Int) : Int := max (min a b) (min (max a b) c)

/-- R235: one execution of a cell's law on its input values and state words. -/
def cellLaw (r : CellRow) (a b c d s0 s1 : Int) : LawResult :=
  match r.law with
  | 1 =>
    let t := sumK [mulK r.k0 a, mulK r.k1 b, mulK r.k2 c, mulK r.k3 d]
    { y := t.1, s0 := s0, s1 := s1, ovf := t.2 }
  | 2 => { y := (mulK r.k0 a).1, s0 := s0, s1 := s1, ovf := (mulK r.k0 a).2 }
  | 3 =>
    let e := mulK r.k0 (wrap32 (a - b))
    let i := integrate r s0 d e.1
    let t := sumK [mulK r.k1 e.1, (i.1, false), mulK r.k3 c]
    { y := t.1, s0 := i.1, s1 := s1, ovf := e.2 || i.2.1 || t.2, wrap := i.2.2.1, held := i.2.2.2 }
  | 4 =>
    let e := mulK r.k0 (wrap32 (a - b))
    let i := integrate r s0 d e.1
    let src := if r.p2 = 0 then e.1 else wrap32 (-b)
    let t := sumK [mulK r.k1 e.1, (i.1, false), mulK r.k3 (wrap32 (src - s1)), (c, false)]
    { y := t.1, s0 := i.1, s1 := src, ovf := e.2 || i.2.1 || t.2, wrap := i.2.2.1, held := i.2.2.2 }
  | 5 =>
    let t := sumK [mulK r.k0 a, mulK r.k1 s1, mulK r.k2 s0, mulK r.k3 b]
    { y := t.1, s0 := t.1, s1 := a, ovf := t.2 }
  | 6 =>
    let lo := if r.inB = 0xFFFF then r.p0 else b
    let hi := if r.inC = 0xFFFF then r.p1 else c
    if hi < lo then { y := lo, s0 := s0, s1 := s1, limited := true, bounds := true }
    else { y := clamp lo hi a, s0 := s0, s1 := s1, limited := clamp lo hi a != a }
  | 7 =>
    let y := if r.p0 = 0 then (if c = 0 then a else b) else if r.p0 = 1 then max a b else if r.p0 = 2 then min a b
      else median3 a b c
    { y := y, s0 := s0, s1 := s1 }
  | 8 =>
    let d' := a - s0
    let y := wrap32 (s0 + min (max d' (-r.p1)) r.p0)
    { y := y, s0 := y, s1 := s1, limited := min (max d' (-r.p1)) r.p0 != d' }
  | _ =>
    let e := wrap32 (a - b)
    let y := if r.p0 < e then r.p1 else if e < -r.p0 then r.p2 else s0
    { y := y, s0 := y, s1 := s1 }

/-- R228: the cycles one due execution costs. -/
def lawCost (law : Nat) : Nat := [1, 38, 17, 44, 56, 40, 25, 22, 24, 22].getD law 1
/-- R223: is a row due at count c? -/
def rowDue (group phase c : Nat) : Bool := c % 2 ^ group == phase
/-- R223: the count of a tick. -/
def State.loopCount (s : State) : Nat := s.nat Obj.BEAT_NUMBER * s.nat Obj.TICKS_PER_BEAT + s.nat Obj.TICK_INDEX

/-- An input field's value: a named node, or 0 for none (R234). -/
def State.cellIn (s : State) (f : Nat) : Int := if f = 0xFFFF then 0 else s.node f
/-- R238, R241: does the cell feed an output whose arm signal stood at the edge of the present tick? -/
def State.feedsArmed (s : State) (c : Cell) : Bool := c.feeds &&& s.lp.armed != 0
/-- R225, R244: the global time of step 5 of the present tick: 2.0 µs before the edge that ends it. -/
def State.stepFive (s : State) : Nat := s.clk.now + s.clk.tickLen / 2 - 200

/-- R236: the solenoid whose window comparators a HYST cell drives, none where it drives none. -/
def hystOutput (r : CellRow) : Option Nat := if r.law = 9 ∧ 1184 ≤ r.out ∧ r.out ≤ 1199 then some (r.out - 1184) else none

/-- R224, R233–R237: one execution of cell n. -/
def State.cellRun (s : State) (n : Nat) : State :=
  let c := vget s.lp.cells n
  let r := c.row
  let s0 := c.pre0.getD c.s0
  let s1 := c.pre1.getD c.s1
  let a := s.cellIn r.inA
  match hystOutput r with
  | some m =>
    { s.setNode r.out a with
      lp.bands := vset s.lp.bands m r.p0
      lp.cells := vset s.lp.cells n { c with s0 := s0, s1 := s1, pre0 := none, pre1 := none, runs := (c.runs + 1) % 65536, last := ⟨n, a, 0, 0, 0, s0, s1, a⟩ } }
  | none =>
    let b := s.cellIn r.inB
    let c1 := s.cellIn r.inC
    let d := s.cellIn r.inD
    let x := cellLaw r a b c1 d s0 s1
    let s := if r.out = 0xFFFF then s else s.setNode r.out x.y
    let s := if r.law = 6 ∧ 0 ≤ r.p2 then s.setNode r.p2.toNat (b2n x.limited) else s
    let c' := { c with
      s0 := x.s0, s1 := x.s1, pre0 := none, pre1 := none, runs := (c.runs + 1) % 65536, held := x.held,
      limited := x.limited, bounds := x.bounds, ovf := c.ovf || x.ovf, wrap := c.wrap || x.wrap,
      wrapRaised := c.wrapRaised || x.wrap, last := ⟨n, a, b, c1, d, s0, s1, x.y⟩ }
    let s := { s with lp.cells := vset s.lp.cells n c' }
    s.when (x.wrap && !c.wrapRaised) (·.raiseAs (s.nat (if s.feedsArmed c then Obj.WRAP_CLASS_ARMED else Obj.WRAP_CLASS_IDLE))
      Src.loop Kind.LOOP_WRAP 1 (some n))

/-- A cell's progress through a window: the lane, the cycles used, and whether the window has closed. -/
structure WindowRun where
  lane : State
  used : Nat
  shut : Bool := false
/-- R228, R231, R489: the visit of one cell. Once a visit would outlast the window, no later cell executes; a cell whose
words read uncorrectable is skipped. -/
def WindowRun.visit (c cycles : Nat) (w : WindowRun) (n : Nat) : WindowRun :=
  let row := (vget w.lane.lp.cells n).row
  let due : Bool := row.law != 0 && rowDue row.group row.phase c
  let cost := if due then lawCost row.law else 1
  let skip : State := { w.lane with lp.skipped := w.lane.lp.skipped ++ [n] }
  if due && w.lane.lp.bad.contains n then { w with lane := skip }
  else if w.shut || decide (cycles < w.used + cost) then { w with shut := true, lane := if due then skip else w.lane }
  else { w with used := w.used + cost, lane := if due then w.lane.cellRun n else w.lane }
/-- R224, R228, R231, R489: the cell window of a tick: cells in ascending order while the window's cycles last. [log 23, 33
DESIGN CHOICE] -/
def State.cellWindow (s : State) (cycles stalls : Nat) : State :=
  if s.lp.running then
    let r := (List.range 256).foldl (WindowRun.visit s.loopCount cycles) { lane := { s with lp.skipped := [] }, used := 400 + 8 * stalls }
    let s := { r.lane with lp.bad := [] }.putN Obj.LOOP_LOAD_LAST r.used
    s.when (s.n Obj.LOOP_LOAD_PEAK < r.used) (·.putN Obj.LOOP_LOAD_PEAK r.used)
  else s

/-- R231: due cells not executed when the window closes. -/
def State.overrunJudge (s : State) : State :=
  match s.lp.skipped with
  | [] => s
  | first :: rest =>
    let l := first :: rest
    let armed := l.any fun n => s.feedsArmed (vget s.lp.cells n)
    let s := l.foldl (fun s n => { s with lp.cells := vmod s.lp.cells n fun c => { c with overrun := true } }) s
    let s := { s.count Obj.LOOP_OVERRUNS 32 with lp.skipped := [] }
    let detail : Int := (l.length % 65536) * 65536 + first
    if armed then s.raiseAs 3 Src.loop Kind.LOOP_OVERRUN 1 (some detail)
    else s.raise Src.loop Kind.LOOP_OVERRUN 2 (some detail)

/-- R233: LOOP_WRAP may be raised again in a new beat. -/
def State.loopBeat (s : State) : State := { s with lp.cells := s.lp.cells.map fun (c : Cell) => { c with wrapRaised := false } }

/-- R249: a cell's status word. -/
def State.cellStatus (s : State) (n : Nat) : Nat :=
  let c := vget s.lp.cells n
  c.runs <<< 16 + b2n (s.feedsArmed c) <<< 8 + b2n c.override <<< 7 + b2n c.held <<< 6 + b2n c.limited <<< 5 +
    b2n c.bounds <<< 4 + b2n c.overrun <<< 3 + b2n c.ovf <<< 2 + b2n c.wrap <<< 1 + b2n (c.row.law != 0)

/-- R249: a write of 0 to CELL_STATUS clears the sticky bits. -/
def State.cellStatusClear (s : State) (n : Nat) : State :=
  { s with lp.cells := vmod s.lp.cells n fun c => { c with overrun := false, ovf := false, wrap := false } }
/-- R237: a state word written, to be applied at the next execution. -/
def State.cellStateWrite (s : State) (n : Nat) (first : Bool) (v : Int) : State :=
  { s with lp.cells := vmod s.lp.cells n fun c => if first then { c with pre0 := some v } else { c with pre1 := some v } }

/-! ### The table: rows from entries, admission, reach. -/

/-- R248: the sealed row of cell n, read through `get`. -/
def rowFrom (get : Nat → Val) (n : Nat) : CellRow :=
  let num (k : Nat) : Nat := match get k with | .num v => v.toNat | _ => 0
  let int (k : Nat) : Int := match get k with | .num v => v | _ => 0
  let fx (k : Nat) : Int × Nat := match get k with | .fx v s => (v, s) | .num v => (v, 0) | _ => (0, 0)
  let ins := num (Obj.CELL_IN n)
  { law := num (Obj.CELL_LAW n), group := num (Obj.CELL_GROUP n), phase := num (Obj.CELL_PHASE n)
    inA := field ins 15 0, inB := field ins 31 16, inC := field ins 47 32, inD := field ins 63 48
    out := num (Obj.CELL_OUT n), k0 := fx (Obj.CELL_K n 0), k1 := fx (Obj.CELL_K n 1), k2 := fx (Obj.CELL_K n 2)
    k3 := fx (Obj.CELL_K n 3), p0 := int (Obj.CELL_P n 0), p1 := int (Obj.CELL_P n 1), p2 := int (Obj.CELL_P n 2) }

/-- R235: the flag node of a LIMIT cell, none where it names none. -/
def CellRow.flag (r : CellRow) : Option Nat := if r.law = 6 ∧ 0 ≤ r.p2 then some r.p2.toNat else none
/-- The output and flag nodes a cell writes. -/
def CellRow.writes (r : CellRow) : List Nat :=
  (if r.law = 0 ∨ r.out = 0xFFFF then [] else [r.out]) ++ r.flag.toList
/-- R230: the output and flag nodes a row names, whatever its law. -/
def CellRow.names (r : CellRow) : List Nat := (if r.out = 0xFFFF then [] else [r.out]) ++ r.flag.toList
/-- Is a node one a cell may write (R221)? -/
def cellNode (n : Nat) : Bool := 1024 ≤ n && n ≤ 3071

/-- R235: do a law's parameters keep its limits? [log 242 DESIGN CHOICE] -/
def CellRow.limitsOk (r : CellRow) : Bool :=
  match r.law with
  | 0 => r.out == 0xFFFF
  | 4 => r.p2 == 0 || r.p2 == 1
  | 6 => (r.inB != 0xFFFF || r.inC != 0xFFFF || decide (r.p0 ≤ r.p1)) && decide (-1 ≤ r.p2)
  | 7 => decide (0 ≤ r.p0 ∧ r.p0 ≤ 3)
  | 8 => decide (0 ≤ r.p0 ∧ 0 ≤ r.p1)
  | 9 => decide (0 ≤ r.p0)
  | l => decide (l ≤ 9)

/-- R230, check 1: the nodes a row names. -/
def CellRow.nodesOk (r : CellRow) : Bool :=
  [r.inA, r.inB, r.inC, r.inD].all (fun f => f ≤ 4095 || f == 0xFFFF) && (r.out == 0xFFFF || cellNode r.out) &&
    r.flag.all cellNode

/-- R228: the cost of a table in the ticks of count c, cell by cell. -/
def tickCosts (rows : List CellRow) (c : Nat) : List Nat :=
  rows.map fun r => if r.law ≠ 0 ∧ rowDue r.group r.phase c then lawCost r.law else 1
/-- R230: the worst tick cost and the lowest count that has it. -/
def worstTick (rows : List CellRow) : Nat × Nat :=
  (List.range 16).foldl (fun w c =>
    let k := 400 + (tickCosts rows c).foldl (· + ·) 0
    if w.1 < k then (k, c) else w) (0, 0)

/-- R28: the base tick length in actuator clocks. -/
def tickBase (beatUs ticks : Nat) : Nat := (beatUs * 200 / ticks) / 2 * 2
/-- R28: the number of ticks per beat lengthened by 2 clocks. -/
def tickLong (beatUs ticks : Nat) : Nat := (beatUs * 200 - ticks * tickBase beatUs ticks) / 2
/-- R229: the budget B. -/
def loopBudget (beatUs ticks : Nat) : Nat :=
  let base := tickBase beatUs ticks
  let tMin := 5 * (base - (base * 6 / 100) / 2 * 2)
  (tMin - 3000) * 2955 / 10000

/-- R230, check 5: the cell at which the worst tick's running cost exceeds the limit, none where it does not. -/
def costOver (rows : List CellRow) (beatUs ticks margin : Nat) : Option Nat :=
  let limit := loopBudget beatUs ticks * (100 - margin) / 100
  let w := worstTick rows
  if limit < w.1 then
    some (((List.range rows.length).find? fun i =>
      decide (limit < 400 + ((tickCosts rows w.2).take (i + 1)).foldl (· + ·) 0)).getD 0)
  else none
/-- R230: the first check a table fails and the cell it names, none where it passes. [log 192 DEDUCED] -/
def admitTable (rows : List CellRow) (beatUs ticks margin : Nat) : Option (Nat × Nat) :=
  let cell (p : CellRow → Bool) : Option Nat := rows.findIdx? p
  let all := rows.map CellRow.names
  let clash (i : Nat) : Bool :=
    (all.getD i []).any fun w => (List.range rows.length).any fun j => j != i && (all.getD j []).contains w
  match cell (fun r => !r.nodesOk) with
  | some i => some (1, i)
  | none =>
    match (List.range rows.length).find? clash with
    | some i => some (2, i)
    | none =>
      match cell (fun r => decide (2 ^ r.group ≤ r.phase)) with
      | some i => some (3, i)
      | none =>
        match cell (fun r => !r.limitsOk) with
        | some i => some (4, i)
        | none => (costOver rows beatUs ticks margin).map fun i => (5, i)

/-- R238, R269, R317, R322: the output whose unit reads a command node, as its bit among the arm signals. -/
def outputBit (node : Nat) : Option Nat :=
  if 1024 ≤ node ∧ node ≤ 1119 then
    (if [1, 2, 5, 6].contains ((node - 1024) % 16) then some ((node - 1024) / 16) else none)
  else if 1152 ≤ node ∧ node ≤ 1183 then (if (node - 1152) % 8 = 0 then some (6 + (node - 1152) / 8) else none)
  else if 1184 ≤ node ∧ node ≤ 1199 then some (10 + (node - 1184))
  else none

/-- R238: the outputs each cell feeds, by repeated steps along chains of cells. -/
def cellReach (rows : List CellRow) : List Nat :=
  let start := rows.map fun r => r.writes.foldl (fun m w => match outputBit w with | some b => m ||| 2 ^ b | none => m) 0
  let step (reach : List Nat) : List Nat :=
    rows.zipIdx.map fun (r, i) =>
      (rows.zipIdx.foldl (fun m (q, j) =>
        if q.law ≠ 0 ∧ r.writes.any (fun w => [q.inA, q.inB, q.inC, q.inD].contains w) then m ||| reach.getD j 0 else m)
        (reach.getD i 0))
  (List.range (rows.filter (fun r => r.law != 0)).length).foldl (fun reach _ => step reach) start

/-- R234, R235, R238, R247: a table becomes the running one at a start. -/
def State.loadTable (s : State) (rows : List CellRow) (override : Nat → Bool) : State :=
  let reach := cellReach rows
  let cells : Vector Cell 256 := Vector.ofFn fun i =>
    let r := rows.getD i.val {}
    { row := r, s0 := if r.law = 9 then r.p2 else 0, override := override i.val, feeds := reach.getD i.val 0 }
  let s := { s with lp.cells := cells, lp.running := true, lp.skipped := [] }
  let s := s.putN Obj.CELLS_ACTIVE (rows.filter (fun r => r.law != 0)).length
  let s := s.putN Obj.LOOP_LOAD_WORST (worstTick rows).1
  s.putN Obj.LOOP_BUDGET (loopBudget (s.nat Obj.BEAT_LENGTH) (s.nat Obj.TICKS_PER_BEAT))

/-! ### Trace (R242–R245). -/

/-- R242, R243, R251: the samples dropped in the beat are reported; settings written since take effect at a beat boundary,
and the first sample after a change carries a gap mark. [log 31 DEDUCED] -/
def State.traceBeat (s : State) : State :=
  let s := s.when (s.lp.dropped != 0) (·.raise Src.loop Kind.TRACE_OVERFLOW 1 (some s.lp.dropped))
  let s := { s with lp.dropped := 0 }
  s.each 32 fun s c =>
    let t := vget s.lp.trace c
    let n := s.nat (Obj.TRACE_NODE c)
    let g := s.nat (Obj.TRACE_GROUP c)
    let p := s.nat (Obj.TRACE_PHASE c)
    let d := s.nat (Obj.TRACE_DECIM c)
    let e := s.nat (Obj.TRACE_DEST c)
    if t.node = n ∧ t.group = g ∧ t.phase = p ∧ t.decim = d ∧ t.dest = e then s
    else { s with lp.trace := vset s.lp.trace c { t with node := n, group := g, phase := p, decim := d, dest := e, gap := true, ticks := 0 } }

/-- R245: when every capture channel has stopped the capture freezes. -/
def State.traceSettle (s : State) : State :=
  let open' := (List.range 32).any fun c => (vget s.lp.trace c).dest.testBit 0 && !(vget s.lp.trace c).stopped
  s.when (s.nat Obj.TRACE_STATE == 2 && !open') (·.putN Obj.TRACE_STATE 3)

/-- R245: the capture is triggered by a cause at a time; a channel that takes no further samples stops at once. -/
def State.traceTrigger (s : State) (cause time : Nat) : State :=
  if s.nat Obj.TRACE_STATE = 1 then
    let s := ((s.putN Obj.TRACE_STATE 2).putN Obj.TRACE_TRIG_TIME (time % 2 ^ 64 : Nat)).putN Obj.TRACE_TRIG_CAUSE cause
    (s.each 32 fun s c => { s with lp.trace := vmod s.lp.trace c fun t =>
      { t with post := 0, stopped := t.stopped || (t.dest.testBit 0 && s.nat (Obj.TRACE_POST c) == 0) } }).traceSettle
  else s

/-- R244, R245: conditions are met: they trigger an armed capture, and one armed later in the tick. [log 244 DEDUCED] -/
def State.traceMeet (s : State) (mask time : Nat) : State :=
  if mask = 0 then s else { s with lp.met := s.lp.met.or (some (mask, time)) }.traceTrigger mask time

/-- R243: a sample meets the stream FIFO of 65,536 slots. -/
def State.fifoPut (s : State) (c : Nat) (v : Word) (dest : Nat) : State :=
  if !dest.testBit 1 && !dest.testBit 2 then s
  else if s.lp.fifo.length < 65536 then
    let t := vget s.lp.trace c
    { s with lp.fifo := s.lp.fifo ++ [⟨c, v, s.clk.now, s.beat32, s.nat Obj.TICK_INDEX, t.gap || s.lp.fifoGap, dest.testBit 1, dest.testBit 2⟩]
             lp.fifoGap := false
             lp.trace := vset s.lp.trace c { t with gap := false } }
  else
    { s.count Obj.TRACE_STREAM_DROPS 32 with
      lp.dropped := s.lp.dropped + 1
      lp.dropRow := s.lp.dropRow || dest.testBit 1
      lp.fifoGap := true
      sp.gap := s.sp.gap || dest.testBit 2 }

/-- R242–R245: one channel at the close of a cell window. -/
def State.traceSample (s : State) (count c : Nat) : State :=
  let t := vget s.lp.trace c
  if t.dest = 0 ∨ !rowDue t.group t.phase count then s
  else if t.ticks + 1 < t.decim then { s with lp.trace := vset s.lp.trace c { t with ticks := t.ticks + 1 } }
  else
    let v := s.nodeW t.node
    let st := s.nat Obj.TRACE_STATE
    let capt := t.dest.testBit 0 && !t.stopped && (st == 1 || st == 2)
    let len := s.nat (Obj.TRACE_LENGTH c)
    let ring := if capt then (t.ring ++ [v]).drop (t.ring.length + 1 - len) else t.ring
    let post := if capt && st == 2 then t.post + 1 else t.post
    let stop := t.stopped || (st == 2 && t.dest.testBit 0 && s.nat (Obj.TRACE_POST c) ≤ post)
    let s := { s with lp.trace := vset s.lp.trace c { t with ticks := 0, ring := ring, post := post, stopped := stop } }
    (s.count (Obj.TRACE_SAMPLES c) 32).fifoPut c v t.dest

/-- R244: is a node-compare condition met, with the previous and the present value of its node? -/
def nodeCompare (cond : Nat) (prev cur : Int) : Bool :=
  let level : Int := wrap32 (field cond 31 0)
  match field cond 59 56 with
  | 0 => decide (level < cur)
  | 1 => decide (cur < level)
  | 2 => cur == level
  | 3 => cur != level
  | 4 => decide (prev ≤ level ∧ level < cur)
  | 5 => decide (level ≤ prev ∧ cur < level)
  | 6 => (BitVec.ofInt 32 cur &&& BitVec.ofInt 32 level) != 0#32
  | _ => false

/-- R244: the conditions of a type that are met, as bits. -/
def State.traceMask (s : State) (met : Nat → Nat → Bool) : Nat :=
  (List.range 4).foldl (fun m i => if met i (s.nat (Obj.TRIG_COND i)) then m + 2 ^ i else m) 0

/-- R244: node compares at the close of a cell window. -/
def State.traceCompare (s : State) : State :=
  let node (c : Nat) : Nat := field c 55 44
  let mask := s.traceMask fun _ c =>
    field c 63 60 == 1 && nodeCompare c (Sparse.get nodeReset s.lp.before (node c)).toInt (s.node (node c))
  { s with lp.before := s.nodes }.traceMeet mask s.stepFive

/-- R244: a fault message taken by the collector may trigger. -/
def State.traceFault (s : State) (kind cls : Nat) : State :=
  let mask := s.traceMask fun _ c => field c 63 60 == 2 && field c 41 34 == kind && field c 33 32 ≤ cls
  s.traceMeet mask s.clk.now

/-- R244: this lane's LEAD_OUT has changed. -/
def State.traceCutIn (s : State) (taken : Bool) : State :=
  let mask := s.traceMask fun _ c => field c 63 60 == 3 && (field c 33 32 == 2 || field c 33 32 == (if taken then 0 else 1))
  s.traceMeet mask s.clk.now

/-- R245: TRACE_COMMAND 0x41; conditions already met in the tick trigger the capture at once. [log 244 DEDUCED] -/
def State.traceArm (s : State) : State :=
  let s := { s with lp.trace := s.lp.trace.map fun (t : TraceCh) => { t with ring := [], post := 0, stopped := false } }
  let s := (s.each 32 fun s c => s.putN (Obj.TRACE_SAMPLES c) 0).putN Obj.TRACE_STATE 1
  match s.lp.met with
  | some (mask, time) => s.traceTrigger mask time
  | none => s
/-- R245: TRACE_COMMAND 0x54 triggers an armed capture. -/
def State.traceForce (s : State) : State := s.traceTrigger 0x10 s.clk.now
/-- R245: TRACE_COMMAND 0x53 freezes the capture from any state. -/
def State.traceFreeze (s : State) : State := s.putN Obj.TRACE_STATE 3

end Sys2Proof.Machine
end

