-- ==== Sys2Proof/Machine/Axes.lean ====
section
/-!
DEFINITION. Machine/Axes.lean: tick lengths and dither (R28, R252, R253); axes, commutation and field (R254–R280): axis
states, active short circuit, the field-oriented datapath, flying start, angle sources, link guard, the back-EMF constant
and I²t.
-/
namespace Sys2Proof.Machine

/-! ### Tick lengths (R28, R252). -/

/-- R252: D, the largest even number of actuator clocks not above pct % of the base. -/
def ditherSpan (base pct : Nat) : Nat := (base * pct / 100) / 2 * 2
/-- R252: one step of the xorshift generator. -/
def xorshift (x : Word) : Word :=
  let x := x ^^^ (x <<< 13)
  let x := x ^^^ (x >>> 17)
  x ^^^ (x <<< 5)
/-- R252: the offsets of the ticks still to come: `r` ticks follow the present one, `sum` has been given out. -/
def ditherOffsets (d : Nat) : Nat → Int → Word → List Int
  | 0, _, _ => []
  | r + 1, sum, x =>
    let x := xorshift x
    let lo := max (-(d : Int)) (-sum - r * d)
    let hi := min (d : Int) (-sum + r * d)
    let o := lo + 2 * ((x.toNat : Int) % ((hi - lo) / 2 + 1))
    o :: ditherOffsets d r (sum + o) x
/-- R252: the seed of a beat's generator. -/
def ditherSeed (seed ordinal : Nat) : Word :=
  let x := BitVec.ofNat 32 (seed + ordinal * 0x9E3779B9)
  if x = 0#32 then 1#32 else x
/-- R28, R252: the lengths, in actuator clocks, of the ticks of the beat with an ordinal; `dither` off gives R227's. -/
def beatLengths (beatUs ticks pct seed ordinal : Nat) (dither : Bool) : List Nat :=
  let base := tickBase beatUs ticks
  let long := tickLong beatUs ticks
  let offs := if dither then ditherOffsets (ditherSpan base pct) ticks 0 (ditherSeed seed ordinal) else List.replicate ticks 0
  offs.zipIdx.map fun (o, i) => (((base + (if i < long then 2 else 0) : Nat) : Int) + o).toNat
/-- The tick lengths of the beat with an ordinal under this lane's settings (R227, R252). -/
def State.beatLens (s : State) (ordinal : Nat) : List Nat :=
  beatLengths (s.nat Obj.BEAT_LENGTH) (s.nat Obj.TICKS_PER_BEAT) (s.nat Obj.DITHER_PCT) (s.nat Obj.DITHER_SEED) ordinal s.clk.joined
/-- The length of the tick that follows the present one. -/
def State.followingLen (s : State) : Nat :=
  let i := s.nat Obj.TICK_INDEX
  if i + 1 < s.clk.lens.length then s.clk.lens.getD (i + 1) 0 else (s.beatLens (s.nat Obj.BEAT_NUMBER + 1)).headD 0

/-! ### Real arithmetic of the datapath. -/

/-- A quotient whose value with divisor 0 is open. [log 9 DESIGN CHOICE] -/
def ratio (x y : Rat) : Rat := if y = 0 then Config.byZero x else x / y
/-- A node or setting with shift 16 as a real number. -/
def real16 (x : Int) : Rat := (x : Rat) / 65536
/-- A real number with shift 16. [log 7 DESIGN CHOICE] -/
def fix16 (x : Rat) : Int := Config.fix (x * 65536)
/-- Sine and cosine of an electrical angle, 2^32 per revolution. -/
def sinOf (θ : Nat) : Rat := sine (θ % 2 ^ 32 / 65536)
def cosOf (θ : Nat) : Rat := cosine (θ % 2 ^ 32 / 65536)
/-- The length of a number of actuator clocks in seconds. -/
def secs (clocks : Nat) : Rat := (clocks : Rat) / 200000000
/-- An electrical angle moved by a speed in rad/s over a time in seconds. [log 8 DESIGN CHOICE] -/
def turnBy (θ : Nat) (ω t : Rat) : Nat := (((θ : Int) + Config.fix (ω * t * 4294967296 / (2 * piQ))) % 2 ^ 32).toNat

/-- Unit node k of axis n (R269). -/
def axU (n k : Nat) : Nat := 640 + 32 * n + k
/-- Command node k of axis n (R269). -/
def axC (n k : Nat) : Nat := 1024 + 16 * n + k
/-- Intermediate node k of axis n (R271). -/
def axM (n k : Nat) : Nat := 2048 + 32 * n + k

def State.axis (s : State) (n : Nat) : Axis := vget s.ax n
def State.axMod (s : State) (n : Nat) (f : Axis → Axis) : State := { s with ax := vmod s.ax n f }
/-- R259: the state code of an axis. -/
def State.axState (s : State) (n : Nat) : Nat := s.nat (Obj.AX_STATE n)
/-- A current setting of 0.1 A in A. -/
def amps (x : Nat) : Rat := (x : Rat) / 10
/-- AX_PSI in Wb, AX_R_WINDING in Ω, AX_L_D and AX_L_Q in H. -/
def State.axPsi (s : State) (n : Nat) : Rat := (s.nat (Obj.AX_PSI n) : Rat) / 1000000
def State.axR (s : State) (n : Nat) : Rat := (s.nat (Obj.AX_R_WINDING n) : Rat) / 1000000
def State.axLd (s : State) (n : Nat) : Rat := (s.nat (Obj.AX_L_D n) : Rat) / 1000000000
def State.axLq (s : State) (n : Nat) : Rat := (s.nat (Obj.AX_L_Q n) : Rat) / 1000000000

/-! ### Angle sources (R268, R273). -/

/-- The observer of an axis's first or second source, none for 0xFF. -/
def State.axSource (s : State) (n : Nat) (second : Bool) : Option Nat :=
  let o := s.nat (if second then Obj.AX_ANGLE_SRC2 n else Obj.AX_ANGLE_SRC1 n)
  if o ≤ 11 then some o else none
/-- R268: is this source an FB-sourced one aligned by halls? -/
def State.axAligned (s : State) (n o : Nat) (second : Bool) : Bool :=
  s.bit (Obj.AX_ALIGN n) (b2n second) && s.nat (Obj.OB_SOURCE o) ≤ 11
/-- R273: is a source valid? -/
def State.axSourceValid (s : State) (n : Nat) (second : Bool) : Bool :=
  match s.axSource n second with
  | none => false
  | some o =>
    let x := vget s.ob o
    x.valid && !x.lost && !x.coast && !x.disagree &&
      (!s.axAligned n o second || (vget (s.axis n).offsets (b2n second)).isSome)
/-- R273: is a source flagged at this tick edge? -/
def State.axFlagged (s : State) (n : Nat) (second : Bool) : Bool :=
  match s.axSource n second with
  | none => false
  | some o =>
    let x := vget s.ob o
    let src := s.nat (Obj.OB_SOURCE o)
    x.lost || x.disagree || (0x20 ≤ src && src ≤ 0x25 && (vget s.hall (src - 0x20)).disagreed) ||
      vget (s.axis n).misaligned (b2n second)
/-- R263: ωe of a source in rad/s, from the observer's internal speed. -/
def State.axOmegaOf (s : State) (n : Nat) (second : Bool) : Rat :=
  match s.axSource n second with
  | none => 0
  | some o => (((vget s.ob o).spd * s.n (Obj.OB_MULT o) : Int) : Rat) / 65536 * 2 * piQ / 4294967296
/-- R263, R268: θe of a source at the tick edge. -/
def State.axThetaOf (s : State) (n : Nat) (second : Bool) : Nat :=
  match s.axSource n second with
  | none => 0
  | some o =>
    let off := (vget (s.axis n).offsets (b2n second)).getD
      (s.nat (if second then Obj.AX_ANGLE_OFFSET2 n else Obj.AX_ANGLE_OFFSET1 n))
    (((vget s.ob o).pos / 2 ^ 32 * s.n (Obj.OB_MULT o) + off) % 2 ^ 32).toNat
/-- ωe and θe of the source in use. -/
def State.axOmega (s : State) (n : Nat) : Rat := s.axOmegaOf n (s.axis n).second
def State.axTheta (s : State) (n : Nat) : Nat := s.axThetaOf n (s.axis n).second

/-- R266: the speed estimate of an axis in rad/s. -/
def State.axSpeed (s : State) (n : Nat) : Rat :=
  let x := s.axis n
  if s.axSourceValid n x.second then s.axOmega n
  else if 3 ≤ s.axState n then x.turning
  else |real16 x.emf|

/-- R266: AX_ASC_SPEED from AX_ASC_MARGIN in mV and AX_PSI in µWb, (60 V − margin) ÷ (√3 × ψ), truncated. [log 41 DESIGN
CHOICE] -/
def ascSpeed (margin psi : Nat) : Nat := Nat.sqrt (((60000 - margin) * 1000) ^ 2 / (3 * psi ^ 2))

/-- R120: the rated speed of an axis in rad/s. -/
def State.axRated (s : State) (n : Nat) : Rat :=
  if s.nat (Obj.AX_SPEED_MAX n) = 0 then (s.nat (Obj.AX_ASC_SPEED n) : Rat) else real16 (s.n (Obj.AX_SPEED_MAX n))
/-- R120: is a speed below 1 % of the axis's rated speed? -/
def State.axAtRest (s : State) (n : Nat) (ω : Rat) : Bool := decide (100 * |ω| < s.axRated n)

/-! ### States, active short circuit and disarming (R259–R262, R265). -/

/-- R272: the status word of an axis. -/
def State.axStatusWord (s : State) (n : Nat) : Nat :=
  let x := s.axis n
  b2n x.keSettled <<< 12 + b2n (vget x.offsets 1).isSome <<< 11 + b2n (vget x.offsets 0).isSome <<< 10 +
    b2n x.second <<< 9 + b2n (s.bit Obj.LINK_STATUS 1) <<< 8 + b2n (vget x.limiting 0 || vget x.limiting 1) <<< 7 +
    b2n x.vlimited <<< 6 + b2n (decide (s.node (axU n 8) < 0)) <<< 5 + s.axState n
/-- An axis enters a state of R259. -/
def State.setAxState (s : State) (n code : Nat) : State :=
  let s := s.putN (Obj.AX_STATE n) code
  s.putN (Obj.AX_STATUS n) (s.axStatusWord n)

/-- R255: the peak gate current of a step, in 0.01 A. -/
def gateCurrent (step : Nat) : Nat := [5, 10, 15, 20, 25, 30, 40, 50, 60, 70, 80, 90, 100, 115, 130, 150].getD step 0
/-- An axis goes to DISARMED: gates off, no voltage, no flying start, no identification. Its gates turn off with AX_GATE_SINK,
or with AX_GATE_SOFT for a fault of the axis itself (R255, R261). [log 44 DEDUCED] -/
def State.axOffNow (s : State) (n : Nat) (soft : Bool := false) : State :=
  let sunk := gateCurrent (s.nat (if soft then Obj.AX_GATE_SOFT n else Obj.AX_GATE_SINK n))
  let s := s.setAxState n 0
  let s := s.axMod n fun x => { x with sunk := sunk, flying := 0, applied := (0, 0), coming := (0, 0), duty := [], vlimited := false, ident := none, slow := 0 }
  { s with ms.disarmedNow := vset s.ms.disarmedNow n true }

/-- R380: the chaperone's sector of an axis, 7 for an invalid code. -/
def State.chapSector (s : State) (n : Nat) : Nat := s.nat Obj.CHAP_HALL / 16 ^ n % 16
/-- R380: the chaperone's hall speed is valid. -/
def State.chapHallValid (s : State) (n : Nat) : Bool := s.chapSector n != 7 && (vget s.ch.hall n).edges == 2
/-- R17, R380: the chaperone's hall speed of an axis on its own clock of 16 MHz, in electrical rad/s. [log 8 DESIGN CHOICE;
log 62 DEDUCED] -/
def State.chapHallSpeed (s : State) (n : Nat) : Rat :=
  let h := vget s.ch.hall n
  ratio (piQ / 3 * 16000000) ((max h.interval (s.ch.clock - h.last) : Nat) : Rat)
/-- R266, R380: the threshold from the chaperone's own copies. -/
def State.ascThreshold (s : State) (n : Nat) : Nat := ascSpeed (s.nat (Obj.AX_ASC_MARGIN n)) (s.nat (Obj.AX_PSI n))
/-- R380: the chaperone grants active short circuit of an axis. -/
def State.ascMay (s : State) (n : Nat) : Bool :=
  s.on (Obj.AX_ASC_ENABLE n) &&
    !(s.chapHallValid n && decide (2 * s.chapHallSpeed n < (s.ascThreshold n : Rat)))

/-- R60, R260: the short-circuit state an axis that leaves ARMED enters, none where it goes to DISARMED; with VACT below 10 V
every gate is held off. -/
def State.ascChoice (s : State) (n : Nat) : Option Nat :=
  let x := s.axis n
  if !s.su.low.testBit 2 && s.on (Obj.AX_ASC_ENABLE n) && decide ((s.nat (Obj.AX_ASC_SPEED n) : Rat) ≤ |s.axSpeed n|) && s.ascMay n &&
      !(x.lowFault && x.highFault) then some (if x.lowFault then 4 else 3) else none

/-- R260, R261: an axis leaves ARMED for the cause with this qualifier of ASC_ENGAGED. [log 42 DESIGN CHOICE; log 44 DEDUCED] -/
def State.axLeave (s : State) (n qual : Nat) : State :=
  let speed := (min |s.axSpeed n| 65535).floor
  let choice := s.ascChoice n
  let s := s.axOffNow n (qual == 3)
  match choice with
  | some code =>
    let s := (s.setAxState n code).axMod n fun x => { x with turning := 0 }
    s.raise (Src.ax n) Kind.ASC_ENGAGED qual (some (speed * 65536 + code))
  | none => s

/-- R261: a fault of the axis itself disarms it. -/
def State.axFaultOff (s : State) (n : Nat) : State :=
  match s.axState n with
  | 2 => s.axLeave n 3
  | 1 => s.axOffNow n true
  | _ => s

/-- R258: a desaturation or shunt trip of a leg: reported in every conducting state, disarming only from ARMED. -/
def State.axTrip (s : State) (n leg qual : Nat) : State :=
  let st := s.axState n
  if 2 ≤ st then
    let s := s.raise (Src.ax n) Kind.AXIS_OVERCURRENT qual (some leg)
    if st = 2 then
      (s.axMod n fun x => { x with lowFault := x.lowFault || qual == 3, highFault := x.highFault || qual == 2 }).axFaultOff n
    else s
  else s

/-- R262: in active short circuit a fault of a gate of the side that carries the short moves the short to the other side, if
that has not faulted and the grant stands. -/
def State.ascMove (s : State) (n : Nat) (high : Bool) : State :=
  let st := s.axState n
  if (st = 4) = (high = true) then
    let x := s.axis n
    let other := if high then x.lowFault else x.highFault
    if !other && s.ascMay n then s.setAxState n (if high then 3 else 4) else s.axOffNow n true
  else s

/-- R257, R261, R262: a gate fault of a leg's high or low side. [log 40 DEDUCED] -/
def State.axGateFault (s : State) (n leg : Nat) (high : Bool) (qual : Nat) : State :=
  let s := s.raise (Src.ax n) Kind.GATE_FAULT qual (some (leg + 4 * b2n high : Nat))
  let mark (s : State) : State := s.axMod n fun x => { x with lowFault := x.lowFault || !high, highFault := x.highFault || high }
  match s.axState n with
  | 0 => s
  | 1 => s.axOffNow n true
  | 2 => (mark s).axFaultOff n
  | _ => (mark s).ascMove n high

/-- BOOTSTRAP_UNDERVOLTAGE (R254): a bootstrap below 8.0 V holds its high-side gate off, until it is above 8.0 V again
(`back`). [log 224 DESIGN CHOICE] -/
def runBootstrapUndervoltage (n : Fin 6) (b : BootLeg) (s : State) : Res :=
  if b.back then .next (s.axMod n fun x => { x with heldOff := if x.heldOff.testBit b.leg then x.heldOff - 2 ^ b.leg.val else x.heldOff })
  else .next ((s.axMod n fun x => { x with heldOff := x.heldOff ||| 2 ^ b.leg.val }).axGateFault n b.leg true 2)
/-- R254, R264: the clocks for which a leg's high-side gate is on at either end of the next tick. -/
def State.highClocks (s : State) (n leg : Nat) : Nat :=
  if (s.axis n).heldOff.testBit leg then 0 else (s.axis n).duty.getD leg 0

/-- GATE_STATE_MISMATCH (R257, R357): a gate's sensed state has differed from its command for AX_GATE_TIMEOUT; `on` says that
it is sensed on. [log 66 DEDUCED] -/
def runGateStateMismatch (n : Fin 6) (leg : Fin 3) (high on : Bool) (s : State) : Res :=
  .next ((s.axMod n fun x => { x with stuck := x.stuck || on }).axGateFault n leg high 1)

/-- R259, R267: the arm signal of an axis is granted; the flying start begins at the next tick edge. [log 40 DEDUCED] -/
def State.axGrant (s : State) (n : Nat) : State :=
  if s.on (Obj.AX_ENABLE n) then s.axMod n fun x => { x with granted := true, failed := false } else s
/-- R259–R261, R267, R279: the arm signal of an axis is deasserted. [log 42 DESIGN CHOICE] -/
def State.axWithdraw (s : State) (n : Nat) : State :=
  let s := s.axMod n fun x => { x with granted := false }
  match s.axState n with
  | 2 => s.axLeave n 2
  | 1 => s.axOffNow n
  | _ => s

/-! ### Hall alignment (R268). -/

/-- R268: a valid hall edge at an angle sets or checks the offset of one FB source. [log 38, 39 DEDUCED] -/
def State.axAlign (s : State) (n : Nat) (second : Bool) (angle : Nat) : State :=
  match s.axSource n second with
  | none => s
  | some o =>
    if s.axAligned n o second && s.nat (Obj.OB_SOURCE o) == s.nat (Obj.HALL_ALIGN_FB n) then
      let pos := asr (s.n (Obj.HALL_CAPT_COUNT n) * s.n (Obj.OB_SCALE_K o)) (s.nat (Obj.OB_SCALE_S o)) * s.n (Obj.OB_MULT o)
      match vget (s.axis n).offsets (b2n second) with
      | none => s.axMod n fun x => { x with offsets := vset x.offsets (b2n second) (some (((angle : Int) - pos) % 2 ^ 32).toNat) }
      | some off =>
        let d := wrap32 (pos + off - angle)
        if s.nat (Obj.AX_ALIGN_TOL n) < d.natAbs then
          (s.axMod n fun x => { x with misaligned := vset x.misaligned (b2n second) true }).raise (Src.ax n) Kind.ANGLE_DISAGREE 5 (some d)
        else s
    else s

/-! ### Flying start (R267) and source fallback (R273). -/

/-- R273, step 1: does a source pass as candidate? -/
def State.axCandidate (s : State) (n : Nat) (second : Bool) : Bool :=
  s.axSourceValid n second && !s.axFlagged n second &&
    decide (|s.axOmegaOf n second - real16 (s.axis n).emf| ≤ (s.nat (Obj.AX_FALLBACK_TOL n) : Rat))

/-- R267, R279: the source an arming takes at E0, none where none is valid. -/
def State.axPick (s : State) (n : Nat) : Option Bool :=
  if s.axFlagged n false then (if s.axCandidate n true then some true else none)
  else if s.axSourceValid n false then some false
  else if s.axSourceValid n true then some true else none

/-- R280, R271: the preset cells of an axis, those of its block in basic mode. -/
def State.axCell (s : State) (key n sub : Nat) : Nat := if s.nat Obj.LOOP_ALLOC_MODE = 0 then 16 * n + sub else s.nat key
/-- R267: a preset write of S0 under R237; 0xFFFF skips it. -/
def State.presetS0 (s : State) (cell : Nat) (v : Int) : State :=
  if cell = 0xFFFF then s else { s with lp.cells := vmod s.lp.cells cell fun c => { c with pre0 := some (wrap32 v) } }

/-- R263: feed-forward voltages in V at a speed, for currents in A. -/
def State.axFeed (s : State) (n : Nat) (ω id iq : Rat) : Rat × Rat :=
  (-ω * s.axLq n * iq, ω * (s.axPsi n + s.axLd n * id))

/-- R267, step 1 and 2: E0 of a granted axis. With no valid source the grant is returned: the keeper withdraws its request for
the axis and the arm signal deasserts. [log 245 DEDUCED] -/
def State.axE0 (s : State) (n : Nat) : State :=
  let s := s.axMod n fun x => { x with granted := false, lowFault := false, highFault := false }
  match s.axPick n with
  | none =>
    { s.axMod n fun x => { x with failed := true } with
      ch.armed := s.ch.armed &&& (2 ^ 32 - 1 - 2 ^ n), ch.request := s.ch.request &&& (2 ^ 32 - 1 - 2 ^ n) }.raise (Src.ax n) Kind.FLYING_START_FAIL 1
  | some second =>
    let s := s.axMod n fun x => { x with second := second, lostSource := false, flying := 1 }
    let ω := s.axOmega n
    let d := s.axCell (Obj.AX_PI_D_CELL n) n 1
    let q := s.axCell (Obj.AX_PI_Q_CELL n) n 3
    let ff := s.axFeed n ω 0 0
    let s := (s.setNode (axU n 10) (fix16 ff.1)).setNode (axU n 11) (fix16 ff.2)
    let c (cell : Nat) : Int :=
      let r := (vget s.lp.cells cell).row
      (mulK r.k3 (s.cellIn r.inC)).1
    let s := (s.presetS0 d (0 - c d)).presetS0 q (fix16 (ω * s.axPsi n) - c q)
    (s.presetS0 (s.axCell (Obj.AX_RATE_CELL n) n 7) (fix16 ω)).setAxState n 1

/-- R273, steps 1 to 3: a flagged source in use is replaced, or the axis leaves ARMED. The answer says whether the rotor is
lost, so that the lane gives up lead. -/
def State.axFallback (s : State) (n : Nat) : State × Bool :=
  let x := s.axis n
  if s.axState n = 2 ∧ s.axFlagged n x.second then
    if s.axCandidate n (!x.second) then (s.axMod n fun x => { x with second := !x.second, lostSource := true }, false)
    else (s.axLeave n 1, true)
  else (s, false)

/-- R267: what a tick edge does to an axis's flying start. -/
def State.axStart (s : State) (n : Nat) : State :=
  let x := s.axis n
  if x.granted && s.axState n == 0 then s.axE0 n
  else if x.flying = 1 ∧ s.axState n = 1 then (s.axMod n fun x => { x with flying := 2 }).setAxState n 2
  else if x.flying = 2 then s.axMod n fun x => { x with flying := 0 }
  else s

/-! ### I²t (R278). -/

/-- R278: rated and peak current in 0.1 A and peak time in ms of the motor's (0) and the bridge's (1) model. -/
def State.axModel (s : State) (n m : Nat) : Nat × Nat × Nat :=
  if m = 0 then (s.nat (Obj.AX_I_RATED n), s.nat (Obj.AX_I_PEAK n), s.nat (Obj.AX_I_PEAK_TIME n))
  else (s.nat (Obj.AX_BR_I_RATED n), s.nat (Obj.AX_BR_I_PEAK n), s.nat (Obj.AX_BR_PEAK_TIME n))
/-- R278: the budget of a model, in the units of Axis.heat. -/
def modelBudget (m : Nat × Nat × Nat) : Nat := (m.2.1 ^ 2 - m.1 ^ 2) * 65536 ^ 2 * (m.2.2 * 200000)
/-- R278: Ilim's goal in A: the lower Ip, and the Ir of every model that limits. -/
def State.axGoal (s : State) (n : Nat) : Rat :=
  let a := s.axModel n 0
  let b := s.axModel n 1
  let x := s.axis n
  let p (m : Nat × Nat × Nat) (lim : Bool) : Rat := amps (if lim then m.1 else m.2.1)
  min (p a (vget x.limiting 0)) (p b (vget x.limiting 1))
/-- R278: Ilim in A. -/
def State.axIlim (s : State) (n : Nat) : Rat :=
  match (s.axis n).ramp with
  | none => s.axGoal n
  | some (start, done) => start + (s.axGoal n - start) * (done : Rat) / ((s.nat (Obj.AX_I_RAMP_TIME n) * 200000 : Nat) : Rat)

/-- R278: one model at a tick of `clocks`, with the squared current in (A × 2^16)². -/
def State.axModelTick (s : State) (n m clocks : Nat) (sq : Int) : State :=
  let p := s.axModel n m
  let x := s.axis n
  let heat := (((vget x.heat m : Nat) : Int) + (100 * sq - (p.1 * 65536 : Nat) ^ 2) * clocks).toNat
  let budget := modelBudget p
  let was := vget x.limiting m
  let now := if was then decide (budget ≤ 2 * heat) else decide (budget ≤ heat)
  let present := s.axIlim n
  let s := s.axMod n fun x => { x with heat := vset x.heat m heat, limiting := vset x.limiting m now,
                                       ramp := if was = now then x.ramp else some (present, 0) }
  s.when (now && !was) (·.raise (Src.ax n) Kind.AXIS_I2T (m + 1))

/-- R278, R280: the higher model level, 65,536 for the budget. [log 36 DEDUCED] -/
def State.axHeatLevel (s : State) (n : Nat) : Int :=
  let lvl (m : Nat) : Int := Config.fix (ratio (65536 * ((vget (s.axis n).heat m : Nat) : Rat)) (modelBudget (s.axModel n m) : Rat))
  max (lvl 0) (lvl 1)

/-- R278: both models and Ilim at a tick edge. [log 36 DEDUCED] -/
def State.axHeat (s : State) (n clocks : Nat) : State :=
  let id := s.node (axU n 2)
  let iq := s.node (axU n 3)
  let sq := id * id + iq * iq
  let s := s.axMod n fun x => { x with ramp := match x.ramp with
    | some (a, d) => if s.nat (Obj.AX_I_RAMP_TIME n) * 200000 ≤ d + clocks then none else some (a, d + clocks)
    | none => none }
  let s := (s.axModelTick n 0 clocks sq).axModelTick n 1 clocks sq
  let level := s.axHeatLevel n
  ((s.setNode (axU n 15) level).putN (Obj.AX_I2T_LEVEL n) (clamp 0 65535 level)).setNode (axU n 16) (fix16 (s.axIlim n))

/-! ### Link guard and dump (R274, R275). -/

/-- R274: the regenerative allowance in A for a current limit and VACT in mV. [log 45 DEDUCED] -/
def State.regenAllowance (s : State) (ilim vact : Rat) : Rat :=
  let guard : Rat := s.nat Obj.VACT_GUARD
  let band : Rat := s.nat Obj.LINK_BAND
  if s.bit Obj.LINK_STATUS 1 ∨ guard ≤ vact then 0
  else if vact < guard - band then ilim else ilim * ratio (guard - vact) band

/-- R275: DUMP is driven by the guard levels, unless it is forced off, not in use, or the lane is in DOZE or PARKED;
`ov` says that VACT is above its over-voltage level. -/
def State.dumpJudge (s : State) (ov : Bool) : State :=
  let v := s.link.vact
  let g := s.nat Obj.VACT_GUARD
  let was := s.bit Obj.LINK_STATUS 2
  let may := s.on Obj.DUMP_ENABLE && !s.link.forced && s.pw.sleep == 0
  s.putBit Obj.LINK_STATUS 2 (may && (ov || g < v || (was && g ≤ v + s.nat Obj.DUMP_HYST)))

/-- Is VACT above its over-voltage level (R60, SUPPLY_FLAGS)? -/
def State.vactOver (s : State) : Bool := s.bit Obj.SUPPLY_FLAGS 10

/-- R274, R275: LINK_STATUS by VACT as the link comparators have it. -/
def State.linkJudge (s : State) : State :=
  let v := s.link.vact
  let g := s.nat Obj.VACT_GUARD
  ((s.putBit Obj.LINK_STATUS 1 (g < v)).putBit Obj.LINK_STATUS 0 (v ≤ g ∧ g ≤ v + s.nat Obj.LINK_BAND)).dumpJudge s.vactOver
/-- LINK_GUARD_CROSSING (R274, R275): the link comparators place VACT anew, in mV. -/
def runLinkGuardCrossing (mv : Nat) (s : State) : Res := .next { s with link.vact := mv }.linkJudge

/-- DUMP_MAX_ON_EXPIRY (R275): DUMP has been on for DUMP_MAX_ON and is forced off. -/
def runDumpMaxOnExpiry (s : State) : Res :=
  if s.bit Obj.LINK_STATUS 2 then
    let s := { s.putBit Obj.LINK_STATUS 2 false with link.forced := true }
    .next (s.raise Src.supply Kind.VACT_OV 2 (some (s.n Obj.VACT_MV)))
  else .next s

/-- DUMP_FORCED_OFF_END (R275): DUMP may be driven again. -/
def runDumpForcedOffEnd (s : State) : Res :=
  if s.link.forced then
    let s := { s with link.forced := false }
    .next (s.dumpJudge s.vactOver)
  else .next s

/-! ### Back-EMF constant (R276, R277). -/

/-- R277: ψ's check against AX_PSI, by the estimate's qualifier of KE_LOW. [log 43 DEDUCED] -/
def State.keCheck (s : State) (n qual : Nat) : State :=
  let x := s.axis n
  let ref := s.axPsi n
  if !x.keSettled then s
  else if !x.keChecked && decide ((s.nat (Obj.AX_KE_MISMATCH_PCT n) : Rat) * ref < 100 * |x.psi - ref|) then
    (s.axMod n fun x => { x with keChecked := true }).raise (Src.ax n) Kind.KE_MISMATCH 1
  else
    let low := !x.keLow && decide (100 * x.psi < (100 - (s.nat (Obj.AX_KE_LOW_PCT n) : Rat)) * ref)
    let s := s.axMod n fun x => { x with keChecked := true, keLow := x.keLow || low }
    s.when low (·.raise (Src.ax n) Kind.KE_LOW qual)

/-- R276: an estimate of ψ in Wb enters the filter. -/
def State.keEstimate (s : State) (n : Nat) (v : Rat) (dt : Rat) : State :=
  let tau : Rat := (s.nat (Obj.AX_KE_TAU n) : Rat) / 1000
  let s := s.axMod n fun x => { x with psi := lowPass x.psi v dt tau, keGap := 0, keSome := true }
  let v := Config.fix ((s.axis n).psi * 1000000)
  (s.setNode (axU n 14) v).putN (Obj.AX_KE_EST n) (clamp 0 4294967295 v)

/-- R276: a tick of continuous estimation, or of a gap in it. -/
def State.keTime (s : State) (n clocks : Nat) (qual : Nat) : State :=
  let tau := s.nat (Obj.AX_KE_TAU n) * 200000
  let s := s.axMod n fun x =>
    let gap := x.keGap + clocks
    if tau < gap ∨ !x.keSome then { x with keGap := gap, keRun := 0, keSettled := false }
    else { x with keGap := gap, keRun := x.keRun + clocks, keSettled := x.keSettled || decide (5 * tau ≤ x.keRun + clocks) }
  s.keCheck n qual

/-- R276: an armed axis above AX_EMF_MIN_SPEED estimates ψ at a tick; voltages in V, currents in A. -/
def State.keArmed (s : State) (n clocks : Nat) (ω vq id iq : Rat) : State :=
  let s := if s.axState n = 2 ∧ (s.nat (Obj.AX_EMF_MIN_SPEED n) : Rat) < |ω| then
      s.keEstimate n ((vq - s.axR n * iq - ω * s.axLd n * id) / ω) (secs clocks)
    else s
  s.keTime n clocks (if s.axState n = 2 then 1 else 2)

/-- R276: a disarmed axis's open-circuit comparator, the one at zero or the one at AX_EMF_THRESH, rises at global time
`at'`. -/
def State.emfCrossing (s : State) (n : Nat) (thresh : Bool) (at' : Nat) : State :=
  if s.axState n ≠ 0 then s
  else
    let ω := s.axOmega n
    let θ := turnBy (s.axTheta n) ω (((at' : Rat) - s.clk.now) / 100000000)
    if !thresh then s.axMod n fun x => { x with zeroAt := some θ }
    else
      match (s.axis n).zeroAt with
      | none => s
      | some θ0 =>
        let d := (θ + 2 ^ 32 - θ0) % 2 ^ 32
        let d := min d (2 ^ 32 - d)
        let s := s.axMod n fun x => { x with zeroAt := none }
        if 6 * d ≤ 2 ^ 32 then
          let volts : Rat := (s.nat (Obj.AX_EMF_THRESH n) : Rat) / 1000
          (s.keEstimate n (ratio volts (root3 * |ω| * sinOf d)) (secs (s.axis n).keGap)).keCheck n 2
        else s

/-- R277: a write of 0x52 to AX_IDENTIFY. -/
def State.axIdentify (s : State) (n : Nat) : Except AbortCode State :=
  if s.nat Obj.SESSION_CURRENT ≠ 3 then .error 0x06030001
  else if s.axState n = 2 && s.axAtRest n (s.axSpeed n) then
    .ok (s.axMod n fun x => { x with ident := some 0, identSum := 0, identTicks := 0 })
  else .error 0x06060002

/-- AX_IDENTIFY_COMPLETE (R277): 300 ms after its start the identification gives AX_R_MEAS. -/
def runAxIdentifyComplete (n : Fin 6) (s : State) : Res :=
  let x := s.axis n
  match x.ident with
  | none => .next s
  | some _ =>
    let r := ratio x.identSum (x.identTicks : Rat)
    let ref := s.axR n
    let s := (s.axMod n fun x => { x with ident := none }).putN (Obj.AX_R_MEAS n) (clamp 0 4294967295 (Config.fix (r * 1000000)))
    .next (s.when (decide ((s.nat (Obj.AX_KE_MISMATCH_PCT n) : Rat) * ref < 100 * |r - ref|)) (·.raise (Src.ax n) Kind.KE_MISMATCH 2))

/-- KE_TREND_APPEND (R277): a row of global time and filtered ψ enters AX_KE_TREND, at most 64 rows. -/
def runKeTrendAppend (n : Fin 6) (s : State) : Res :=
  let row := le 8 s.stamp ++ le 4 (s.nat (Obj.AX_KE_EST n))
  let rows := rowsOf 12 (s.oct (Obj.AX_KE_TREND n)) ++ [row]
  .next (s.put (Obj.AX_KE_TREND n) (.oct (rows.drop (rows.length - 64)).flatten))

/-! ### The datapath at a tick edge (R263, R265, R270) and after the cells (R264). -/

/-- R263, R265: currents, angle and speed of the tick that has ended, `clocks` long. [log 195 DESIGN CHOICE; log 245 DEDUCED] -/
def State.axTransform (s : State) (n clocks : Nat) : State :=
  let scale := s.fx (Obj.AX_I_SCALE n)
  let cur (x : Nat) : Int := (mulK scale (s.node (64 + 3 * n + x))).1
  let iα := cur 0
  let iβ := fix16 ((real16 (cur 0) + 2 * real16 (cur 1)) / root3)
  let ω := s.axOmega n
  let θm := turnBy (s.axTheta n) ω (-(secs clocks) / 2)
  let a := real16 iα
  let b := real16 iβ
  let id := fix16 (a * cosOf θm + b * sinOf θm)
  let iq := fix16 (-a * sinOf θm + b * cosOf θm)
  let x := s.axis n
  let vd := real16 x.applied.1
  let vq := real16 x.applied.2
  let d := real16 id
  let q := real16 iq
  let ff := if x.flying = 1 then s.axFeed n ω 0 0 else s.axFeed n ω d q
  let emf := fix16 (ratio (vq - s.axR n * q) (s.axPsi n + s.axLd n * d))
  let vact : Rat := (s.node 370 : Rat) * 80 / 8388608
  let vmax := fix16 (vact / root3 * (s.nat (Obj.AX_M_MAX n) : Rat) / 1000)
  let s := (((s.setNode (axU n 0) iα).setNode (axU n 1) iβ).setNode (axU n 2) id).setNode (axU n 3) iq
  let s := ((s.setNode (axU n 4) θm).setNode (axU n 5) (fix16 ω)).setNode (axU n 10) (fix16 ff.1)
  let s := ((s.setNode (axU n 11) (fix16 ff.2)).setNode (axU n 19) emf).setNode (axU n 20) (fix16 vact)
  let s := ((s.setNode (axU n 6) vmax).setNode (axU n 21) (-vmax)).setNode (axU n 22) ((s.n (Obj.AX_FW_THRESH n) * 65536) / 1000)
  let inUse := s.nat (if x.second then Obj.AX_ANGLE_SRC2 n else Obj.AX_ANGLE_SRC1 n)
  let s := s.setNode (axU n 23) (Config.sourceWord inUse x.second).toInt
  -- R265: the rotation of the current vector in active short circuit
  let small := decide ((iα * iα + iβ * iβ) * 1000000 < ((s.nat (Obj.AX_I_RATED n) * 65536 : Nat) : Int) ^ 2)
  let turning := if small then 0 else ratio (turned x.vector (iα, iβ)) (secs clocks)
  let below := decide (10 * |turning| < 9 * (s.nat (Obj.AX_ASC_SPEED n) : Rat))
  let s := s.axMod n fun x =>
    { x with vector := (iα, iβ), turning := turning
             emf := if s.axState n = 2 then emf else x.emf
             slow := if 3 ≤ s.axState n ∧ below ∧ x.wasSlow then x.slow + clocks else 0, wasSlow := decide (3 ≤ s.axState n ∧ below)
             braking := decide (vd * d + vq * q < 0) }
  -- R277: vd ÷ id over the last 200 ms of the identification
  let s := s.axMod n fun x => match x.ident with
    | none => x
    | some t =>
      if 20000000 ≤ t + clocks then { x with ident := some (t + clocks), identSum := x.identSum + ratio vd d, identTicks := x.identTicks + 1 }
      else { x with ident := some (t + clocks) }
  s.keArmed n clocks ω vq d q

/-- R270, R274, R277: the references of an axis. [log 37 DEDUCED] -/
def State.axReferences (s : State) (n : Nat) : State :=
  let x := s.axis n
  let ilim := s.axIlim n
  let vact := (s.node 370 : Rat) * 80000 / 8388608
  let allow := s.regenAllowance ilim vact
  let s := s.setNode (axU n 17) (fix16 allow)
  if x.flying ≠ 0 then
    (((s.setNode (axU n 8) 0).setNode (axU n 9) 0).setNode (axU n 12) 1).setNode (axU n 13) 1
  else
    let dDem := real16 (s.node (axC n 1))
    let qDem := real16 (s.node (axC n 2))
    let dMin := -(min (amps (s.nat (Obj.AX_ID_FW_MAX n))) ilim)
    let d := if dDem < dMin then dMin else if 0 < dDem then 0 else dDem
    let top := rootOf (ilim * ilim - d * d)
    let ω := s.node (axU n 5)
    let lo := if 0 < ω ∧ -allow > -top then -allow else -top
    let hi := if ω < 0 ∧ allow < top then allow else top
    let q := if qDem < lo then lo else if hi < qDem then hi else qDem
    let extra : Rat := if x.ident.isSome then amps (s.nat (Obj.AX_I_RATED n)) / 2 else 0
    (((s.setNode (axU n 8) (fix16 (d + extra))).setNode (axU n 9) (fix16 q)).setNode (axU n 12) (b2n (d != dDem))).setNode
      (axU n 13) (b2n (q != qDem))

/-- R371: a source that is flagged counts as flagged until it is valid again. -/
def State.axFlagKeep (s : State) (n : Nat) : State :=
  let new (second : Bool) : Bool := !s.axSourceValid n second && (s.axFlagged n second || vget (s.axis n).flagged (b2n second))
  s.axMod n fun x => { x with flagged := vset (vset x.flagged 0 (new false)) 1 (new true) }

/-- The pre-cell stage of every axis in use at a tick edge (R263–R278); `clocks` is the tick that has ended. The answer
names the first axis that has lost its rotor (R273). -/
def State.axesTick (s : State) (clocks : Nat) : State × Option Nat :=
  let one := fun (acc : State × Option Nat) (n : Nat) =>
    let s := acc.1
    if s.on (Obj.AX_ENABLE n) then
      let f := ((s.axFlagKeep n).axStart n).axFallback n
      let s := f.1.axTransform n clocks
      let s := ((s.axHeat n clocks).axReferences n).axMod n fun x => { x with applied := x.coming, misaligned := .replicate 2 false }
      let w := s.axStatusWord n
      ((s.setNode (axU n 18) w).putN (Obj.AX_STATUS n) w, if acc.2.isNone && f.2 then some n else acc.2)
    else acc
  let r := (List.range 6).foldl one (s, none)
  ({ r.1 with hall := r.1.hall.map fun (h : Hall) => { h with disagreed := false } }, r.2)

/-- R264: h of one leg with duty δ over a tick of `len` clocks and a least pulse in ns; `len` for a high side that conducts
through the whole tick. -/
def legOn (δ : Rat) (len minNs : Nat) : Nat :=
  let h := ((δ * 65536).floor * len / 131072).toNat
  if 10 * h < minNs then 0 else if 5 * (len - 2 * h) < minNs then len else h

/-- R264, R274: the post-cell stage of an armed axis: the voltages and duties of the tick that follows. -/
def State.axModulate (s : State) (n : Nat) : State :=
  let x := s.axis n
  let cut := s.bit Obj.LINK_STATUS 1 && x.braking && x.flying == 0
  let vd0 := if cut then s.node (axU n 10) else s.node (axC n 5)
  let vq0 := if cut then s.node (axU n 11) else s.node (axC n 6)
  let vmax := s.node (axU n 6)
  let above := decide (vmax * vmax < vd0 * vd0 + vq0 * vq0)
  let mag := rootOf (real16 vd0 * real16 vd0 + real16 vq0 * real16 vq0)
  let vd := if above then real16 vd0 * ratio (real16 vmax) mag else real16 vd0
  let vq := if above then real16 vq0 * ratio (real16 vmax) mag else real16 vq0
  let vact := real16 (s.node (axU n 20))
  let m := ratio mag (vact / root3)
  let len := s.followingLen
  let θo := turnBy (s.axTheta n) (s.axOmega n) (secs s.clk.tickLen + secs len / 2)
  let vα := vd * cosOf θo - vq * sinOf θo
  let vβ := vd * sinOf θo + vq * cosOf θo
  let va := vα
  let vb := -vα / 2 + vβ * root3 / 2
  let vc := -vα / 2 - vβ * root3 / 2
  let v0 := -(max (max va vb) vc + min (min va vb) vc) / 2
  let leg (v : Rat) : Nat := legOn (1 / 2 + ratio (v + v0) vact) len (s.nat (Obj.AX_MIN_PULSE n))
  let s := s.setNode (axU n 7) (fix16 m)
  s.axMod n fun x => { x with coming := (fix16 vd, fix16 vq), vlimited := above, duty := [leg va, leg vb, leg vc] }

/-- R225, step 6: the post-cell stage of the axes that will conduct in the next tick. -/
def State.axesPost (s : State) : State :=
  s.each 6 fun s n => s.when (s.on (Obj.AX_ENABLE n) && (s.axState n == 1 || s.axState n == 2)) (·.axModulate n)

/-- R266, R268, R276, R277: what a start sets anew. -/
def State.axesInit (s : State) : State :=
  s.each 6 fun s n =>
    let s := if 3 ≤ s.axState n then s else { s with ax := vset s.ax n {} }
    s.putN (Obj.AX_ASC_SPEED n) (ascSpeed (s.nat (Obj.AX_ASC_MARGIN n)) (s.nat (Obj.AX_PSI n)))

/-! ### Basic allocation (R271). -/

/-- π, to forty places: coefficients are rounded from it to at most 17 bits. [log 46 DEDUCED] -/
def piDigits : Rat := 31415926535897932384626433832795028841972 / 10000000000000000000000000000000000000000
/-- Round a real number to the nearest integer. -/
def nearest (x : Rat) : Int := (x + 1 / 2).floor
/-- R271: the FX32 of a derived coefficient: the largest shift, at most 31, that keeps |k| below 2^16, else shift 0. [log 46
DEDUCED] -/
def fxOf (x : Rat) : Int × Nat :=
  match (List.range 32).reverse.find? fun sh => (nearest (x * 2 ^ sh)).natAbs < 65536 with
  | some sh => (nearest (x * 2 ^ sh), sh)
  | none => (nearest x, 0)

/-- The settings a basic allocation is built from, read through `get`. -/
def getNat (get : Nat → Val) (k : Nat) : Nat := match get k with | .num v => v.toNat | _ => 0
def getFx (get : Nat → Val) (k : Nat) : Int × Nat := match get k with | .fx v s => (v, s) | .num v => (v, 0) | _ => (0, 0)

/-- R271: the sixteen rows of axis n's block; `tick` is the nominal tick in seconds. [log 47 DESIGN CHOICE] -/
def axisRows (get : Nat → Val) (tick : Rat) (n : Nat) : List CellRow :=
  let num := getNat get
  let u := axU n
  let c := axC n
  let m := axM n
  let one : Int × Nat := (1, 0)
  let bw : Rat := 2 * piDigits * num (Obj.AX_I_BW n)
  let pi' (ref meas ff hold out : Nat) (l : Nat) : CellRow :=
    { law := 3, inA := ref, inB := meas, inC := ff, inD := hold, out := out, k0 := one
      k1 := fxOf (bw * (l : Rat) / 1000000000), k2 := fxOf (bw * ((num (Obj.AX_R_WINDING n) : Rat) / 1000000) * tick), k3 := one }
  let limit (inp out flag : Nat) : CellRow :=
    { law := 6, inA := inp, inB := u 21, inC := u 6, out := out, p2 := flag }
  let off (b : Bool) (r : CellRow) : CellRow := if b then {} else r
  let noPos := num (Obj.AX_POS_SETPOINT n) = 0xFFFF || num (Obj.AX_POS_SRC n) = 0xFF
  let acc : Int := nearest ((num (Obj.AX_ACCEL_MAX n) : Rat) * 2 * tick)
  let vmax : Int := num (Obj.AX_SPEED_MAX n)
  let rows : List CellRow :=
    [ { law := 1, inA := m 3, out := c 2, k0 := one },
      pi' (u 8) (u 2) (u 10) (m 11) (m 4) (num (Obj.AX_L_D n)),
      limit (m 4) (c 5) (m 11),
      pi' (u 9) (u 3) (u 11) (m 12) (m 5) (num (Obj.AX_L_Q n)),
      limit (m 5) (c 6) (m 12),
      off (num (Obj.AX_ID_FW_MAX n) = 0)
        { law := 3, inA := u 22, inB := u 7, inD := u 12, out := c 1, k0 := one, k2 := getFx get (Obj.AX_FW_KI n) },
      { law := 3, group := 1, phase := 1, inA := m 2, inB := u 5, inD := u 13, out := m 3, k0 := one,
        k1 := getFx get (Obj.AX_SPEED_KP n), k2 := getFx get (Obj.AX_SPEED_KI n) },
      { law := 8, group := 1, phase := 1, inA := m 1, out := m 2, p0 := acc, p1 := acc },
      off noPos { law := 4, group := 2, phase := 2, inA := num (Obj.AX_POS_SETPOINT n), inB := 544 + num (Obj.AX_POS_SRC n),
                  out := m 0, k0 := one, k1 := getFx get (Obj.AX_POS_KP n), k3 := getFx get (Obj.AX_POS_KD n), p2 := 1 },
      off noPos { law := 6, group := 2, phase := 2, inA := m 0, out := m 1, p0 := -vmax, p1 := vmax, p2 := -1 } ]
  (if num (Obj.AX_ENABLE n) = 0 then List.replicate 16 ({} : CellRow) else rows ++ List.replicate 6 ({} : CellRow))

/-- R271: does a derived coefficient of a row leave the signed 32-bit range? -/
def CellRow.overflows (r : CellRow) : Bool :=
  [r.k0, r.k1, r.k2, r.k3].any fun k => k.1 < -2147483648 || 2147483647 < k.1

/-- R225, steps 5 and 6: the window of the tick closes: skipped cells are judged, channels sample, conditions are evaluated, and
then the inverse transforms and the modulation read the command nodes. -/
def State.windowClose (s : State) : State :=
  let s := { s.overrunJudge with clk.windowOpen := false }
  let c := s.loopCount
  let s := if s.bit Obj.INIT_STATUS 7 then (s.each 32 fun s i => s.traceSample c i).traceSettle else s
  s.traceCompare.axesPost
/-- CELL_WINDOW_CLOSE (R225, R231, R242–R245): the cell window of the tick in progress closes, once in a tick. -/
def runCellWindowClose (s : State) : Res := .next (s.when s.clk.windowOpen (·.windowClose))

end Sys2Proof.Machine
end

