-- ==== Sys2Proof/Machine/Operands.lean ====
section
/-!
DEFINITION. Machine/Operands.lean: the check sequences of the manual and the byte layouts of the messages that commands
carry.
-/
namespace Sys2Proof.Machine

/-- R147: one bit of the reflected CRC-32C. -/
def crc32cBit (c : Nat) : Nat := if c % 2 = 1 then (c / 2) ^^^ 0x82F63B78 else c / 2
/-- R147: one byte of the reflected CRC-32C. -/
def crc32cByte (c b : Nat) : Nat := (List.range 8).foldl (fun c _ => crc32cBit c) (c ^^^ b)
/-- R147: CRC-32C of a byte string. -/
def crc32c (bs : List Byte) : Nat := bs.foldl (fun c b => crc32cByte c b.toNat) 0xFFFFFFFF ^^^ 0xFFFFFFFF

/-- R377: one bit of the CRC-16. -/
def crc16Bit (c : Nat) : Nat := if 0x8000 ≤ c then (c * 2 % 0x10000) ^^^ 0x1021 else c * 2
/-- R377: CRC-16 with polynomial 0x1021 and initial value 0xFFFF of a byte string. [log 232 DEDUCED] -/
def crc16 (bs : List Byte) : Nat := bs.foldl (fun c b => (List.range 8).foldl (fun c _ => crc16Bit c) (c ^^^ (b.toNat * 256))) 0xFFFF

/-- R360: the 16 bytes of a card message. -/
def cardBytes (c : Card) : List Byte :=
  le 1 c.type ++ le 1 c.reason ++ le 1 c.issuer ++ le 1 c.holder ++ le 4 c.number ++ le 8 c.expiry

/-- R411: one row of a schedule. -/
structure SchedRow where
  window : Nat
  type : Nat
  fd : Bool
  rep : Nat
  base : Nat
  owner : Nat
  length : Nat
  start : Nat
  deriving DecidableEq, Repr, Inhabited

/-- R411: the row a U64 spells. -/
def schedRow (w : Nat) : SchedRow :=
  { window := field w 63 59, type := field w 58 57, fd := w.testBit 56, rep := field w 55 53, base := field w 52 47,
    owner := field w 46 40, length := field w 39 28, start := field w 18 0 }
/-- R411: the rows of a schedule table. -/
def schedRows (b : List Byte) : List SchedRow := (rowsOf 8 b).map fun r => schedRow (leNat r)
/-- R412: the row's window is present in a beat of the reel. -/
def SchedRow.present (r : SchedRow) (beatInReel : Nat) : Bool := r.length != 0 && beatInReel % 2 ^ r.rep == r.base

/-! ### What the straps say (R65, R69). -/

/-- LANE_ID. -/
def State.laneNo (s : State) : Nat := s.nat Obj.STRAP_WORD % 4
/-- SET3: a three-lane set. -/
def State.threeLane (s : State) : Bool := s.bit Obj.STRAP_WORD 2
/-- CFG_SEAL: seal mode. -/
def State.sealMode (s : State) : Bool := s.bit Obj.STRAP_WORD 3
/-- UNIT. -/
def State.unitNo (s : State) : Nat := field (s.nat Obj.STRAP_WORD) 6 4
/-- FUNC. -/
def State.funcNo (s : State) : Nat := field (s.nat Obj.STRAP_WORD) 9 7
/-- SEAL_PROFILE. -/
def State.profileNo (s : State) : Nat := field (s.nat Obj.STRAP_WORD) 14 10
/-- MASTER_EN. -/
def State.masterEn (s : State) : Bool := s.bit Obj.STRAP_WORD 15
/-- R39: the lane wired to PEER1_LEAD_IN (0) or PEER2_LEAD_IN (1), 0 for none. -/
def State.peerLane (s : State) (p : Nat) : Nat :=
  match s.laneNo, p with
  | 1, 0 => 2
  | 2, 0 => 1
  | 3, 0 => 1
  | 1, 1 => if s.threeLane then 3 else 0
  | 2, 1 => if s.threeLane then 3 else 0
  | 3, 1 => 2
  | _, _ => 0

end Sys2Proof.Machine
end

