-- ==== Sys2Proof/Machine/Azsin.lean ====
section
/-!
DEFINITION. Machine/Azsin.lean: the Azsin safety layer and the device fabric (R442–R466): messages, containers, producers,
consumers and routing. A port is numbered 0 A, 1 B, 3 D and 4 for the stream port.
-/
namespace Sys2Proof.Machine

/-! ### Identity (R36, R405, R406, R448, R456). -/

/-- R36: the lane's node address. -/
def State.nodeAddr (s : State) : Nat := 8 + 8 * s.funcNo + s.laneNo
/-- R448: the set address. -/
def State.setAddr (s : State) : Nat := 8 + 8 * s.funcNo
/-- R406: the bridge address. -/
def State.bridgeAddr (s : State) : Nat := 8 + 16 * s.unitNo + 4 * (s.funcNo % 4) + s.laneNo
/-- R405: the network a port serves. -/
def State.portNet (s : State) (p : Nat) : Nat :=
  if p = 3 ∧ s.nat (Obj.PORT_ROLE 3) = 1 then 8 + s.unitNo else if p = 3 then 15
  else if p = 4 then s.nat Obj.STREAM_NETWORK else s.unitNo
/-- R405: the lane's address on a port. -/
def State.portAddr (s : State) (p : Nat) : Nat :=
  if p = 2 then s.laneNo else if p = 3 ∧ s.nat (Obj.PORT_ROLE 3) = 2 then s.bridgeAddr else s.nodeAddr

/-! ### Connections. -/

/-- The connections with a role. -/
def State.azConns (s : State) : List Nat :=
  s.dict.filterMap fun e => if Obj.AZ_ROLE 0 ≤ e.1 ∧ e.1 < Obj.AZ_ROLE 1024 ∧ e.1 % 256 = 1 then some ((e.1 - Obj.AZ_ROLE 0) / 256) else none
/-- The consumers, in index order. -/
def State.azConsumers (s : State) : List Nat := s.azConns.filter fun c => s.nat (Obj.AZ_ROLE c) == 2
/-- The producers, in index order. -/
def State.azProducers (s : State) : List Nat := s.azConns.filter fun c => s.nat (Obj.AZ_ROLE c) == 1
/-- The hidden state of a connection. -/
def State.azConn (s : State) (c : Nat) : AzConn := Sparse.get (fun _ => {}) s.az.conns c
/-- Change the hidden state of a connection. -/
def State.azMod (s : State) (c : Nat) (f : AzConn → AzConn) : State :=
  { s with az.conns := Sparse.set (fun _ => {}) s.az.conns c (f (s.azConn c)) }

/-- R450: one row of a map. -/
structure AzRow where
  node : Nat
  offset : Nat
  width : Nat
  signed : Bool
  safe : Int
  deriving DecidableEq, Repr, Inhabited

/-- R450: the rows of AZ_MAP. -/
def azRows (b : List Byte) : List AzRow := (rowsOf 12 b).map fun r =>
  { node := leNat (r.take 2), offset := leNat ((r.drop 2).take 2), width := leNat ((r.drop 4).take 1),
    signed := (leNat ((r.drop 5).take 1)).testBit 0, safe := leSigned ((r.drop 8).take 4) }
/-- The map of a connection. -/
def State.azMap (s : State) (c : Nat) : List AzRow := azRows (s.oct (Obj.AZ_MAP c))
/-- Bytes put over a byte string at an offset. -/
def patch (bs : List Byte) (off : Nat) (x : List Byte) : List Byte := bs.take off ++ x ++ bs.drop (off + x.length)
/-- R450: the data a producer forms from its nodes. -/
def State.azData (s : State) (c : Nat) : List Byte :=
  (s.azMap c).foldl (fun d r => patch d r.offset (le r.width (s.nodeU r.node))) (zeros (s.nat (Obj.AZ_LENGTH c)))
/-- R448: the effective connection ID of a producer. -/
def State.azId (s : State) (c : Nat) : Nat :=
  if s.nat (Obj.AZ_MODE c) = 0 then s.nat (Obj.AZ_ID c) + s.laneNo - 1 else s.nat (Obj.AZ_ID c)
/-- R448: the origin node of a producer. -/
def State.azOrigin (s : State) (c : Nat) : Nat := if s.nat (Obj.AZ_MODE c) = 0 then s.nodeAddr else s.setAddr
/-- R448: this lane sends the connection. -/
def State.azSends (s : State) (c : Nat) : Bool := s.nat (Obj.AZ_MODE c) == 0 || s.ch.leadOut

/-- R443: the safety code of a message body under an origin and a signature. -/
def azCode (id net node sig : Nat) (body : List Byte) : Nat := crc32c (le 2 id ++ le 1 net ++ le 1 node ++ le 4 sig ++ body)
/-- R442: a message before its safety code. -/
def azBody (id seq time : Nat) (data : List Byte) : List Byte := le 2 id ++ le 2 seq ++ le 4 time ++ le 2 data.length ++ data
/-- R442: a message. [log 84 DEDUCED] -/
def azMessage (id net node sig seq time : Nat) (data : List Byte) : List Byte :=
  let body := azBody id seq time data
  body ++ le 4 (azCode id net node sig body)

/-! ### Routes (R459, R460). -/

/-- R460: one row of the route table. -/
structure RouteRow where
  dest : Nat
  ingress : Nat
  egress : Nat
  leadOnly : Bool
  deriving DecidableEq, Repr, Inhabited

/-- R460: the rows of ROUTE_TABLE. -/
def routeRows (b : List Byte) : List RouteRow := (rowsOf 4 b).map fun r =>
  let w := leNat r
  { dest := field w 31 28, ingress := field w 26 22, egress := field w 21 19, leadOnly := w.testBit 18 }
/-- R460: the ports of an egress code, one bit each. -/
def egressMask (e : Nat) : Nat := [3, 1, 2, 8, 16].getD e 0
/-- R460: the ingress bit of a port: A, B, D, stream. -/
def ingressBit (p : Nat) : Nat := [0, 1, 2, 2, 3].getD p 0
/-- R460: the first row, in table order, for a destination and an ingress whose lead-only condition holds. -/
def State.route (s : State) (dest bit : Nat) : Option RouteRow :=
  (routeRows (s.oct Obj.ROUTE_TABLE)).find? fun r => r.dest == dest && r.ingress.testBit bit && (!r.leadOnly || s.ch.leadOut)
/-- R459: the egresses of a producer with a destination network, none when it cannot be reached. -/
def State.azEgress (s : State) (dest : Nat) : Option Nat :=
  if dest = s.unitNo then some 3
  else if s.nat (Obj.PORT_ROLE 3) ≠ 0 ∧ dest = s.portNet 3 then some 8
  else if s.nat Obj.STREAM_NETWORK ≠ 0xFF ∧ dest = s.nat Obj.STREAM_NETWORK then some 16
  else (s.route dest 4).map fun r => egressMask r.egress

/-! ### Producers (R446–R449). -/

/-- R446: is the connection due in beat `b`? [log 84, 89 DEDUCED] -/
def State.azDue (s : State) (c b : Nat) : Bool :=
  b % s.nat (Obj.AZ_PERIOD c) == s.nat (Obj.AZ_PHASE c) ||
    (s.nat (Obj.AZ_CLASS c) == 1 && match (s.azConn c).values with
      | some v => v != (s.azMap c).map fun r => s.nodeW r.node
      | none => false)
/-- R459, R460: the egresses a producer's messages take now. [log 256 DEDUCED] -/
def State.azOut (s : State) (c : Nat) : Nat := (s.azEgress (field (s.nat (Obj.AZ_PEER c)) 11 8)).getD 0
/-- R446, R447, R462: the due period of a producer opens at every egress; a message not latched since the one before is
dropped as late. While the application firmware is stopped the sequence goes on and nothing is due. [log 256 DEDUCED] -/
def State.azOpen (s : State) (c : Nat) : State :=
  let x := s.azConn c
  let class0 := s.nat (Obj.AZ_CLASS c) = 0
  let s := s.when (class0 && x.due != 0 && x.msg.isNone && s.azSends c && s.azOut c != 0) fun s => s.count (Obj.AZ_TX_LATE c) 32
  let egress := if s.appStopped then 0 else 31
  if class0 then s.azMod c fun x => { x with count := (x.count + 1) % 65536, due := egress, msg := none }
  else s.azMod c fun x => { x with due := egress, msg := none }
/-- What a beat boundary does to every connection: due periods open, producers show their role, consumers may raise each
kind again, forwarded messages have waited one beat more. [log 91 DEDUCED] -/
def State.azBeat (s : State) (b : Nat) : State :=
  let s : State := { s with az.queue := s.az.queue.map fun (f : AzForward) => { f with age := f.age + 1 } }
  let s := s.azProducers.foldl (fun s c => (s.when (s.azDue c b) (·.azOpen c)).putN (Obj.AZ_STATE c) (if s.azSends c then 4 else 5)) s
  s.azConsumers.foldl (fun s c => s.azMod c fun x => { x with raised := 0 }) s

/-- R447: the message of a due connection at a latching instant: nodes read, sequence assigned, producer time set. A
message latched before for another port is sent again as it stands. -/
def State.azLatch (s : State) (c now : Nat) : List Byte × State :=
  match (s.azConn c).msg with
  | some m => (m, s)
  | none =>
    let seq := if s.nat (Obj.AZ_CLASS c) = 0 then (s.azConn c).count else ((s.azConn c).count + 1) % 65536
    let data := s.azData c
    let m := azMessage (s.azId c) s.unitNo (s.azOrigin c) (s.nat (Obj.AZ_SIGNATURE c)) seq (now / 100 % 2 ^ 32) data
    let values := (s.azMap c).map fun r => s.nodeW r.node
    let s := (s.putN (Obj.AZ_SEQ c) seq).put (Obj.AZ_DATA c) (.oct data)
    (m, s.azMod c fun x => { x with count := seq, msg := some m, values := some values })

/-- Containers being packed: each with its header and its messages, in order. -/
abbrev Packed := List (AzHead × List (List Byte))
/-- The bytes of containers (R444). -/
def containerBytes (p : Packed) : List Byte :=
  p.flatMap fun (h, ms) => le 1 ms.length ++ le 1 h.node ++ le 1 (h.hop % 16 * 16 + h.net % 16) ++ le 1 (h.dest % 16) ++ ms.flatten
/-- A message put into the last container where its header is the same and it holds fewer than 255, else into a new one. [log
85 DEDUCED] -/
def pack (p : Packed) (h : AzHead) (m : List Byte) : Packed :=
  match p.getLast? with
  | some (g, ms) => if g = h ∧ ms.length < 255 then p.dropLast ++ [(h, ms ++ [m])] else p ++ [(h, [m])]
  | none => [(h, [m])]
/-- R447: a message is packed if the whole then still fits. [log 85 DEDUCED] -/
def packIf (p : Packed) (limit : Nat) (h : AzHead) (m : List Byte) : Option Packed :=
  let q := pack p h m
  if (containerBytes q).length ≤ limit then some q else none

/-- R447, R448, R460: the due messages a latching instant takes for a port that a route gives them then, in ascending connection
index. -/
def State.azOwn (s : State) (p limit : Nat) (want : Nat → Bool) (now : Nat) : Packed × State :=
  s.azProducers.foldl (fun acc c =>
    let s := acc.2
    if (s.azConn c).due.testBit p && (s.azOut c).testBit p && want (s.nat (Obj.AZ_CLASS c)) && s.azSends c then
      let r := s.azLatch c now
      match packIf acc.1 limit ⟨field (s.nat (Obj.AZ_PEER c)) 11 8, 0, s.unitNo, s.azOrigin c⟩ r.1 with
      | some q => (q, r.2.azMod c fun x => { x with due := x.due - 2 ^ p })
      | none => acc
    else acc) ([], s)
/-- R460: the forwarded messages a latching instant takes for a port, in order of arrival. -/
def State.azForwards (s : State) (p limit : Nat) (packed : Packed) : Packed × State :=
  let r := s.az.queue.foldl (fun (acc : Packed × List AzForward) f =>
    if f.egress.testBit p then
      match packIf acc.1 limit f.head f.bytes with
      | some q => (q, if f.egress = 2 ^ p then acc.2 else acc.2 ++ [{ f with egress := f.egress - 2 ^ p }])
      | none => (acc.1, acc.2 ++ [f])
    else (acc.1, acc.2 ++ [f])) (packed, [])
  (r.1, { s with az.queue := r.2 })
/-- R447, R460: the containers latched for a scheduled window of a port, or for the stream port. -/
def State.azCollect (s : State) (p limit : Nat) (want : Nat → Bool) (now : Nat) : List Byte × State :=
  let own := s.azOwn p limit want now
  let all := own.2.azForwards p limit own.1
  (containerBytes all.1, all.2)
/-- R447: the event messages latched for an arbitrating window. -/
def State.azEvents (s : State) (p limit now : Nat) : List Byte × State :=
  let own := s.azOwn p limit (· == 1) now
  (containerBytes own.1, own.2)

/-! ### Consumers (R451–R454). -/

/-- R463: raise an Azsin kind for a connection, at most once per beat. -/
def State.azRaise (s : State) (c kind qual : Nat) : State :=
  let bit := kind - Kind.AZSIN_SEQ
  if (s.azConn c).raised.testBit bit then s
  else (s.azMod c fun x => { x with raised := x.raised + 2 ^ bit }).raise Src.azsin kind qual (some (c * 65536 + s.nat (Obj.AZ_ID c) : Nat))
/-- R454: the safe values of a connection are written to its nodes. [log 87 DEDUCED] -/
def State.azSafe (s : State) (c : Nat) : State := (s.azMap c).foldl (fun s r => s.writeNode r.node r.safe) s
/-- R454: the data of a valid message are written to the connection's nodes. -/
def State.azDeliver (s : State) (c : Nat) (data : List Byte) : State :=
  (s.azMap c).foldl (fun s r =>
    let b := (data.drop r.offset).take r.width
    s.writeNode r.node (if r.signed then leSigned b else (leNat b : Int))) s
/-- R453: the connection enters SAFE. [log 87 DEDUCED] -/
def State.azFail (s : State) (c kind qual : Nat) : State :=
  let s := ((s.putN (Obj.AZ_STATE c) 3).count (Obj.AZ_FAILS c) 32).putN (Obj.AZ_LAST_FAIL c) (qual * 256 + kind : Nat)
  ((s.azMod c fun x => { x with good := 0, baseline := false }).azSafe c).azRaise c kind qual
/-- R453: the connection enters WAIT. -/
def State.azWait (s : State) (c : Nat) : State :=
  ((s.putN (Obj.AZ_STATE c) 1).azMod c fun x => { x with good := 0, baseline := false }).azSafe c
/-- R462: what an application restart leaves of the fabric: sequences go on, nothing is due, nothing waits to be forwarded.
[log 145 DEDUCED] -/
def State.azStop (s : State) : State :=
  let s := s.azProducers.foldl (fun s c => s.azMod c fun x => { x with due := 0, msg := none }) s
  { s with az.queue := [], az.records := [] }
/-- R453, R462: every consumer enters WAIT: at a start and when an application restart completes. -/
def State.azInit (s : State) : State := s.azConsumers.foldl (fun s c => s.azWait c) s

/-- R451, R462: the age in µs of a producer time at an acceptance; a time latched before the last step is judged with the step
subtracted: one before the step's instant, and after a step back one that has not come yet. [log 92 DEDUCED] -/
def State.azAge (s : State) (now time : Nat) : Int :=
  let a := wrap32 ((now / 100 : Nat) - (time : Int))
  match s.az.step with
  | some (t, d) =>
    let after := wrap32 ((time : Int) - (t / 100 : Nat))
    if now < t + 2 ^ 30 * 100 ∧ (after < 0 ∨ (d < 0 ∧ a < -20)) then a - d else a
  | none => a

/-- R451, R453: a message that passed every check. [log 86 DEDUCED] -/
def State.azValid (s : State) (c seq : Nat) (misses : Int) (age : Int) (data : List Byte) : State :=
  let s := (((s.putN (Obj.AZ_SEQ c) seq).putN (Obj.AZ_AGE c) age).put (Obj.AZ_DATA c) (.oct data)).putN (Obj.AZ_MISSES c)
    ((s.n (Obj.AZ_MISSES c) + misses) % 2 ^ 32)
  let s := s.azMod c fun x => { x with good := x.good + 1, baseline := true }
  let st := s.nat (Obj.AZ_STATE c)
  if st = 2 then s.azDeliver c data
  else if s.nat (Obj.AZ_RECOVER c) ≤ (s.azConn c).good ∧ (st = 1 ∨ s.nat (Obj.AZ_RESTART c) = 0) then
    (s.putN (Obj.AZ_STATE c) 2).azDeliver c data
  else s

/-- R451: a consumer judges a matched message: the first failing check decides. [log 88 DEDUCED] -/
def State.azJudge (s : State) (c : Nat) (h : AzHead) (m : List Byte) (now : Nat) : State :=
  let seq := leNat ((m.drop 2).take 2)
  let time := leNat ((m.drop 4).take 4)
  let data := (m.drop 10).take (m.length - 14)
  let delta := (seq + 65536 - s.nat (Obj.AZ_SEQ c)) % 65536
  let base := (s.azConn c).baseline
  let age := s.azAge now time
  if data.length ≠ s.nat (Obj.AZ_LENGTH c) then s.azFail c Kind.AZSIN_CODE 2
  else if s.nat (Obj.AZ_PEER c) ≠ h.net * 256 + h.node then s.azFail c Kind.AZSIN_ID 1
  else if azCode (leNat (m.take 2)) h.net h.node (s.nat (Obj.AZ_SIGNATURE c)) (m.take (m.length - 4)) ≠ leNat (m.drop (m.length - 4)) then
    s.azFail c Kind.AZSIN_CODE 1
  else if base ∧ delta = 0 then s.count Obj.AZ_RX_DUPLICATES 32
  else if base ∧ 0x8000 ≤ delta then s.azRaise c Kind.AZSIN_SEQ 2
  else if base ∧ s.nat (Obj.AZ_MISS_MAX c) + 1 < delta then s.azFail c Kind.AZSIN_SEQ 1
  else if (s.nat (Obj.AZ_AGE_MAX c) : Int) < age then s.azFail c Kind.AZSIN_AGE 1
  else if age < -20 then s.azFail c Kind.AZSIN_AGE 2
  else s.azValid c seq (if base then (delta : Int) - 1 else 0) age data

/-- R449: a follow takes the sequence of a lead-only connection from a copy it receives. [log 90 DEDUCED] -/
def State.azTrack (s : State) (p id seq : Nat) (h : AzHead) : State :=
  if p = 4 ∨ s.ch.leadOut then s
  else
    match s.azProducers.find? fun c => s.nat (Obj.AZ_MODE c) == 1 && s.nat (Obj.AZ_ID c) == id && h.net == s.unitNo && h.node == s.setAddr with
    | some c => s.azMod c fun x => { x with count := seq }
    | none => s

/-- R460: a message is queued for forwarding, with hop count + 1. [log 93 DEDUCED] -/
def State.azQueue (s : State) (mask : Nat) (h : AzHead) (m : List Byte) : State :=
  { s with az.queue := s.az.queue ++ [(⟨mask, { h with hop := h.hop + 1 }, m, 0⟩ : AzForward)] }.count Obj.ROUTE_FORWARDED 32
/-- R460, R461: a received message is forwarded under the route table. [log 94 DEDUCED] -/
def State.azForward (s : State) (p : Nat) (h : AzHead) (m : List Byte) : State :=
  match s.route h.dest (ingressBit p) with
  | none => s
  | some r =>
    let mask := egressMask r.egress
    let same := if p ≤ 1 then 3 else 2 ^ p
    if mask &&& same ≠ 0 ∨ mask = 0 ∨ (mask = 16 ∧ s.nat Obj.STREAM_NETWORK = 0xFF) then s
    else if h.hop = 4 then s.count Obj.ROUTE_DROP_HOP 32
    else
      let id := leNat (m.take 2)
      let seq := leNat ((m.drop 2).take 2)
      let is (x : AzRecord) : Bool := x.net == h.net && x.node == h.node && x.id == id
      match s.az.records.find? is with
      | some x =>
        if x.seq = seq then s.count Obj.ROUTE_DUPLICATES 32
        else
          { s with az.records := s.az.records.map fun (x : AzRecord) => if is x then { x with seq := seq } else x }.azQueue mask h m
      | none =>
        let l := s.az.records ++ [(⟨h.net, h.node, id, seq⟩ : AzRecord)]
        { s with az.records := l.drop (l.length - 256) }.azQueue mask h m

/-- R451, R459: one received message is offered to the consumers, whatever its destination, and then routed. -/
def State.azMessageIn (s : State) (p : Nat) (h : AzHead) (m : List Byte) (now : Nat) : State :=
  let id := leNat (m.take 2)
  let s := s.azTrack p id (leNat ((m.drop 2).take 2)) h
  let s := match s.azConsumers.find? fun c => s.nat (Obj.AZ_ID c) == id with
    | some c => s.azJudge c h m now
    | none => s.count Obj.AZ_RX_UNKNOWN 32
  s.azForward p h m

/-- R445: the rest of a frame is discarded. -/
def State.azReject (s : State) : State := s.count Obj.AZ_CONTAINER_REJECTS 32

/-- R445: the messages of one container, in order; none left to parse after a fault. -/
def State.azMessages (s : State) (p : Nat) (h : AzHead) (now : Nat) : Nat → List Byte → State × Option (List Byte)
  | 0, bs => (s, some bs)
  | n + 1, bs =>
    let id := leNat (bs.take 2)
    let len := 14 + leNat ((bs.drop 8).take 2)
    if bs.length < 14 ∨ bs.length < len ∨ id = 0 ∨ id = 0xFFFF then (s.azReject, none)
    else (s.azMessageIn p h (bs.take len) now).azMessages p h now n (bs.drop len)

/-- R444, R445: the containers of a frame, in order; the fuel is the frame's length. -/
def State.azContainers (s : State) (p now : Nat) : Nat → List Byte → State
  | 0, _ => s
  | fuel + 1, bs =>
    if bs.isEmpty then s
    else
      let count := leNat (bs.take 1)
      let b2 := leNat ((bs.drop 2).take 1)
      let h : AzHead := ⟨leNat ((bs.drop 3).take 1) % 16, b2 / 16, b2 % 16, leNat ((bs.drop 1).take 1)⟩
      if bs.length < 4 ∨ count = 0 ∨ 4 < h.hop then s.azReject
      else
        match s.azMessages p h now count (bs.drop 4) with
        | (s, some rest) => s.azContainers p now fuel rest
        | (s, none) => s
/-- R444–R460: a frame's Azsin content is accepted at a port: while the application firmware runs (R453), and on the stream
port only where it belongs to a network (R456). [log 225 DEDUCED] -/
def State.azReceive (s : State) (p now : Nat) (bs : List Byte) : State :=
  if !s.appRuns ∨ (p = 4 ∧ s.nat Obj.STREAM_NETWORK = 0xFF) then s else s.azContainers p now (bs.length + 1) bs

/-- AZSIN_TIMEOUT (R452): no valid message for AZ_TIMEOUT: out of RUN, or in WAIT since the start. -/
def runAzsinTimeout (c : Fin 1024) (s : State) : Res :=
  let st := s.nat (Obj.AZ_STATE c)
  if s.nat (Obj.AZ_ROLE c) = 2 ∧ (st = 1 ∨ st = 2) then .next (s.azFail c Kind.AZSIN_TIMEOUT (if st = 2 then 1 else 2)) else .next s
/-- R453: AZ_COMMAND 0x52 permits recovery of a connection whose messages suffice. [log 95 DEDUCED] -/
def State.azRecover (s : State) (c : Nat) : State :=
  if s.nat (Obj.AZ_STATE c) = 3 ∧ s.nat (Obj.AZ_RECOVER c) ≤ (s.azConn c).good then s.putN (Obj.AZ_STATE c) 2 else s
/-- ROUTE_WAIT_EXPIRY (R460): forwarded messages that have waited ROUTE_MAX_WAIT beats are dropped. -/
def runRouteWaitExpiry (s : State) : Res :=
  let late (f : AzForward) : Bool := decide (s.nat Obj.ROUTE_MAX_WAIT ≤ f.age)
  let dropped := (s.az.queue.filter late).length
  let s := { s with az.queue := s.az.queue.filter fun f => !late f }
  .next (s.putN Obj.ROUTE_DROP_WAIT ((s.n Obj.ROUTE_DROP_WAIT + dropped) % 2 ^ 32))

end Sys2Proof.Machine
end

