-- ==== Sys2Proof/Machine/Motion.lean ====
section
/-!
DEFINITION. Machine/Motion.lean: motion generators at rest and on command (R281–R287, R290, R293). Their steps, plans and
gearing stand in Gearing.lean, the compare units of R302–R305 in Feedback.lean.
-/
namespace Sys2Proof.Machine

def State.gen (s : State) (m : Nat) : Gen := vget s.mx m
def State.genMod (s : State) (m : Nat) (f : Gen → Gen) : State := { s with mx := vmod s.mx m f }

/-! ### Velocity, rest and status. -/

/-- Round half away from zero. -/
def roundAway (x : Rat) : Int := if 0 ≤ x then (x + 1 / 2).floor else -((-x + 1 / 2).floor)
/-- R283: the velocity word of a velocity in steps/s. -/
def velWord (v : Rat) : Int := roundAway (v * 8589934592 / 200000000)
/-- R283: a velocity limited to ±MX_VMAX. -/
def State.velLimit (s : State) (m : Nat) (v : Rat) : Rat :=
  let top : Rat := s.nat (Obj.MX_VMAX m)
  if v < -top then -top else if top < v then top else v
/-- R285: a generator's mode. -/
def State.genMode (s : State) (m : Nat) : Nat := s.nat (Obj.MX_MODE m)
/-- R285: is a generator at rest? -/
def State.genAtRest (s : State) (m : Nat) : Bool :=
  s.genMode m == 0 || ((s.genMode m == 1 || s.genMode m == 2) && (s.gen m).still && (s.gen m).v == 0 && !(s.gen m).pending)
/-- R293: MX_STATUS. -/
def State.genStatus (s : State) (m : Nat) : Nat :=
  let g := s.gen m
  g.moves <<< 16 + b2n g.creep <<< 7 + b2n g.stop.isSome <<< 6 + b2n g.done <<< 5 + b2n g.pending <<< 4 +
    b2n g.moving <<< 3 + b2n (s.genAtRest m) <<< 2 + s.genMode m % 4
/-- R281: the step output pair of a generator, none where it has another target. -/
def State.genStepPair (s : State) (m : Nat) : Option Nat :=
  let a := s.nat (Obj.MX_ASSIGN m)
  if 0x20 ≤ a ∧ a ≤ 0x23 then some (a - 0x20) else none
/-- R282: the fraction of a step at the start and at the completion of a move. -/
def State.genHalf (s : State) (m : Nat) : State :=
  let a := s.nat (Obj.MX_ACCUM m)
  s.putN (Obj.MX_ACCUM m) (a / 2 ^ 33 * 2 ^ 33 + 2 ^ 32 : Nat)

/-! ### GO, STOP and rejected writes (R286, R287, R290). -/

/-- R286, R307: a write of an entry, or a GO, while the generator is not at rest. -/
def State.moveRejected (s : State) (m key qual : Nat) : State :=
  (s.count (Obj.MX_REJECTS m) 32).raise (Src.mx m) Kind.MOVE_REJECTED qual (some key)
/-- R307: the qualifier of MOVE_REJECTED for an RWR entry. [log 49 DEDUCED] -/
def moveQual (m key : Nat) : Nat := if key = Obj.MX_MODE m then 3 else 1

/-- R287: GO; the abort code of its rejection beside the state that reports it. [log 49 DEDUCED] -/
def State.mxGo (s : State) (m : Nat) : Option AbortCode × State :=
  if s.genMode m = 0 ∨ s.genMode m = 3 then (some 0x06040003, s)
  else if s.genAtRest m then (none, s.genMod m fun g => { g with pending := true, done := false })
  else (some 0x06050001, s.moveRejected m (Obj.MX_COMMAND m) 2)

/-- R290: STOP cancels a pending GO and ramps a moving or geared generator to rest from the next tick edge; a gearing that
has not engaged yet comes to rest at that edge. -/
def State.mxStop (s : State) (m : Nat) : State :=
  s.genMod m fun g =>
    { g with pending := false, engageNext := false, stopNext := g.stopNext || ((g.moving || g.engaged || g.engageNext) && g.stop.isNone) }

/-- R285, R288, R297: MX_MODE written at rest ends a speed held at 0; 3 engages gearing at the next tick edge. [log 246
DEDUCED] -/
def State.mxModeWrite (s : State) (m : Nat) (v : Int) : State :=
  (s.putN (Obj.MX_MODE m) v).genMod m fun g => { g with moving := false, creep := false, engageNext := v == 3, engaged := false }

end Sys2Proof.Machine
end

