-- ==== Sys2Proof/Machine/Valves.lean ====
section
/-!
DEFINITION. Machine/Valves.lean: valve drives (R311–R331): stepper channels with their choppers and stall check, solenoid
outputs with pull-in and window comparator, and their diagnostics.
-/
namespace Sys2Proof.Machine

def State.stepper (s : State) (k : Nat) : Stepper := vget s.vs k
def State.stepMod (s : State) (k : Nat) (f : Stepper → Stepper) : State := { s with vs := vmod s.vs k f }
def State.coilMod (s : State) (k c : Nat) (f : Coil → Coil) : State := s.stepMod k fun x => { x with coils := vmod x.coils c f }
def State.soln (s : State) (m : Nat) : Solenoid := vget s.sol m
def State.solMod (s : State) (m : Nat) (f : Solenoid → Solenoid) : State := { s with sol := vmod s.sol m f }

/-! ### Stepper references (R312–R316). -/

/-- R312: the generator assigned to stepper k. -/
def State.vsGen (s : State) (k : Nat) : Option Nat := (List.range 12).find? fun m => s.nat (Obj.MX_ASSIGN m) = 0x10 + k
/-- R313: the factor of coil A (0) or B (1) at electrical position p, with its sign. -/
def coilFactor (table : List Byte) (p coil : Nat) : Int :=
  let row := (table.drop (4 * (p % 256))).take 4
  let ta : Int := leNat (row.take 2)
  let tb : Int := leNat (row.drop 2)
  match p / 256 % 4, coil with
  | 0, 0 => ta | 0, _ => tb
  | 1, 0 => -tb | 1, _ => ta
  | 2, 0 => -ta | 2, _ => -tb
  | _, 0 => tb | _, _ => -ta
/-- R314: a coil's reference in mA. -/
def coilRef (amp : Nat) (factor : Int) : Int :=
  let mag : Int := amp * factor.natAbs / 32768
  if factor < 0 then -mag else mag
/-- R313: does the staged table keep the coil current within 1,500 mA rms? -/
def sineTableOk (iRun : Nat) (table : List Byte) : Bool :=
  let rows := rowsOf 4 table
  let sum := rows.foldl (fun a r => a + leNat (r.take 2) ^ 2 + leNat (r.drop 2) ^ 2) 0
  iRun ^ 2 * sum ≤ 512 * (1500 * 32768) ^ 2

/-- R311, R319: may a stepper channel conduct? -/
def State.vsConducts (s : State) (k : Nat) : Bool :=
  (s.stepper k).live && s.on (Obj.VS_ENABLE k) && !(s.stepper k).shorted && !s.su.low.testBit 3 && !s.th.shut

/-- R314, R316: a coil takes a new reference; a sign change ends its phase, a reference of 0 turns it off. -/
def State.coilSet (s : State) (k c : Nat) (ref : Int) : State :=
  let may := s.vsConducts k
  s.coilMod k c fun x =>
    let phase :=
      if !may ∨ ref = 0 then .off
      else if x.phase = .off then .blank
      else if (ref < 0) != (x.ref < 0) && x.ref != 0 then .flip
      else x.phase
    { x with ref := ref, phase := phase, maxed := if phase = .off ∨ phase = .flip then 0 else x.maxed }

/-- R312: p is formed anew, as a step of its generator is issued. -/
def State.vsPosition (s : State) (k m : Nat) : State :=
  s.putN (Obj.VS_POSITION k) ((s.n (Obj.MX_POSITION m) * s.nat (Obj.VS_STEP_SIZE k) + s.nat (Obj.VS_PHASE_OFFSET k)) % 1024)
/-- R314: both references of a channel formed anew from p and the amplitude. -/
def State.vsRefresh (s : State) (k : Nat) : State :=
  let p := s.nat (Obj.VS_POSITION k)
  let t := s.oct (Obj.VS_SINE_TABLE k)
  let amp := (s.stepper k).amp
  (s.coilSet k 0 (coilRef amp (coilFactor t p 0))).coilSet k 1 (coilRef amp (coilFactor t p 1))

/-- All switches of a channel off. -/
def State.vsOff (s : State) (k : Nat) : State := s.stepMod k fun x => { x with live := false, coils := x.coils.map fun c => { c with phase := .off, maxed := 0 } }

/-! ### Stall (R318). -/

/-- R318: the rate of the full step being taken, full steps per second. [log 53 DEDUCED] -/
def State.vsRate (s : State) (k m : Nat) : Rat :=
  let g := s.gen m
  let v : Rat := if s.genMode m = 3 then (s.n (Obj.MX_VELOCITY m) : Rat) else (g.v : Rat) * 200000000 / 8589934592
  |v| * (s.nat (Obj.VS_STEP_SIZE k) : Rat) / 256

/-- R318: K is formed at a full step and the stall judged. -/
def State.vsStall (s : State) (k m : Nat) : State :=
  let x := s.stepper k
  let f := s.vsRate k m
  let s' := s.stepMod k fun x => { x with emfSum := 0, emfCount := 0 }
  if x.emfCount = 0 ∨ f < (s.nat (Obj.VS_STALL_MIN_RATE k) : Rat) then s'
  else
    let kv := Config.fix (x.emfSum / (x.emfCount : Rat) / f)
    let s := (s'.setNode (912 + 8 * k + 6) kv).putN (Obj.VS_STALL_VALUE k) (clamp 0 4294967295 kv)
    if s.n (Obj.VS_STALL_K k) = 0 ∨ s.n (Obj.VS_STALL_K k) ≤ kv then s.stepMod k fun x => { x with weak := 0 }
    else
      let w := x.weak + 1
      let s := s.stepMod k fun x => { x with weak := w }
      if w = s.nat (Obj.VS_STALL_STEPS k) then
        let s := (s.stepMod k fun x => { x with stalled := true }).raise (Src.vs k) Kind.STEPPER_STALL 1 (some kv)
        if s.nat (Obj.VS_STALL_POLICY k) = 1 then s.mxStop m else s
      else s

/-- R312, R318: the position of generator m has moved from `before`; its stepper follows and full steps are counted. -/
def State.vsMoved (s : State) (m : Nat) (before : Int) : State :=
  let a := s.nat (Obj.MX_ASSIGN m)
  if 0x10 ≤ a ∧ a ≤ 0x13 then
    let k := a - 0x10
    let cyc (p : Int) : Int := (p * s.nat (Obj.VS_STEP_SIZE k) + s.nat (Obj.VS_PHASE_OFFSET k)) / 256
    let n := (cyc (s.n (Obj.MX_POSITION m)) - cyc before).natAbs
    let s := (if s.n (Obj.MX_POSITION m) = before then s else s.vsPosition k m).vsRefresh k
    if n = 0 then s else (s.stepMod k fun x => { x with full := (x.full + n) % 65536 }).vsStall k m
  else s

/-! ### The chopper (R315). -/

/-- An on phase ends and the off-time begins with fast decay. -/
def State.coilFast (s : State) (k c : Nat) (maxed : Nat) : State := s.coilMod k c fun x => { x with phase := .fast, maxed := maxed }

/-- CHOPPER_BLANK_END (R315, step 2): the comparator is enabled; a current already at the reference ends the on phase. -/
def runChopperBlankEnd (k : Fin 4) (c : Fin 2) (reached : Bool) (s : State) : Res :=
  .next (if (vget (s.stepper k).coils c).phase = .blank then
    (if reached then s.coilFast k c 0 else s.coilMod k c fun x => { x with phase := .on }) else s)

/-- CHOPPER_CURRENT_REACHED (R315, step 3). -/
def runChopperCurrentReached (k : Fin 4) (c : Fin 2) (s : State) : Res :=
  .next (if (vget (s.stepper k).coils c).phase = .on then s.coilFast k c 0 else s)

/-- R60: VSM is below 10.5 V: the bridges are held off, their arm signals stand. -/
def State.vsHalt (s : State) (k : Nat) : State := s.stepMod k fun x => { x with coils := x.coils.map fun c => { c with phase := .off, maxed := 0 } }
/-- R319: an on phase ended by VS_TON_MAX; the sixteenth in a row reports an open coil. [log 52 DEDUCED] -/
def State.coilMaxed (s : State) (k c : Nat) : State :=
  let x := vget (s.stepper k).coils c
  let counts := s.nat (Obj.VS_OPEN_MIN k) ≤ x.ref.natAbs && 12000 ≤ s.nat Obj.VSM_MV
  let n := if counts then x.maxed + 1 else 0
  let s := s.coilFast k c n
  if n = 16 then
    (s.coilMod k c fun x => { x with isOpen := true }).raise (Src.vs k) Kind.VALVE_OPEN_LOAD 1 (some c)
  else s

/-- CHOPPER_TON_MAX (R315, R319). -/
def runChopperTonMax (k : Fin 4) (c : Fin 2) (s : State) : Res :=
  .next (if (vget (s.stepper k).coils c).phase = .on ∨ (vget (s.stepper k).coils c).phase = .blank then s.coilMaxed k c else s)

/-- FAST_DECAY_END (R315, R318): slow decay begins; `i` is the coil current in mA. -/
def runFastDecayEnd (k : Fin 4) (c : Fin 2) (i : Int) (s : State) : Res :=
  .next (if (vget (s.stepper k).coils c).phase = .fast then s.coilMod k c fun x => { x with phase := .slow, first := i } else s)

/-- R318: e of one slow-decay interval in µV, from the currents in mA at its ends and its length in ns. -/
def emfOf (rMicro lNano : Nat) (i0 i1 : Int) (ts : Nat) : Rat :=
  -((rMicro : Rat) * ((i0 + i1 : Int) : Rat) / 2 / 1000 + (lNano : Rat) * ((i1 - i0 : Int) : Rat) / (ts : Rat) * 1000)

/-- CHOPPER_OFFTIME_END (R315, R316, R318): VS_TOFF is over and the next on phase begins; `i` is the coil current in mA. -/
def runChopperOfftimeEnd (k : Fin 4) (c : Fin 2) (i : Int) (s : State) : Res :=
  let x := vget (s.stepper k).coils c
  match x.phase with
  | .slow =>
    let ts := s.nat (Obj.VS_TOFF k) * 100 * (16 - s.nat (Obj.VS_FAST k)) / 16
    let s := s.coilMod k c fun x => { x with phase := .blank }
    .next (if ts < 1000 then s
      else
        let e := |emfOf (s.nat (Obj.VS_COIL_R k)) (s.nat (Obj.VS_COIL_L k)) x.first i ts|
        s.stepMod k fun y => { y with emfSum := y.emfSum + e, emfCount := y.emfCount + 1 })
  | .fast | .flip => .next (s.coilMod k c fun x => { x with phase := .blank })
  | _ => .next s

/-- VS_OVERCURRENT (R319, R329): a switch trips; `qual` names the switches, `c` the coil. -/
def runVsOvercurrent (k : Fin 4) (c : Fin 2) (qual : Fin 3) (s : State) : Res :=
  .next (if s.vsConducts k then
    ((s.stepMod k fun x => { x with shorted := true, coils := x.coils.map fun c => { c with phase := .off, maxed := 0 } }).raise (Src.vs k)
      Kind.VALVE_SHORT (qual.val + 1) (some c.val)) else s)

/-- R319: 0x52 written to VS_COMMAND. -/
def State.vsClearShort (s : State) (k : Nat) : State := (s.stepMod k fun x => { x with shorted := false }).vsRefresh k

/-- VS_OPEN_LOAD_OFF (R324, R329): a coil of a disarmed channel reads in the open-load band. -/
def runVsOpenLoadOff (k : Fin 4) (c : Fin 2) (s : State) : Res :=
  .next (if (s.stepper k).live then s else s.raise (Src.vs k) Kind.VALVE_OPEN_LOAD 2 (some c.val))

/-- R330: VS_STATUS. [log 52 DEDUCED] -/
def State.vsStatus (s : State) (k : Nat) (moving : Bool) : Nat :=
  let x := s.stepper k
  x.full <<< 16 + b2n (1 ≤ s.nat Obj.GOV_LEVEL) <<< 8 + b2n x.shorted <<< 7 + b2n x.stalled <<< 6 +
    b2n (vget x.coils 1).isOpen <<< 5 + b2n (vget x.coils 0).isOpen <<< 4 + b2n moving <<< 3 + b2n (s.ch.armed.testBit (6 + k)) <<< 2 +
    b2n (s.vsGen k).isNone <<< 1 + b2n (s.on (Obj.VS_ENABLE k))

/-- R312, R314, R317, R325, R328: a stepper channel at a tick edge; `clocks` is the tick that has ended. -/
def State.vsTick (s : State) (k clocks : Nat) : State :=
  let s := s.stepMod k fun x => { x with live := x.live || x.granted, granted := false,
                                         amp := (clamp 0 2100 (s.node (1152 + 8 * k))).toNat }
  let active := match s.vsGen k with
    | some m => (s.gen m).moving || (s.gen m).stop.isSome || (s.gen m).engaged
    | none => false
  let since := match s.vsGen k with
    | some m => clocks - (s.gen m).restAt
    | none => clocks
  let s := s.stepMod k fun x =>
    { x with rest := if active then 0 else if x.active then since else x.rest + clocks, active := active, everMoved := x.everMoved || active }
  let x := s.stepper k
  let moving := active || (x.everMoved && x.rest < s.nat (Obj.VS_HOLD_DELAY k) * 200000)
  let s := s.vsRefresh k
  let x := s.stepper k
  let run := s.n (Obj.VS_I_RUN k)
  let allow := if s.nat Obj.GOV_LEVEL = 0 then 2100 else run * s.n (Obj.VS_GOV_PCT k) / 100
  let st := s.vsStatus k moving
  let u := 912 + 8 * k
  let s := ((s.setNode u run).setNode (u + 1) (s.n (Obj.VS_I_HOLD k))).setNode (u + 2) (b2n moving)
  let s := ((s.setNode (u + 3) allow).setNode (u + 4) (vget x.coils 0).ref).setNode (u + 5) (vget x.coils 1).ref
  (s.setNode (u + 7) st).putN (Obj.VS_STATUS k) st

/-! ### Solenoids (R320–R324). -/

/-- R320, R324: may a solenoid's switch conduct? -/
def State.solConducts (s : State) (m : Nat) : Bool :=
  let x := s.soln m
  x.live && s.on (Obj.SOL_ENABLE m) && !x.overcurrent && !x.toSupply && !x.openOn && !s.th.shut
/-- R321: the demand in mA. -/
def State.solDemand (s : State) (m : Nat) : Int :=
  let n := s.nat (Obj.SOL_DEMAND_NODE m)
  if n = 0xFFFF then 0 else s.node n
/-- R321: the effective centre formed anew; a centre of 0 keeps the switch off. -/
def State.solCentre (s : State) (m : Nat) : State :=
  let x := s.soln m
  let cell := s.node (1184 + m)
  let raw := if s.solDemand m < s.n (Obj.SOL_ON_MA m) then 0
    else if x.pullin then max cell (s.n (Obj.SOL_PULLIN_MA m)) else cell
  let c := min raw (s.n (Obj.SOL_I_MAX m))
  let s := s.solMod m fun x => { x with centre := c, sw := if c = 0 then .off else x.sw }
  s.setNode (944 + 4 * m + 3) c
/-- R321: a pull-in starts, unless SOL_PULLIN_MA is 0. -/
def State.solPullin (s : State) (m : Nat) : State :=
  if s.n (Obj.SOL_PULLIN_MA m) = 0 then s
  else s.solMod m fun x => { x with pullin := true, ran := 0, pulls := (x.pulls + 1) % 65536, cut := false, pulled := true }
/-- R236, R322: the band b. -/
def State.solBand (s : State) (m : Nat) : Int := vget s.lp.bands m
/-- All of an output off. -/
def State.solOff (s : State) (m : Nat) : State := s.solMod m fun x => { x with live := false, sw := .off, pullin := false }

/-- SOL_UPPER_CROSSING (R322): the switch current `i`, in mA, exceeds c + b at least 2 µs after turn-on. -/
def runSolUpperCrossing (m : Fin 16) (i : Nat) (s : State) : Res :=
  .next (if (s.soln m).sw = .on ∧ (s.soln m).centre + s.solBand m < i then s.solMod m fun x => { x with sw := .off } else s)

/-- SOL_MIN_ON_END (R322): 2 µs after turn-on; a current already above c + b turns the switch off. -/
def runSolMinOnEnd (m : Fin 16) (i : Nat) (s : State) : Res :=
  .next (if (s.soln m).sw = .fresh then
    s.solMod m fun x => { x with sw := if x.centre + s.solBand m < i then .off else .on } else s)

/-- SOL_PROBE (R322): an off switch is turned on for a probe, judged on the values in force at its start. -/
def runSolProbe (m : Fin 16) (s : State) : Res :=
  .next (if (s.soln m).sw = .off ∧ (s.soln m).centre ≠ 0 ∧ s.solConducts m then
    s.solMod m fun x => { x with sw := .probe, probeAt := max (x.centre - s.solBand m) 0 } else s)

/-- SOL_PROBE_END (R322): the switch stays on if the current `i` is at or below the lower threshold. -/
def runSolProbeEnd (m : Fin 16) (i : Nat) (s : State) : Res :=
  .next (if (s.soln m).sw = .probe then s.solMod m fun x => { x with sw := if (i : Int) ≤ x.probeAt then .fresh else .off } else s)

/-- PULLIN_END (R321, R325): a pull-in ends. -/
def runPullinEnd (m : Fin 16) (s : State) : Res :=
  .next (if (s.soln m).pullin then
    (s.solMod m fun x => { x with pullin := false, cut := s.nat Obj.GOV_LEVEL == 2 }).solCentre m else s)

/-- R325, R327: at governor level 2 a pull-in that has run SOL_PULLIN_MIN ends at once. -/
def State.solGovern (s : State) (m : Nat) : State :=
  if s.nat Obj.GOV_LEVEL == 2 && (s.soln m).pullin && s.nat (Obj.SOL_PULLIN_MIN m) * 200000 ≤ (s.soln m).ran then
    s.solMod m fun x => { x with pullin := false, cut := true }
  else s

/-- SOL_OVERCURRENT (R324, R329): a switch exceeds 3.5 A; `mv` is the ball voltage. -/
def runSolOvercurrent (m : Fin 16) (mv : Nat) (s : State) : Res :=
  .next (if (s.soln m).sw ≠ .off then
    (s.solMod m fun x => { x with overcurrent := true, sw := .off }).raise (Src.sol m) Kind.VALVE_SHORT 1 (some mv) else s)

/-- SOL_SHORT_TO_SUPPLY (R324): an off switch's ball stays above 6.0 V. -/
def runSolShortToSupply (m : Fin 16) (mv : Nat) (s : State) : Res :=
  .next (if (s.soln m).sw = .off then
    (s.solMod m fun x => { x with toSupply := true }).raise (Src.sol m) Kind.VALVE_SHORT 2 (some mv) else s)

/-- SOL_OPEN_LOAD_ON (R324): a switch on for SOL_OPEN_TIME without reaching c + b. -/
def runSolOpenLoadOn (m : Fin 16) (s : State) : Res :=
  let x := s.soln m
  .next (if (x.sw = .on ∨ x.sw = .fresh) ∧ !x.pullin ∧ s.n (Obj.SOL_OPEN_MA m) ≤ x.centre then
    (s.solMod m fun x => { x with openOn := true, sw := .off }).raise (Src.sol m) Kind.VALVE_OPEN_LOAD 1 (some x.centre) else s)

/-- SOL_OPEN_LOAD_OFF (R324): the diagnostic source lifts an off ball into the open-load band; only reported. -/
def runSolOpenLoadOff (m : Fin 16) (mv : Nat) (s : State) : Res :=
  .next (if (s.soln m).sw = .off then
    (s.solMod m fun x => { x with openOff := true }).raise (Src.sol m) Kind.VALVE_OPEN_LOAD 2 (some mv) else s)

/-- R324: 0x52 written to SOL_COMMAND. -/
def State.solClear (s : State) (m : Nat) : State :=
  s.solMod m fun x => { x with overcurrent := false, toSupply := false, openOn := false, openOff := false }

/-- R331: SOL_STATUS. -/
def State.solStatus (s : State) (m : Nat) : Nat :=
  let x := s.soln m
  x.pulls <<< 16 + b2n x.cut <<< 8 + b2n x.overcurrent <<< 7 + b2n x.toSupply <<< 6 + b2n x.openOn <<< 5 + b2n x.openOff <<< 4 +
    b2n x.pullin <<< 3 + b2n x.wasOn <<< 2 + b2n (s.ch.armed.testBit (10 + m)) <<< 1 + b2n (s.on (Obj.SOL_ENABLE m))

/-- R321, R323, R328: a solenoid output at a tick edge; `clocks` is the tick that has ended. [log 234 DEDUCED] -/
def State.solTick (s : State) (m clocks : Nat) : State :=
  let x := s.soln m
  let now := decide (s.n (Obj.SOL_ON_MA m) ≤ s.solDemand m)
  let start := now && ((x.live && !x.above) || x.granted)
  let fresh := x.freshResult
  let s := s.solMod m fun x => { x with live := x.live || x.granted, granted := false, above := now, freshResult := false
                                        wasOn := x.sw == .on || x.sw == .fresh || x.sw == .probe
                                        ran := if x.pullin then x.ran + clocks else x.ran
                                        pullin := x.pullin && now }
  let s := ((s.solGovern m).when start (·.solPullin m)).solCentre m
  let avg := (s.node (96 + m) * s.scFullMa).tdiv 8388608
  let st := s.solStatus m
  let u := 944 + 4 * m
  let s := ((s.setNode u avg).setNode (u + 1) (b2n !fresh)).setNode (u + 2) st
  (s.putN (Obj.SOL_AVG_MA m) avg).putN (Obj.SOL_STATUS m) st

/-- R165, R323: at a beat boundary, whether output m's new SC result is fresh; `conducted` says that it is not NOCOND. -/
def State.solBeat (s : State) (m : Nat) (conducted : Bool) : State :=
  s.solMod m fun x => { x with freshResult := conducted && !x.pulled, pulled := x.pullin }

/-- R60: VSM has recovered: a channel whose arm signal stands drives its references again. -/
def State.vsResume (s : State) : State := s.each 4 fun s k => s.vsRefresh k
/-- Every valve drive at a tick edge. -/
def State.valvesTick (s : State) (clocks : Nat) : State :=
  (s.each 4 fun s k => s.vsTick k clocks).each 16 fun s m => s.solTick m clocks

/-- R318: a GO of generator m clears its stepper's STALLED. -/
def State.vsGo (s : State) (m : Nat) : State :=
  s.each 4 fun s k => s.when (s.vsGen k == some m) (·.stepMod k fun x => { x with stalled := false, weak := 0 })

/-! ### Arm signals (R311, R320, R326). -/

/-- The arm signal of output `bit` (R318's layout) is granted; it takes effect at the next tick edge. -/
def State.valveGrant (s : State) (bit : Nat) : State :=
  if 6 ≤ bit ∧ bit < 10 then s.stepMod (bit - 6) fun x => { x with granted := true }
  else if 10 ≤ bit ∧ bit < 26 then s.solMod (bit - 10) fun x => { x with granted := true }
  else s
/-- The arm signal of an output is deasserted: off at once. -/
def State.valveWithdraw (s : State) (bit : Nat) : State :=
  if 6 ≤ bit ∧ bit < 10 then (s.vsOff (bit - 6)).stepMod (bit - 6) fun x => { x with granted := false }
  else if 10 ≤ bit ∧ bit < 26 then ((s.solOff (bit - 10)).solMod (bit - 10) fun x => { x with granted := false }).solCentre (bit - 10)
  else s

/-! ### Basic allocation (R317, R323). -/

/-- R317: the eight rows of stepper k's block. -/
def stepperRows (get : Nat → Val) (k : Nat) : List CellRow :=
  let u := 912 + 8 * k
  let m := 2304 + 8 * k
  let slew : Int := getNat get (Obj.VS_I_SLEW k)
  if getNat get (Obj.VS_ENABLE k) = 0 then List.replicate 8 ({} : CellRow)
  else
    [ { law := 7, inA := u + 1, inB := u, inC := u + 2, out := m },
      { law := 8, inA := m, out := m + 1, p0 := slew, p1 := slew },
      { law := 6, inA := m + 1, inC := u + 3, out := 1152 + 8 * k, p2 := -1 } ] ++ List.replicate 5 ({} : CellRow)

/-- R323: the two rows of solenoid m's block. -/
def solenoidRows (get : Nat → Val) (m : Nat) : List CellRow :=
  let d := getNat get (Obj.SOL_DEMAND_NODE m)
  let u := 944 + 4 * m
  if d = 0xFFFF then List.replicate 2 ({} : CellRow)
  else
    [ { law := 3, inA := d, inB := u, inC := d, inD := u + 1, out := 2336 + m, k0 := (1, 0), k2 := getFx get (Obj.SOL_AVG_KI m), k3 := (1, 0) },
      { law := 9, inA := 2336 + m, out := 1184 + m, p0 := getNat get (Obj.SOL_BAND m) } ]

end Sys2Proof.Machine
end

