-- ==== Sys2Proof/Machine/Gearing.lean ====
section
/-!
DEFINITION. Machine/Gearing.lean: the steps and plans of the motion generators, the step outputs and electronic gearing
(R282–R284, R288–R301, R306–R309).
-/
namespace Sys2Proof.Machine

/-! ### Steps (R282, R284, R289). -/

/-- R284: STEPk goes to its active level for a pulse, and DIRk takes the step's direction, each inverted by its bit of
MX_STEP_POL. -/
def State.stepSend (s : State) (m k : Nat) (forward : Bool) : State :=
  let pol := s.nat (Obj.MX_STEP_POL m)
  (s.genMod m fun g => { g with pulse := true, dir := forward }).emit (.step k (!pol.testBit 0) ((!forward) != pol.testBit 1))
/-- R284: a step of a generator reaches its pair: a pulse at once, later, or none while LEAD_OUT is deasserted. -/
def State.stepOut (s : State) (m : Nat) (forward : Bool) : State :=
  match s.genStepPair m with
  | none => s
  | some k =>
    if !s.ch.leadOut then s
    else if (s.gen m).pulse then s.genMod m fun g => { g with waiting := g.waiting ++ [forward] }
    else s.stepSend m k forward

/-- R287, step 4: a move completes. -/
def State.genComplete (s : State) (m : Nat) : State :=
  let s := (s.genHalf m).count (Obj.MX_DONE_COUNT m) 32
  s.genMod m fun g => { g with v := 0, restAt := g.clocks, moving := false, done := true, creep := false, stop := none, stopNext := false }

/-- One step of a generator in a direction. -/
def State.genStep (s : State) (m : Nat) (forward : Bool) : State :=
  let before := s.n (Obj.MX_POSITION m)
  let s := s.putN (Obj.MX_POSITION m) (wrap64 (before + (if forward then 1 else -1)))
  let s := (s.stepOut m forward).vsMoved m before
  s.when ((s.gen m).plan.position && (s.gen m).moving && s.n (Obj.MX_POSITION m) == s.n (Obj.MX_TARGET_POS m)) (·.genComplete m)

/-- R282: the next carry or borrow of a generator's accumulator within the present tick of `len` clocks: the clock and the
direction. -/
def nextCarry (acc : Nat) (v : Int) (clocks len : Nat) : Option (Nat × Bool) :=
  let frac : Int := acc % 2 ^ 33
  if 0 < v then
    let k := clocks + ((2 ^ 33 - frac + v - 1) / v).toNat
    if k ≤ len then some (k, true) else none
  else if v < 0 then
    let k := clocks + (frac / (-v) + 1).toNat
    if k ≤ len then some (k, false) else none
  else none

/-- R282: the accumulator brought to a clock of the present tick. -/
def State.genAdvance (s : State) (m clock : Nat) : State :=
  let g := s.gen m
  let s := s.putN (Obj.MX_ACCUM m) ((s.n (Obj.MX_ACCUM m) + g.v * (clock - g.clocks : Nat)) % 2 ^ 48)
  s.genMod m fun g => { g with clocks := clock }

/-- R282: the next step of the rate multiplier within the present tick, if there is one. -/
def State.genNext (s : State) (m : Nat) : Option State :=
  let g := s.gen m
  match nextCarry (s.nat (Obj.MX_ACCUM m)) g.v g.clocks s.clk.tickLen with
  | none => none
  | some (k, forward) => some ((s.genAdvance m k).genStep m forward)

/-- R282: the steps of the present tick not yet issued, and the accumulator at its end. [log 51 DEDUCED] -/
def State.genDrain (s : State) (m : Nat) : Nat → State
  | 0 => s.genAdvance m s.clk.tickLen
  | fuel + 1 =>
    match s.genNext m with
    | some t => t.genDrain m fuel
    | none => s.genAdvance m s.clk.tickLen

/-- STEP_PULSE_END (R284): a pulse and its low time are over; the next step that waits is sent. -/
def runStepPulseEnd (k : Fin 4) (s : State) : Res :=
  .next (s.each 12 fun s m =>
    if s.genStepPair m = some k.val ∧ (s.gen m).pulse then
      match (s.gen m).waiting with
      | [] => s.genMod m fun g => { g with pulse := false }
      | d :: rest => (s.genMod m fun g => { g with waiting := rest }).stepSend m k d
    else s)
/-- R284: the level of DIRk for the generator of its pair: its inactive level while LEAD_OUT is deasserted, else that of the
last step sent. -/
def State.dirBall (s : State) (m : Nat) : Bool := (s.ch.leadOut && !(s.gen m).dir) != s.bit (Obj.MX_STEP_POL m) 1

/-- R284: at the deassertion of LEAD_OUT the pairs go inactive at once. -/
def State.stepsCut (s : State) : State := { s with mx := s.mx.map fun (g : Gen) => { g with pulse := false, waiting := [] } }

/-! ### Plans (R288, R289). -/

/-- R288: the trapezoidal plan for a distance of `d` steps: its velocity at `t` seconds, none once it has run out. -/
def trapezoid (d : Nat) (vmax acc dec : Nat) (t : Rat) : Option Rat :=
  let dist : Rat := d
  let v : Rat := vmax
  let a : Rat := acc
  let b : Rat := dec
  let full := v * v / (2 * a) + v * v / (2 * b)
  let peak := if full ≤ dist then v else rootOf (2 * dist * a * b / (a + b))
  let tEnd := peak / a + peak / b + (if full ≤ dist then (dist - full) / v else 0)
  if tEnd ≤ t then none else some (min (min (a * t) peak) (b * (tEnd - t)))

/-- R288: the time a jerk-limited phase takes to change the velocity by `v`, with the acceleration bounded by `a`. -/
def jerkTime (v a j : Rat) : Rat := if v ≤ a * a / j then 2 * rootOf (v / j) else v / a + a / j
/-- R288: the velocity gained `t` seconds into a jerk-limited phase that gains `v` in all: the acceleration rises at the jerk,
holds at its bound where it reaches it, and falls at the jerk. -/
def jerkGain (v a j t : Rat) : Rat :=
  let whole := jerkTime v a j
  let t := min t whole
  let tj := min (a / j) (whole / 2)
  if t ≤ tj then j * t * t / 2
  else if t ≤ whole - tj then j * tj * tj / 2 + j * tj * (t - tj)
  else v - j * (whole - t) * (whole - t) / 2
/-- The distance of a plan that rises to a peak velocity and falls from it: each phase is symmetric in time. -/
def jerkDist (peak acc dec jerk : Rat) : Rat := peak * (jerkTime peak acc jerk + jerkTime peak dec jerk) / 2
/-- R288: the peak velocity of a move too short to reach MX_VMAX, by halving the interval it lies in. -/
def jerkPeak (dist acc dec jerk : Rat) : Nat → Rat → Rat → Rat
  | 0, lo, _ => lo
  | k + 1, lo, hi =>
    let mid := (lo + hi) / 2
    if jerkDist mid acc dec jerk ≤ dist then jerkPeak dist acc dec jerk k mid hi else jerkPeak dist acc dec jerk k lo mid
/-- R288: the jerk-limited plan for a distance of `d` steps: its velocity at `t` seconds, none once it has run out. A jerk,
acceleration or deceleration of 0 gives no plan. [log 10 DESIGN CHOICE] -/
def jerkMove (d vmax acc dec jerk : Nat) (t : Rat) : Option Rat :=
  if acc = 0 ∨ dec = 0 ∨ jerk = 0 ∨ vmax = 0 then none
  else
    let full := jerkDist vmax acc dec jerk
    let peak := if full ≤ d then (vmax : Rat) else jerkPeak d acc dec jerk 40 0 vmax
    let up := jerkTime peak acc jerk
    let down := jerkTime peak dec jerk
    let flat := if full ≤ d then ((d : Rat) - full) / vmax else 0
    if up + flat + down ≤ t then none
    else if t ≤ up then some (jerkGain peak acc jerk t)
    else if t ≤ up + flat then some peak
    else some (peak - jerkGain peak dec jerk (t - up - flat))
/-- R288: the jerk-limited ramp to a speed. [log 10 DESIGN CHOICE] -/
def jerkRamp (target acc jerk : Nat) (t : Rat) : Rat := if acc = 0 ∨ jerk = 0 then 0 else jerkGain target acc jerk t
/-- R290: |V| of a STOP under MX_PROFILE 1 at `t` seconds after it took effect: the deceleration builds up at MX_JERK to
MX_STOP_DECEL. [log 10 DESIGN CHOICE] -/
def jerkStop (first : Rat) (dec jerk : Nat) (t : Rat) : Rat :=
  if jerk = 0 then first
  else
    let tj : Rat := ratio dec jerk
    if t ≤ tj then first - jerk * t * t / 2 else first - jerk * tj * tj / 2 - dec * (t - tj)

/-- R288: a plan's velocity in steps/s at `t` seconds after its start edge, none once a position-mode plan has run out. [log
10 DESIGN CHOICE] -/
def Plan.velocity (p : Plan) (t : Rat) : Option Rat :=
  let d := p.goal.natAbs
  let v :=
    if p.position then (if p.jerked then jerkMove d p.vmax p.acc p.dec p.jerk t else trapezoid d p.vmax p.acc p.dec t)
    else some (if p.jerked then jerkRamp d p.acc p.jerk t else min ((p.acc : Rat) * t) (d : Rat))
  v.map fun v => if p.goal < 0 then -v else v
/-- R288: the plan that a generator's settings make now. -/
def State.planMake (s : State) (m : Nat) : Plan :=
  { position := s.genMode m == 1
    goal := if s.genMode m = 1 then s.n (Obj.MX_TARGET_POS m) - s.n (Obj.MX_POSITION m) else s.n (Obj.MX_TARGET_SPEED m)
    jerked := s.on (Obj.MX_PROFILE m), vmax := s.nat (Obj.MX_VMAX m), acc := s.nat (Obj.MX_ACCEL m), dec := s.nat (Obj.MX_DECEL m)
    jerk := s.nat (Obj.MX_JERK m) }
/-- R288: the middle of the `k`-th nominal tick since the start edge, in seconds. -/
def State.planTime (s : State) (k : Nat) : Rat :=
  ((2 * k + 1 : Nat) : Rat) / 2 * (s.nat Obj.BEAT_LENGTH : Rat) / 1000000 / (s.nat Obj.TICKS_PER_BEAT : Rat)

/-- R287–R289: V for the coming tick of a moving generator. -/
def State.genPlanTick (s : State) (m : Nat) : State :=
  let g := s.gen m
  let k := g.ticks
  match g.plan.velocity (s.planTime k) with
  | some v => s.genMod m fun g => { g with v := velWord (s.velLimit m v), ticks := k + 1 }
  | none =>
    let v : Rat := s.nat (Obj.MX_V_MIN m)
    s.genMod m fun g => { g with v := velWord (s.velLimit m (if g.plan.goal < 0 then -v else v)), ticks := k + 1, creep := true }

/-- R287, step 2: the start edge of a pending move. -/
def State.genStart (s : State) (m : Nat) : State :=
  let plan := s.planMake m
  let s := (s.genHalf m).genMod m fun g =>
    { g with pending := false, moving := true, done := false, creep := false, plan := plan, ticks := 0, moves := (g.moves + 1) % 65536 }
  if plan.position ∧ plan.goal = 0 then s.genComplete m else s.genPlanTick m

/-! ### Electronic gearing (R294–R301). -/

/-- R295: one row of a gearing table. -/
structure GearRow where
  start : Int
  num : Int
  den : Nat
  deriving DecidableEq, Repr

/-- R295: the rows of a table; start[0] is read as −2^31. -/
def gearRows (b : List Byte) : List GearRow :=
  (rowsOf 12 b).zipIdx.map fun (r, i) =>
    ⟨if i = 0 then -2147483648 else leSigned (r.take 4), leSigned ((r.drop 4).take 4), leNat (r.drop 8)⟩
/-- R295: may the rows be staged? -/
def gearRowsOk (rows : List GearRow) : Bool :=
  rows.length ≤ 16 && rows.all (fun r => 1 ≤ r.den) &&
    (List.range rows.length).all fun i => i < 2 || decide ((rows.getD (i - 1) ⟨0, 0, 1⟩).start < (rows.getD i ⟨0, 0, 1⟩).start)
/-- R295: the segment a master position lies in: the last row that starts at or below it. -/
def gearSegment (rows : List GearRow) (m : Int) : Nat := (rows.filter fun r => decide (r.start ≤ m)).length - 1
/-- R295: does a master position lie in the centre segment? [log 50 DEDUCED] -/
def gearCentred (rows : List GearRow) (m : Int) : Bool := !rows.isEmpty && gearSegment rows m == gearSegment rows 0
/-- One segment's share of the map, rounded toward minus infinity. -/
def GearRow.run (r : GearRow) (d : Int) : Int := d * r.num / r.den
/-- R296: the map at and above the centre: rows from the present one on, and the value at `pos`, where it begins. -/
def gearUp : List GearRow → Int → Int → Int → Int
  | [], base, _, _ => base
  | [r], base, pos, m => base + r.run (m - pos)
  | r :: q :: rest, base, pos, m =>
    if m < q.start then base + r.run (m - pos) else gearUp (q :: rest) (base + r.run (q.start - pos)) q.start m
/-- R296: the map below the centre: rows from the present one down, and the value at `pos`, where it ends. -/
def gearDown : List GearRow → Int → Int → Int → Int
  | [], base, _, _ => base
  | r :: rest, base, pos, m =>
    if r.start ≤ m ∨ rest.isEmpty then base + r.run (m - pos) else gearDown rest (base + r.run (r.start - pos)) r.start m
/-- R296: F. -/
def gearMap (rows : List GearRow) (m : Int) : Int :=
  let c := gearSegment rows 0
  if 0 ≤ m then gearUp (rows.drop c) 0 0 m else gearDown (rows.take (c + 1)).reverse 0 0 m

/-- R294: the master's raw value. -/
def State.gearRaw (s : State) (m : Nat) : Int :=
  let g := s.nat (Obj.GEAR_MASTER m)
  if g ≤ 0x0B then s.n (Obj.FB_COUNTER g)
  else if 0x10 ≤ g ∧ g ≤ 0x17 then s.n (Obj.SN_VALUE1 (g - 0x10))
  else if 0x18 ≤ g ∧ g ≤ 0x1F then s.n (Obj.SN_VALUE2 (g - 0x18))
  else if 0x20 ≤ g ∧ g ≤ 0x2B then s.n (Obj.OB_POSITION (g - 0x20))
  else s.node (s.nat (Obj.GEAR_MASTER_NODE m))
/-- R294: the master position. -/
def State.gearMaster (s : State) (m : Nat) : Int := diff32 (s.gearRaw m) (s.n (Obj.GEAR_MASTER_ZERO m))
/-- R301: does the master source show a fault? -/
def State.gearBad (s : State) (m : Nat) : Bool :=
  let g := s.nat (Obj.GEAR_MASTER m)
  if g ≤ 0x0B then !s.bit (Obj.FB_STATUS g) 7
  else if 0x10 ≤ g ∧ g ≤ 0x1F then (vget s.sn (g % 8)).timeout
  else if 0x20 ≤ g ∧ g ≤ 0x2B then (vget s.ob (g - 0x20)).lost
  else false
/-- The rows of table 0 or 1 of a gearing unit. -/
def State.gearTable (s : State) (m t : Nat) : List GearRow := gearRows (s.oct (if t = 0 then Obj.GEAR_TABLE0 m else Obj.GEAR_TABLE1 m))
/-- R299: the active table. -/
def State.gearActive (s : State) (m : Nat) : List GearRow := s.gearTable m (s.nat (Obj.GEAR_TABLE_ACTIVE m))

/-- R297, R298: the shift that leaves T where it is, once F is the active table's. -/
def State.gearKeep (s : State) (m : Nat) : State :=
  let g := s.gen m
  s.putN (Obj.GEAR_SHIFT m) (wrap64 (g.target - (g.offset + gearMap (s.gearActive m) (s.gearMaster m))))

/-- R300: T is formed anew, and P follows it at once for an axis, a valve drive or no target. -/
def State.gearTarget (s : State) (m : Nat) : State :=
  let g := s.gen m
  if !g.engaged then s
  else
    let t := if g.hold ∨ (s.gearActive m).isEmpty then g.target
      else g.offset + gearMap (s.gearActive m) (s.gearMaster m) + s.n (Obj.GEAR_SHIFT m)
    let s := s.genMod m fun g => { g with target := t }
    if g.stop.isSome ∨ (s.genStepPair m).isSome then s
    else (s.putN (Obj.MX_POSITION m) (wrap64 t)).vsMoved m (s.n (Obj.MX_POSITION m))

/-- R309: GEAR_STATUS and GEAR_SEGMENT. -/
def State.gearStatus (s : State) (m : Nat) : State :=
  let g := s.gen m
  let v := s.gearMaster m
  let both := gearCentred (s.gearTable m 0) v && gearCentred (s.gearTable m 1) v
  let w := b2n g.lag <<< 5 + b2n (g.engaged && g.hold) <<< 4 + b2n (s.bit (Obj.GEAR_STATUS m) 3) <<< 3 + b2n both <<< 2 +
    b2n (s.on (Obj.GEAR_SHIFT m)) <<< 1 + b2n (s.gearActive m).isEmpty
  (s.putN (Obj.GEAR_STATUS m) w).putN (Obj.GEAR_SEGMENT m) (gearSegment (s.gearActive m) v)

/-- R299: GEAR_TABLE_REQUEST is written: a request other than the active table waits for its switch. -/
def State.gearRequest (s : State) (m : Nat) (v : Int) : State :=
  let s := s.putN (Obj.GEAR_TABLE_REQUEST m) v
  s.putBit (Obj.GEAR_STATUS m) 3 (v != s.n (Obj.GEAR_TABLE_ACTIVE m))

/-- GEAR_TABLE_SWITCH (R299): m lies inside the centre segment of both tables and the pending table becomes active; an
empty table has no segment to wait for. [log 50 DEDUCED] -/
def runGearTableSwitch (m : Fin 12) (s : State) : Res :=
  let v := s.gearMaster m
  let ok (t : Nat) : Bool := (s.gearTable m t).isEmpty || gearCentred (s.gearTable m t) v
  if s.bit (Obj.GEAR_STATUS m) 3 && ok 0 && ok 1 then
    let s := s.putN (Obj.GEAR_TABLE_ACTIVE m) (s.n (Obj.GEAR_TABLE_REQUEST m))
    let s := (s.putBit (Obj.GEAR_STATUS m) 3 false).count (Obj.GEAR_SWITCHES m) 32
    let s := if (s.gearActive m).isEmpty ∨ !(s.gen m).engaged then s else s.gearKeep m
    .next (s.gearStatus m)
  else .next s

/-- R299: what the application firmware writes each beat from the vehicle speed of R340, 0xFFFF when unknown. [log 223
DEDUCED] -/
def State.gearBand (s : State) : State :=
  let speed := s.nat Obj.VEH_SPEED
  s.each 12 fun s m =>
    if s.nat (Obj.GEAR_BAND_MODE m) ≠ 0 then s
    else if speed = 0xFFFF then (if (s.gearTable m 1).isEmpty then s else s.gearRequest m 1)
    else if s.nat (Obj.GEAR_BAND_UP m) ≤ speed then s.gearRequest m 1
    else if speed ≤ s.nat (Obj.GEAR_BAND_DOWN m) then s.gearRequest m 0
    else s

/-- R297: gearing engages at a tick edge. -/
def State.gearEngage (s : State) (m : Nat) : State :=
  let s := s.putN (Obj.GEAR_TABLE_ACTIVE m) (s.n (Obj.GEAR_TABLE_REQUEST m))
  let s := s.putBit (Obj.GEAR_STATUS m) 3 false
  let p := s.n (Obj.MX_POSITION m)
  let f := gearMap (s.gearActive m) (s.gearMaster m)
  let rel := s.nat (Obj.GEAR_ENGAGE m) = 0
  let off := if rel then p - f else s.n (Obj.GEAR_OFFSET m)
  let s := s.putN (Obj.GEAR_SHIFT m) (wrap64 (if rel then 0 else p - (off + f)))
  s.genMod m fun g => { g with engageNext := false, engaged := true, offset := off, target := p, hold := s.gearBad m, stop := none, stopNext := false }

/-- R298: a shift moves toward 0 at a tick edge. -/
def State.gearBlend (s : State) (m : Nat) : State :=
  let x := s.n (Obj.GEAR_SHIFT m)
  let r := s.n (Obj.GEAR_BLEND_RATE m)
  s.putN (Obj.GEAR_SHIFT m) (if 0 < x then max 0 (x - r) else min 0 (x + r))

/-- R301: a master hold begins or ends with the state of its source. -/
def State.gearHold (s : State) (m : Nat) : State :=
  let bad := s.gearBad m
  let was := (s.gen m).hold
  let s := s.genMod m fun g => { g with hold := bad }
  if was && !bad && !(s.gearActive m).isEmpty then s.gearKeep m else s

/-! ### A tick edge (R283, R287–R292, R297–R301). -/

/-- R290: V of a stopping generator for the coming tick, and rest at the end of the ramp. [log 48 DEDUCED] -/
def State.genStopTick (s : State) (m : Nat) (now first : Rat) (done : Nat) : State :=
  let len := s.clk.tickLen
  let dec := s.nat (Obj.MX_STOP_DECEL m)
  let mag := if s.nat (Obj.MX_PROFILE m) = 0 then |now| - (dec : Rat) * secs len
    else jerkStop |first| dec (s.nat (Obj.MX_JERK m)) (secs (done + len))
  if mag ≤ 0 then
    let s := s.genMod m fun g => { g with v := 0, stop := none, moving := false, creep := false, engaged := false, restAt := s.clk.ended }
    if s.genMode m = 3 then s.putN (Obj.MX_MODE m) 1 else s
  else
    let v := if now < 0 then -mag else mag
    s.genMod m fun g => { g with v := velWord (s.velLimit m v), stop := some (v, first, done + len) }

/-- R292: the nodes of a generator and of its gearing unit. -/
def State.genNodes (s : State) (m : Nat) (vel : Int) : State :=
  let p := s.n (Obj.MX_POSITION m)
  let k := s.fx (Obj.MX_OUT_K m)
  let st := s.genStatus m
  let s := ((s.setNode (832 + 4 * m) (asr (p * k.1) k.2)).setNode (833 + 4 * m) vel).setNode (834 + 4 * m) st
  let s := (s.setNode (835 + 4 * m) p).setNode (880 + m) (s.gearMaster m)
  (s.putN (Obj.MX_VELOCITY m) vel).putN (Obj.MX_STATUS m) st

/-- R283, R287–R290, R297–R301: one generator at a tick edge; `clocks` is the tick that has ended. -/
def State.genTick (s : State) (m clocks : Nat) : State :=
  let g := s.gen m
  let p := s.n (Obj.MX_POSITION m)
  let vel : Int := sat32 (
    if g.engaged && g.stop.isNone then Config.roundQuot ((p - g.last) * 200000000) clocks
    else Config.roundQuot (g.vTick * 200000000) (2 ^ 33))
  let lag := g.engaged && g.stop.isNone && decide (1 < (g.target - p).natAbs)
  let s := s.genMod m fun g => { g with still := g.vTick == 0 && g.v == 0, last := p, clocks := 0, lag := lag }
  let s := s.gearBlend m
  let s :=
    if g.stopNext then
      let v := if g.engaged then ((p - g.last : Int) : Rat) / secs clocks else (g.v : Rat) * 200000000 / 8589934592
      (s.genMod m fun g => { g with stopNext := false, engaged := false }).genStopTick m v v 0
    else match g.stop with
      | some (now, first, done) => s.genStopTick m now first done
      | none =>
        if g.engageNext then s.gearEngage m
        else if g.engaged then s.gearHold m
        else if g.pending && (s.nat (Obj.MX_START_TIME m) ≤ s.clk.now) then s.genStart m
        else if g.moving then s.genPlanTick m
        else s
  let s := (s.gearTarget m).gearStatus m
  let s := s.genMod m fun g => { g with vTick := g.v }
  s.genNodes m vel

/-- R300, R301: the engaged gearing units whose master is FB channel `n` follow its counter, or hold. -/
def State.gearsFollow (s : State) (n : Nat) : State :=
  s.each 12 fun s m =>
    if s.nat (Obj.GEAR_MASTER m) = n ∧ (s.gen m).engaged then ((s.gearHold m).gearTarget m).gearStatus m else s

/-- GENERATOR_STEP (R282, R284, R300): the next step of a generator within the present tick: a carry or borrow of its
accumulator, or, in gearing to a step output, a step toward T once the pair is free. -/
def runGeneratorStep (m : Fin 12) (s : State) : Res :=
  let g := s.gen m
  if g.engaged ∧ g.stop.isNone then
    let p := s.n (Obj.MX_POSITION m)
    .next (if (s.genStepPair m).isSome && !g.pulse && p != g.target then s.genStep m (p < g.target) else s)
  else .next ((s.genNext m).getD s)

/-- FB_INPUT_EDGE (R184–R189, R300): what a channel's filters give at a filter clock; the gearing units that follow the
channel form T anew. -/
def runFbInputEdge (n : Fin 12) (e : FbEvent) (clock : Nat) (s : State) : Res :=
  .next ((s.fbEdge n e clock).gearsFollow n)
/-- INDEX_EVENT (R191–R194, R300): Z is asserted in the gated state, at the filter clock `clock`; a step of the counter moves
the gearing units that follow the channel. -/
def runIndexEvent (n : Fin 12) (clock : Nat) (s : State) : Res := .next ((s.indexEvent n clock).gearsFollow n)

/-- R282: before a tick edge every step of the ended tick has been issued. [log 51 DEDUCED] -/
def State.motionDrain (s : State) : State := s.each 12 fun s m => s.genDrain m s.clk.tickLen
/-- Every generator at a tick edge. -/
def State.motionTick (s : State) (clocks : Nat) : State := s.each 12 fun s m => s.genTick m clocks

end Sys2Proof.Machine
end

