-- ==== Sys2Proof/Machine/Blending.lean ====
section
/-!
DEFINITION. Machine/Blending.lean: brake blending (R332–R352): pedal and autonomy demand, vehicle speed and slip, and the
split of the demand between regeneration, grid and friction.
-/
namespace Sys2Proof.Machine

/-- A truncated quotient whose value with divisor 0 is open. [log 54 DESIGN CHOICE] -/
def quotT (x y : Int) : Int := if y = 0 then Config.quotZero x else x.tdiv y
/-- A node that an entry names, 0 where it names none. -/
def State.nodeOf (s : State) (key : Nat) : Int := if s.nat key = 0xFFFF then 0 else s.node (s.nat key)

/-- R454: a node is served while a consumer connection in RUN maps it. -/
def State.nodeServed (s : State) (n : Nat) : Bool :=
  s.dict.any fun e =>
    let c := e.1 / 256
    0xB000 ≤ c && c ≤ 0xB3FF && e.1 % 256 == 0x10 && decide (e.2 = .num 2) && s.nat (256 * c + 1) == 2 &&
      (rowsOf 12 (s.oct (256 * c + 0x0A))).any fun r => leNat (r.take 2) == n

/-! ### Pedals (R335–R337). -/

/-- R335: an AIN result that lacks SETTLED or carries RANGE or UNCAL. -/
def State.pedalFlagged (s : State) (src : Nat) : Bool :=
  let st := s.nodeU (384 + src)
  !(st.testBit 3 && !st.testBit 5 && !st.testBit 4)
/-- R335: a sensor's raw value, whether its own flags permit it, and its status sequence; none where none is named. -/
def State.pedalRaw (s : State) (k : Nat) : Option (Int × Bool × Nat) :=
  let src := s.nat (if k = 0 then Obj.PEDAL_SRC1 else Obj.PEDAL_SRC2)
  if src ≤ 0x2F then
    some (s.node (320 + src), !s.pedalFlagged src, s.nodeU (384 + src) / 65536)
  else if 0x40 ≤ src ∧ src ≤ 0x4F then
    let n := src % 8
    some (s.node (if src < 0x48 then 512 + n else 520 + n), !(vget s.sn n).timeout, s.nodeU (528 + n) / 65536)
  else none
/-- R335: travel in 0.01 %, clamped. -/
def travelOf (raw zero full : Int) : Int := clamp 0 10000 (quotT ((raw - zero) * 10000) (full - zero))
/-- R335: does a raw value lie within 5 % of the span? -/
def inSpan (raw zero full : Int) : Bool :=
  let span : Int := (full - zero).natAbs
  20 * (min zero full - raw) ≤ span && 20 * (raw - max zero full) ≤ span
def State.pedalZero (s : State) (k : Nat) : Int := s.n (if k = 0 then Obj.PEDAL_ZERO1 else Obj.PEDAL_ZERO2)
def State.pedalFull (s : State) (k : Nat) : Int := s.n (if k = 0 then Obj.PEDAL_FULL1 else Obj.PEDAL_FULL2)

/-- R335: the beats since a sensor's status sequence last advanced, counted in late beats too. -/
def State.pedalAge (s : State) (k : Nat) : State :=
  match s.pedalRaw k with
  | none => s
  | some (_, _, seq) =>
    { s with bl.seq := vset s.bl.seq k seq, bl.age := vset s.bl.age k (if seq = vget s.bl.seq k then vget s.bl.age k + 1 else 0) }
/-- R335: one pedal sensor read at a beat: travel and validity. [log 226 DESIGN CHOICE] -/
def State.pedalRead (s : State) (k : Nat) : State :=
  match s.pedalRaw k with
  | none => { s with bl.valid := vset s.bl.valid k false, bl.travel := vset s.bl.travel k 0 }
  | some (raw, ok, _) =>
    let fresh := vget s.bl.age k * s.nat Obj.BEAT_LENGTH < 20000
    { s with
      bl.valid := vset s.bl.valid k (ok && fresh && inSpan raw (s.pedalZero k) (s.pedalFull k))
      bl.travel := vset s.bl.travel k (travelOf raw (s.pedalZero k) (s.pedalFull k)) }

/-- R336: the rows of PEDAL_MAP: travel and deceleration. -/
def pedalRows (b : List Byte) : List (Int × Int) := (rowsOf 4 b).map fun r => ((leNat (r.take 2) : Int), (leNat (r.drop 2) : Int))
/-- R336: 1 to 8 rows, travel strictly ascending, deceleration not descending. -/
def pedalMapOk (rows : List (Int × Int)) : Bool :=
  1 ≤ rows.length && rows.length ≤ 8 &&
    (rows.zip (rows.drop 1)).all fun (a, b) => decide (a.1 < b.1 ∧ a.2 ≤ b.2)
/-- Linear interpolation between rows of (x, y), truncated; `below` under the first row, the last y above the last. -/
def interpolate (below : Int) (x : Int) : List (Int × Int) → Int
  | [] => below
  | [a] => if x < a.1 then below else a.2
  | a :: b :: rest =>
    if x < a.1 then below
    else if x < b.1 then a.2 + ((b.2 - a.2) * (x - a.1)).tdiv (b.1 - a.1)
    else interpolate below x (b :: rest)
/-- R336: pedal deceleration in mm/s² of a travel. -/
def State.pedalDecel (s : State) (travel : Int) : Int := interpolate 0 travel (pedalRows (s.oct Obj.PEDAL_MAP))

/-- R351, R374: the detail of PEDAL_DISAGREE. -/
def State.pedalDetail (s : State) : Int := vget s.bl.travel 0 * 65536 + vget s.bl.travel 1

/-- R337: the pedal deceleration of the beat. [log 226 DESIGN CHOICE] -/
def State.pedalDemand (s : State) : Int :=
  let a := vget s.bl.travel 0
  let b := vget s.bl.travel 1
  match vget s.bl.valid 0, vget s.bl.valid 1 with
  | true, true => s.pedalDecel (if s.bl.disagree then max a b else (a + b).tdiv 2)
  | true, false => s.pedalDecel a
  | false, true => s.pedalDecel b
  | false, false => s.n Obj.PEDAL_LOSS_DECEL

/-- PEDAL_DISAGREE_TIMEOUT (R337): the sensors have differed by more than PEDAL_TOL for PEDAL_DIS_TIME. -/
def runPedalDisagreeTimeout (s : State) : Res :=
  .next (if s.bl.differ && !s.bl.disagree then
    { s with bl.disagree := true }.raise Src.blend Kind.PEDAL_DISAGREE 1 (some s.pedalDetail) else s)

/-! ### Speed and slip (R340, R341). -/

/-- R340: the speed of a valid wheel in mm/s. -/
def State.wheelSpeed (s : State) (w : Nat) : Option Int :=
  let n := s.nat (Obj.WHEEL_SRC w)
  let ok :=
    if 560 ≤ n ∧ n ≤ 571 then
      let x := vget s.ob (n - 560)
      x.valid && !x.lost && !x.coast
    else 3072 ≤ n && n ≤ 3583 && s.nodeServed n
  if ok then some (mulK (s.fx (Obj.WHEEL_K w)) ((s.node n).natAbs : Int)).1 else none
/-- The largest of a list of numbers and the list without it. -/
def takeMax (l : List Int) : Option (Int × List Int) :=
  match l with
  | [] => none
  | a :: r =>
    let m := r.foldl max a
    some (m, l.erase m)
/-- R340: the speed chosen from the valid wheels, before the 100 mm/s threshold. -/
def chooseSpeed (l : List Int) : Option Int :=
  match takeMax l with
  | none => none
  | some (m, rest) => if 3 ≤ l.length then (takeMax rest).map (·.1) else some m
/-- R340: vehicle speed in mm/s, none when unknown. -/
def State.vehicleSpeed (s : State) : Option Int :=
  let wheels := (List.range 8).filterMap s.wheelSpeed
  let n := s.nat Obj.VEH_SPEED_NODE
  let v := match chooseSpeed wheels with
    | some v => some v
    | none => if n ≠ 0xFFFF ∧ s.nodeServed n then some (s.node n) else none
  v.map fun v => if v < 100 then 0 else v
/-- R340: VEH_SPEED in 0.01 km/h. -/
def vehSpeedOf (v : Option Int) : Int :=
  match v with
  | none => 0xFFFF
  | some v => min ((v * 9).tdiv 25) 0xFFFE
/-- R120, R340: does the lane have any speed source configured? -/
def State.hasSpeedSource (s : State) : Bool :=
  s.nat Obj.VEH_SPEED_NODE != 0xFFFF || (List.range 8).any fun w => s.nat (Obj.WHEEL_SRC w) != 0xFFFF

/-- R341: λ of an axle in 0.01 %, none where it cannot be formed. -/
def State.axleSlip (s : State) (a : Nat) (v : Option Int) : Option Int :=
  let l := (List.range 8).filterMap fun w => if s.nat (Obj.WHEEL_AXLE w) = a then s.wheelSpeed w else none
  match v with
  | none => none
  | some v =>
    if l.isEmpty ∨ v < s.n (Obj.SLIP_MIN_SPEED a) ∨ v = 0 then none
    else some (((v - (l.foldl (· + ·) 0).tdiv l.length) * 10000).tdiv v)

/-- R341: the slip factor of an axle changes once per beat. [log 226 DESIGN CHOICE] -/
def State.slipUpdate (s : State) (v : Option Int) (a : Nat) : State :=
  let used := (List.range 8).any fun i => s.nat (Obj.INV_AXLE i) = a
  match s.axleSlip a v with
  | none => s
  | some l =>
    if !used then s
    else
      let f := s.n (Obj.AXLE_SLIP_FACTOR a)
      let f' := if s.n (Obj.SLIP_THRESH a) < l then max 0 (f - 8192)
        else if l < s.n (Obj.SLIP_THRESH a) - s.n (Obj.SLIP_HYST a) then min 65536 (f + 1024) else f
      let s := (s.putN (Obj.AXLE_SLIP_FACTOR a) f').putN (Obj.AXLE_SLIP a) (clamp 0 65535 l)
      s.when (f == 65536 && f' < 65536) (·.raise Src.blend Kind.BLEND_SLIP 1 (some (a * 2 ^ 24 + l % 2 ^ 24)))

/-! ### The split (R338, R339, R342–R346). -/

/-- R338: the autonomy demand. -/
def State.autonomy (s : State) : Int := max 0 (s.nodeOf Obj.AUTO_DEMAND_NODE)
/-- R339: the mass used. -/
def State.massUsed (s : State) : Int :=
  let top := s.n Obj.VEH_MASS
  let n := s.nat Obj.VEH_MASS_NODE
  if n ≠ 0xFFFF ∧ s.nodeServed n ∧ top ≤ 4 * s.node n ∧ s.node n ≤ top then s.node n else top
/-- R342: φ. -/
def State.regenFade (s : State) (v : Option Int) : Int :=
  let lo := s.n Obj.REGEN_FADE_LO
  let hi := s.n Obj.REGEN_FADE_HI
  match v with
  | none => 0
  | some v => if v < lo then 0 else if hi < v then 65536 else quotT ((v - lo) * 65536) (hi - lo)
/-- R342: the force an inverter can give, N. -/
def State.invForce (s : State) (i : Nat) : Int := (mulK (s.fx (Obj.INV_FORCE_K i)) (max 0 (s.nodeOf (Obj.INV_AVAIL_NODE i)))).1
/-- The inverters of an axle. -/
def State.invsOf (s : State) (a : Nat) : List Nat := (List.range 8).filter fun i => s.nat (Obj.INV_AXLE i) = a

/-- R343: the link voltage in 0.1 V by its two readings, none where a reading is absent. [log 55 DESIGN CHOICE] -/
def State.linkReadings (s : State) : Option Int × Option Int :=
  let ch := s.nat Obj.HV_MEAS_CH
  let st := s.nodeU (384 + ch)
  let a := if ch ≤ 47 ∧ st.testBit 3 ∧ !st.testBit 5 ∧ !st.testBit 4 then some (mulK (s.fx Obj.HV_MEAS_K) (s.node (320 + ch))).1 else none
  let n := s.nat Obj.HV_REPORT_NODE
  (a, if n ≠ 0xFFFF ∧ s.nodeServed n then some (s.node n) else none)

/-- What one split gives. -/
structure Split where
  f : List Int
  e : List Int
  reg : List Int
  grid : List Int
  fric : List Int
  h : Int
  u : Int
  /-- R351: HVLINK conditions 0x1–0x4 -/
  conds : List Bool
  deriving DecidableEq, Repr

/-- R342–R344: the split of a demand d over the axles. [log 55, 226 DESIGN CHOICE] -/
def State.split (s : State) (v : Option Int) (d : Int) : Split :=
  let mass := s.massUsed
  let φ := s.regenFade v
  let axles := List.range 4
  let f := axles.map fun a => ((mass * d).tdiv 1000 * s.n (Obj.AXLE_SHARE a)).tdiv 1000
  let r := axles.map fun a => (s.invsOf a).foldl (fun t i => t + s.invForce i) 0
  let rise := (s.n Obj.BLEND_RATE_UP * s.n Obj.BEAT_LENGTH).tdiv 1000000
  let e := axles.map fun a =>
    let cap := asr (asr (r.getD a 0 * s.n (Obj.AXLE_SLIP_FACTOR a)) 16 * φ) 16
    min (min (f.getD a 0) cap) (vget s.bl.ePrev a + rise)
  let rd := s.linkReadings
  let limit := s.n Obj.HV_LIMIT
  let band := s.n Obj.HV_BAND
  let hvOf (u : Int) : Int := if u ≤ limit - band then 65536 else if limit ≤ u then 0 else quotT (65536 * (limit - u)) band
  let u : Option Int := match rd with
    | (some a, some b) => some (max a b)
    | (some a, none) => some a
    | (none, b) => b
  let clash := match rd with
    | (some a, some b) => decide (s.n Obj.HV_TOL < ((a - b).natAbs : Int))
    | _ => false
  let vv := v.getD 0
  let p := ((e.foldl (· + ·) 0) * vv).tdiv 1000
  let acc := s.nat Obj.HV_ACCEPT_NODE
  let hp : Int :=
    if acc = 0xFFFF then 65536
    else if !s.nodeServed acc then 0
    else if p ≤ s.node acc then 65536 else max 0 (65536 * s.node acc / p)
  let hv := match u with | some u => hvOf u | none => 0
  let h := match u with | some _ => min hv hp | none => 0
  let reg := e.map fun x => asr (x * h) 16
  let rest := (e.zip reg).map fun (x, y) => x - y
  let total := rest.foldl (· + ·) 0
  let gn := s.nat Obj.GRID_AVAIL_NODE
  let fg := if vv = 0 ∨ gn = 0xFFFF ∨ !s.nodeServed gn then 0 else (max 0 (s.node gn) * 1000).tdiv vv
  let grid := rest.map fun x => if total = 0 then 0 else min x ((fg * x).tdiv total)
  let fric := axles.map fun a => f.getD a 0 - reg.getD a 0 - grid.getD a 0
  { f := f, e := e, reg := reg, grid := grid, fric := fric, h := h, u := u.getD 0
    conds := [u.isSome && hv < 65536, u.isSome && hp < hv, clash, u.isNone] }

/-- R345: the torque request of an inverter in N·m. -/
def State.torque (s : State) (x : Split) (i : Nat) : Int :=
  let a := s.nat (Obj.INV_AXLE i)
  let r := (s.invsOf a).foldl (fun t j => t + s.invForce j) 0
  if 3 < a ∨ r = 0 then 0
  else
    let force := ((x.reg.getD a 0 + x.grid.getD a 0) * s.invForce i).tdiv r
    let k := s.fx (Obj.INV_FORCE_K i)
    if force = 0 then 0 else quotT (force * 2 ^ k.2) k.1

/-- R346: the command of a friction output. -/
def State.friction (s : State) (x : Split) (i : Nat) : Int :=
  let a := s.nat (Obj.FRIC_AXLE i)
  let f := if 3 < a then 0 else x.fric.getD a 0
  if f = 0 then 0
  else min (s.n (Obj.FRIC_MAX i)) (s.n (Obj.FRIC_OFFSET i) + (mulK (s.fx (Obj.FRIC_K i)) ((f * s.n (Obj.FRIC_FRACTION i)).tdiv 1000)).1)

/-- R351: a qualifier is raised on entry into its condition. -/
def State.blendCond (s : State) (slot : Nat) (now : Bool) (kind qual : Nat) (detail : Int) : State :=
  let was := vget s.bl.held slot
  let s := { s with bl.held := vset s.bl.held slot now }
  s.when (now && !was) (·.raise Src.blend kind qual (some detail))

/-- R332–R350: the split of a beat, read in tick 0; its outputs wait for tick BLEND_TICK − 1. [log 56 DEDUCED] -/
def State.blendSplit (s : State) (v : Option Int) : State :=
  let s := (s.pedalRead 0).pedalRead 1
  let both := vget s.bl.valid 0 && vget s.bl.valid 1
  let differ := both && decide (s.n Obj.PEDAL_TOL < ((vget s.bl.travel 0 - vget s.bl.travel 1).natAbs : Int))
  let s := { s with bl.differ := differ, bl.disagree := s.bl.disagree && differ }
  let none2 := !vget s.bl.valid 0 && !vget s.bl.valid 1
  let s := s.blendCond 4 (!both && !none2) Kind.PEDAL_DISAGREE 2 s.pedalDetail
  let s := s.blendCond 5 none2 Kind.PEDAL_DISAGREE 3 s.pedalDetail
  let s := (List.range 4).foldl (fun s a => s.slipUpdate v a) s
  let pedal := s.pedalDemand
  let auto' := s.autonomy
  let d := max pedal auto'
  let x := s.split v d
  let s := { s with bl.ePrev := Vector.ofFn fun a => x.e.getD a.val 0 }
  let s := (List.range 4).foldl (fun s i => s.blendCond i (x.conds.getD i false) Kind.BLEND_HVLINK_LIMIT (i + 1) x.u) s
  let slip : Bool := (List.range 4).any fun a => decide (s.n (Obj.AXLE_SLIP_FACTOR a) < (65536 : Int))
  let low : Bool := decide (x.h < (65536 : Int))
  let status : Nat := b2n none2 <<< 7 + b2n v.isNone <<< 6 + b2n low <<< 5 + b2n slip <<< 4 +
    b2n (vget s.bl.valid 1) <<< 3 + b2n (vget s.bl.valid 0) <<< 2 + b2n s.bl.disagree <<< 1 + 1
  let per (base : Nat) (l : List Int) : List (Nat × Int) := l.zipIdx.map fun (y, i) => (base + i, y)
  let gridW := ((x.grid.foldl (· + ·) 0) * v.getD 0).tdiv 1000
  { s with
    bl.nodesOut := [(3073, d), (3074, pedal), (3075, auto'), (3076, status), (3077, x.h), (3078, x.u), (3079, s.massUsed)] ++
      per 3080 x.f ++ per 3084 x.reg ++ per 3088 x.grid ++ per 3092 x.fric ++
      per 3096 ((List.range 4).map fun a => s.n (Obj.AXLE_SLIP_FACTOR a)) ++
      per 3100 ((List.range 8).map (s.friction x)) ++ per 3108 ((List.range 8).map (s.torque x)) ++ [(3116, gridW)]
    bl.entriesOut := [(Obj.BLEND_STATUS, status), (Obj.HV_VOLTAGE, clamp 0 65535 x.u), (Obj.HV_FACTOR, x.h),
      (Obj.PEDAL_TRAVEL, s.pedalDetail)] }

/-- R333, R334: the reads of tick 0. A late beat writes no output. [log 226 DESIGN CHOICE] -/
def State.blendRead (s : State) : State :=
  if !s.bl.due then s
  else
    let s := ({ s with bl.due := false }.pedalAge 0).pedalAge 1
    let on := s.on Obj.BLEND_ENABLE
    if s.bl.late then
      let s := (s.count Obj.BLEND_LATE_COUNT 32).putBit Obj.BLEND_STATUS 8 true
      { s with bl.lateRun := s.bl.lateRun + 1 }
    else
      let v := s.vehicleSpeed
      let s := { s with bl.lateRun := 0, bl.nodesOut := (List.range 44).map fun i => (3073 + i, 0),
                        bl.entriesOut := [(Obj.BLEND_STATUS, 0)] }
      let s := if on then s.blendSplit v else s
      let speed : List (Nat × Int) × List (Nat × Int) :=
        if s.hasSpeedSource then ([(3072, v.getD (-1))], [(Obj.VEH_SPEED, vehSpeedOf v)]) else if on then ([(3072, -1)], []) else ([], [])
      { s with bl.nodesOut := speed.1 ++ s.bl.nodesOut, bl.entriesOut := speed.2 ++ s.bl.entriesOut }

/-- R333: the outputs of the beat are in their nodes from the edge of tick BLEND_TICK. -/
def State.blendWrite (s : State) : State :=
  let ns := s.bl.nodesOut
  let es := s.bl.entriesOut
  let s := { s with bl.nodesOut := [], bl.entriesOut := [] }
  es.foldl (fun s e => s.putN e.1 e.2) (ns.foldl (fun s e => s.setNode e.1 e.2) s)

/-- R120: the rest condition's part that concerns vehicle speed. -/
def State.speedAtRest (s : State) : Bool := !s.hasSpeedSource || s.nat Obj.VEH_SPEED == 0
/-- R120: every valid observer that an enabled axis takes as angle source turns below 1 % of the axis's rated speed. -/
def State.axesAtRest (s : State) : Bool :=
  (List.range 6).all fun n =>
    !s.on (Obj.AX_ENABLE n) || [false, true].all fun second =>
      match s.axSource n second with
      | none => true
      | some o => !(vget s.ob o).valid || s.axAtRest n (s.axOmegaOf n second)
/-- R120: the rest condition: vehicle speed known and zero, and every valid angle source of an enabled axis below 1 % of
the axis's rated speed. -/
def State.atRest (s : State) : Bool := s.speedAtRest && s.axesAtRest

end Sys2Proof.Machine
end

