-- ==== Sys2Proof/Machine/Chaperone.lean ====
section
/-!
DEFINITION. Machine/Chaperone.lean: the chaperone die (R16–R18, R353, R354, R376–R401): states, power-arm chain, active
short-circuit grants, watchdog, envelope monitors, take-lead sequence, EB_OUT and the last waltz.
-/
namespace Sys2Proof.Machine

/-- R376: the state code. -/
def State.chapState (s : State) : Nat := s.nat Obj.CHAP_STATE

/-- R517: the chaperone raises a kind; while the main die is in reset it holds up to 8 messages, a ninth replacing the
oldest. -/
def State.chapRaise (s : State) (kind qual : Nat) (detail : Option Int) : State :=
  if s.ch.mainReset then
    let r := s.nextMsg (s.nat (Obj.FAULT_CLASS kind)) Src.chaperone kind qual detail
    let held := r.2.col.chapHeld
    let full := 8 ≤ held.length
    let t := r.2.when full (·.count Obj.FAULT_DROPS 32)
    { t with col := { t.col with chapHeld := (if full then held.drop 1 else held) ++ [r.1] } }
  else s.raise Src.chaperone kind qual detail

/-! ### Power-arm chain (R379). -/

/-- R379: the sealed enable of an output: AX0–5, VS0–3, SOL0–15. -/
def State.outEnable (s : State) (bit : Nat) : Bool :=
  if bit < 6 then s.on (Obj.AX_ENABLE bit) else if bit < 10 then s.on (Obj.VS_ENABLE (bit - 6))
  else if bit < 26 then s.on (Obj.SOL_ENABLE (bit - 10)) else false
/-- Every enabled output, as a mask. [log 63 DEDUCED] -/
def State.enabledMask (s : State) : Nat := (List.range 26).foldl (fun m b => if s.outEnable b then m + 2 ^ b else m) 0
/-- R267: the keeper's power-arm request: every enabled output but an axis whose flying start failed and that has no valid
source since. -/
def State.requestMask (s : State) : Nat :=
  (List.range 6).foldl (fun m n =>
    if m.testBit n && (s.axis n).failed && !s.axSourceValid n false && !s.axSourceValid n true then m - 2 ^ n else m) s.enabledMask
/-- R353, R361: the leadership condition. -/
def State.leadCondition (s : State) : Bool :=
  if s.nat Obj.LEAD_MODE = 0 then s.ch.leadOut && !vget s.ch.peers 0 && !vget s.ch.peers 1 && !s.ch.peerHold
  else s.ch.lease.isSome
/-- R18, R60, R379: the supplies and the clock an output's arm signal needs. -/
def State.armSupply (s : State) (bit : Nat) : Bool := !s.su.low.testBit 4 && !s.su.low.testBit 5 && (6 ≤ bit || !s.su.low.testBit 2)
/-- R71, R379: every condition of an output's arm signal. -/
def State.armOk (s : State) (bit : Nat) : Bool :=
  s.chapState == 2 && decide (s.nat Obj.WDG_ERRORS < s.nat Obj.WDG_LIMIT) && s.ch.request.testBit bit && s.leadCondition &&
    s.outEnable bit && s.armSupply bit && s.bit Obj.DOMAIN_STATUS 3 && !s.ch.scan && !s.ch.scanTest
/-- An arm signal is no longer asserted. -/
def State.armClear (s : State) (bit : Nat) : State := { s with ch.armed := s.ch.armed - 2 ^ bit }
/-- An output turns off with its arm signal. -/
def State.outWithdraw (s : State) (bit : Nat) : State := if bit < 6 then s.axWithdraw bit else s.valveWithdraw bit
/-- An output's arm signal deasserts and the output turns off at once (R261, R311, R320). -/
def State.armDrop (s : State) (bit : Nat) : State := if s.ch.armed.testBit bit then (s.armClear bit).outWithdraw bit else s
/-- Every arm signal of the lane deasserts. -/
def State.armDropAll (s : State) : State := s.each 26 fun s b => s.armDrop b
/-- R379: every arm signal whose conditions have failed deasserts. [log 20 DEDUCED] -/
def State.armJudge (s : State) : State := s.each 26 fun s b => if s.ch.armed.testBit b && !s.armOk b then s.armDrop b else s
/-- An output's arm signal asserts, to take effect at the next tick edge (R267, R311, R320); the loop engine's vote cancels
every hold-off (R76, R78). -/
def State.armRaise (s : State) (bit : Nat) : State :=
  if s.armOk bit && !s.ch.armed.testBit bit then
    let s := { s with ch.armed := s.ch.armed + 2 ^ bit, pw.expired := 0 }
    (s.when (decide (bit < 6)) (·.axGrant bit)).valveGrant bit
  else s

/-- R267: a leading keeper asks again for an axis whose flying start failed, once a source of it is valid. -/
def State.armAgain (s : State) : State :=
  if s.ld.leading ∧ !s.ld.standing then
    s.each 6 fun s n =>
      if (s.axis n).failed ∧ s.requestMask.testBit n ∧ !s.ch.request.testBit n then
        { s with ch.request := s.ch.request + 2 ^ n }.armRaise n
      else s
  else s
/-- ARM_GRANT (R379, R267): the chaperone asserts an output's arm signal. -/
def runArmGrant (bit : Fin 26) (s : State) : Res := .next (s.armRaise bit)
/-- ARM_WITHDRAW (R379, R261): the chaperone deasserts an armed output's arm signal. -/
def runArmWithdraw (bit : Fin 26) (s : State) : Res := .next (s.armDrop bit)

/-! ### LEAD_OUT and SILENT. -/

/-- LEAD_OUT asserts (R354). -/
def State.leadUp (s : State) : State := if s.ch.leadOut then s else { s with ch.leadOut := true }.traceCutIn true
/-- LEAD_OUT drops; step pulses end with it (R284). -/
def State.leadDown (s : State) : State := if s.ch.leadOut then ({ s with ch.leadOut := false }.stepsCut).traceCutIn false else s
/-- R357: is a gate still sensed on although it is commanded off? [log 66 DEDUCED] -/
def State.gateStuck (s : State) : Bool := (List.range 6).any fun n => (s.axis n).stuck
/-- R357, step 3: LEAD_OUT drops once gate-off is confirmed; a gate still sensed on keeps it asserted. -/
def State.leadRelease (s : State) : State := if s.gateStuck then s else s.leadDown
/-- R376, R402: the chaperone refuses its main die's requests: no arm, no take-lead sequence, no permission; a lease runs on
to its expiry. -/
def State.chapRefuse (s : State) : State :=
  { s with ch.request := 0, ch.permission := none, ch.cardTake := false, ch.take := .idle }.armDropAll
/-- R376: the chaperone enters SILENT for a CRITICAL fault; EB_OUT stays as it is (R391). -/
def State.chapSilence (s : State) (kind qual : Nat) : State :=
  if s.chapState = 1 ∨ s.chapState = 2 then
    (((s.putN Obj.CHAP_STATE 3).putN Obj.CHAP_CAUSE (qual * 256 + kind : Nat)).chapRefuse).leadRelease
  else s
/-- A CRITICAL fault of the chaperone's own: raised, and SILENT. [log 58 DEDUCED] -/
def State.chapFail (s : State) (kind qual : Nat) (detail : Option Int) : State := (s.chapRaise kind qual detail).chapSilence kind qual

/-- R376: SAFE_N is asserted. -/
def State.safeN (s : State) : Bool := s.chapState != 2 || s.ch.scan || s.ch.scanTest

/-- BOUNDARY_SCAN_INSTRUCTION (R56): with EXTEST or INTEST selected and TRST_N high every arm signal stays deasserted. -/
def runBoundaryScanInstruction (extOrInt trst : Bool) (s : State) : Res :=
  .next { s with ch.scan := extOrInt && trst }.armJudge

/-! ### Take-lead sequence (R353, R354, R361). -/

/-- R354, R361: may the chaperone take lead? -/
def State.mayTake (s : State) : Bool :=
  s.chapState == 2 && !s.ch.leadOut && (if s.nat Obj.LEAD_MODE = 0 then s.ch.permission.isSome else s.ch.cardTake)
/-- Both peer lines are deasserted. -/
def State.peersLow (s : State) : Bool := !vget s.ch.peers 0 && !vget s.ch.peers 1
/-- R354: the sequence begins, or begins again. -/
def State.takeBegin (s : State) : State :=
  if s.mayTake && s.ch.take == .idle then { s with ch.take := .quiet, ch.rechecks := 0 } else s
/-- R354, R402: the sequence is abandoned, and LEAD_OUT with it where the sequence asserted it. -/
def State.takeAbandon (s : State) : State :=
  let up := s.ch.take == .check
  { s with ch.take := .idle }.when up (·.leadDown)

/-- PEER_LINES_QUIET (R353, R354): both peer lines have been deasserted for 8 µs: arm may return, and the rank delay of a
lane with permission starts. -/
def runPeerLinesQuiet (s : State) : Res :=
  if s.peersLow then
    let s := { s with ch.peerHold := false }
    .next (if s.mayTake && s.ch.take == .quiet then { s with ch.take := .delay } else s)
  else .next s

/-- RANK_DELAY_EXPIRY (R354): LEAD_OUT is asserted if both lines are still quiet; otherwise the sequence starts again. -/
def runRankDelayExpiry (s : State) : Res :=
  if s.ch.take == .delay && s.mayTake then
    .next (if s.peersLow then { s with ch.take := .check, ch.rechecks := 0, ch.seen := .replicate 2 false }.leadUp
      else { s with ch.take := .quiet })
  else .next s

/-- The peer lines asserted during the running re-check, by number. -/
def State.seenPeers (s : State) : List Nat := (List.range 2).filter fun p => vget s.ch.seen p || vget s.ch.peers p
/-- Does one of these lines belong to a lower lane number? -/
def State.lowerLane (s : State) (ps : List Nat) : Bool := ps.any fun p => s.peerLane p != 0 && decide (s.peerLane p < s.laneNo)

/-! ### The last waltz (R395–R401). -/

/-- R399: the pair index of an axis from its latched sector. -/
def State.waltzPair (s : State) (n : Nat) : Nat := (vget s.ch.waltz.sectors n + s.nat Obj.WALTZ_PAIR_SHIFT / 8 ^ n % 8) % 6
/-- R399: high-side and low-side leg of each pair index: U 0, V 1, W 2. -/
def pairLegs (i : Nat) : Nat × Nat := [(0, 1), (0, 2), (1, 2), (1, 0), (2, 0), (2, 1)].getD i (0, 1)
/-- R399: the switches an axis's hold drives now: the high-side leg unless its off-time runs, and the low-side leg. -/
def State.waltzDrive (s : State) (n : Nat) : Option (Option Nat × Nat) :=
  let w := s.ch.waltz
  if w.driven.testBit n then
    let p := pairLegs (s.waltzPair n)
    some (if w.toff.testBit n then none else some p.1, p.2)
  else none
/-- R51, R60: gate outputs are not held off by VACT below 10.0 V nor by an unpowered power die. [log 264 DEDUCED] -/
def State.gateSupply (s : State) : Bool := !s.su.low.testBit 0 && !s.su.low.testBit 2
/-- R60: the hold drive is held off. [log 264 DEDUCED] -/
def State.waltzOff (s : State) : State := { s with ch.waltz.driven := 0, ch.waltz.toff := 0 }
/-- R60, R398, R399: the hold drive of an axis with a latched sector starts, once any active short circuit has ended and while
the gate outputs are not held off. [log 264 DEDUCED] -/
def State.waltzAxis (s : State) (n : Nat) : State :=
  let w := s.ch.waltz
  if s.chapState == 4 && s.gateSupply && w.holder && !w.holdDone && decide (vget w.sectors n ≠ 7) && !w.disarmed.testBit n && !w.driven.testBit n &&
      decide (s.axState n ≤ 1) then
    { s with ch.waltz.driven := w.driven + 2 ^ n }.putBit Obj.WALTZ_RESULT n true
  else s
/-- R397, step 7, R398: ramp and hold time are over, the chaperone is done and the domains return to the votes. One that is
not the holder waits for the end of its own WALTZ_HOLD too, in which it may yet become the holder. [log 191 DEDUCED] -/
def State.waltzFinish (s : State) : State :=
  if s.chapState = 4 ∧ s.ch.waltz.rampDone ∧ s.ch.waltz.step = 0 ∧ s.ch.waltz.holdDone then s.putN Obj.CHAP_STATE 5 else s

/-- WALTZ_WAIT_EXPIRY (R395, R397): the lines have been deasserted and the EB node released for WALTZ_WAIT; entry at a
global time. -/
def runWaltzWaitExpiry (now : Nat) (s : State) : Res :=
  if (s.chapState = 2 ∨ s.chapState = 3) ∧ !s.ch.leadOut ∧ s.peersLow ∧ s.ch.ebReleased then
    let s := s.takeAbandon.chapRefuse
    let s := ((s.putN Obj.CHAP_STATE 4).putN Obj.WALTZ_TIME (now % 2 ^ 64 : Nat)).putN Obj.EB_DUTY 100
    let s := { s with ch.waltz := { entry := now, step := 1, holdDone := s.nat Obj.WALTZ_HOLD == 0 }, ch.time := now * 4 / 25 }
    .next (s.chapRaise Kind.LAST_WALTZ 1 (some (s.n Obj.LADDER_COUNT * 256 + s.laneNo)))
  else .next s

/-- WALTZ_RANK_DELAY (R397, step 2): LEAD_OUT is asserted if both peer lines are still deasserted; otherwise this chaperone
only ramps. -/
def runWaltzRankDelay (s : State) : Res :=
  if s.chapState = 4 ∧ s.ch.waltz.step = 1 then
    .next (if s.peersLow then { s with ch.waltz.step := 2, ch.waltz.lower := false }.leadUp else { s with ch.waltz.step := 0 }.waltzFinish)
  else .next s

/-- WALTZ_RECHECK (R397, steps 3 and 4): against a lower lane number LEAD_OUT is dropped; otherwise this chaperone is the
holder, latches the sectors of the steering axes and starts the hold drive. -/
def runWaltzRecheck (s : State) : Res :=
  if s.chapState = 4 ∧ s.ch.waltz.step = 2 then
    if s.ch.waltz.lower then .next { s with ch.waltz.step := 0 }.leadDown.waltzFinish
    else
      let s := { s with ch.waltz.step := 0, ch.waltz.holder := true }
      if s.ch.waltz.holdDone then .next s.waltzFinish
      else .next (s.each 6 fun s n =>
        if s.bit Obj.CH_STEER_AXES n then
          if s.chapSector n = 7 then s.putBit Obj.WALTZ_RESULT (6 + n) true
          else { s with ch.waltz.sectors := vset s.ch.waltz.sectors n (s.chapSector n) }.waltzAxis n
        else s)
  else .next s

/-- WALTZ_HOLD_END (R397, step 5): all gates off, LEAD_OUT kept asserted. -/
def runWaltzHoldEnd (s : State) : Res :=
  if s.chapState = 4 then .next { s with ch.waltz.driven := 0, ch.waltz.toff := 0, ch.waltz.holdDone := true }.waltzFinish
  else .next s

/-- WALTZ_TOFF_END (R399): WALTZ_TOFF after a shunt trip the high side turns on again. -/
def runWaltzToffEnd (n : Fin 6) (s : State) : Res :=
  .next { s with ch.waltz.toff := if s.ch.waltz.toff.testBit n then s.ch.waltz.toff - 2 ^ n.val else s.ch.waltz.toff }

/-- EB_RAMP_PERIOD (R378, R400): at a whole 2 ms of the chaperone's global time the duty is recomputed on the ramp. [log 65
DESIGN CHOICE] -/
def runEbRampPeriod (now : Nat) (s : State) : Res :=
  if s.chapState = 4 ∧ !s.ch.waltz.rampDone then
    let ramp := s.nat Obj.EB_RAMP * 100000
    let left := ramp - (now - s.ch.waltz.entry)
    .next ({ s with ch.time := now * 4 / 25 }.putN Obj.EB_DUTY (if left = 0 then 0 else if ramp ≤ left then 100 else Config.roundQuot (100 * left : Nat) ramp))
  else .next s

/-- EB_RAMP_END (R397, step 6): EB_RAMP after entry EB_OUT is off. -/
def runEbRampEnd (s : State) : Res :=
  if s.chapState = 4 then .next ({ s with ch.waltz.rampDone := true }.putN Obj.EB_DUTY 0).waltzFinish else .next s

/-- DESAT_TRIP (R258, R261, R399): a conducting switch desaturates. In the last waltz the axis is disarmed for the rest of
it. -/
def runDesatTrip (n : Fin 6) (leg : Fin 3) (high : Bool) (s : State) : Res :=
  if s.ch.waltz.driven.testBit n then
    let w := s.ch.waltz
    let s := { s with ch.waltz := { w with driven := w.driven - 2 ^ n.val, disarmed := w.disarmed ||| 2 ^ n.val } }
    .next (s.raise (Src.ax n) Kind.AXIS_OVERCURRENT (if high then 2 else 3) (some leg.val))
  else .next (s.axTrip n leg (if high then 2 else 3))

/-- SHUNT_OC_TRIP (R258, R261, R399): a shunt voltage exceeds AX_OC_TRIP; in the last waltz it exceeds WALTZ_I_MV and the
high side is off for WALTZ_TOFF. -/
def runShuntOcTrip (n : Fin 6) (leg : Fin 3) (s : State) : Res :=
  if s.ch.waltz.driven.testBit n then .next { s with ch.waltz.toff := s.ch.waltz.toff ||| 2 ^ n.val }
  else .next (s.axTrip n leg 1)

/-- R17, R378: the chaperone's own clock reads this many clocks of its 16 MHz; its global time has run as far, at its own
rate. [log 199 DEDUCED] -/
def State.chapClock (s : State) (chap : Nat) : State := { s with ch.clock := chap, ch.time := s.ch.time + (chap - s.ch.clock) }
/-- ASC_GRANT_WITHDRAW (R380, R265, R398): in ASC the chaperone's hall speed has been valid and below 0.9 × the threshold for
10 ms, or its hall code invalid for ASC_MAX: the axis opens; a waltz holder then holds it. -/
def runAscGrantWithdraw (x : AxisAt) (s : State) : Res :=
  let n := x.axis
  let s := s.chapClock x.chap
  let slow := s.chapHallValid n && decide (10 * s.chapHallSpeed n < 9 * (s.ascThreshold n : Rat))
  if 3 ≤ s.axState n ∧ (slow ∨ s.chapSector n = 7) then .next ((s.axOffNow n).waltzAxis n) else .next s
/-- ASC_EXIT (R265, R398): the speed of the current vector has stayed below 0.9 × AX_ASC_SPEED for 10 ms: the axis opens; a
waltz holder then holds it. -/
def runAscExit (n : Fin 6) (s : State) : Res :=
  .next (if 3 ≤ s.axState n ∧ 2000000 ≤ (s.axis n).slow then (s.axOffNow n).waltzAxis n else s)

/-! ### Halls at both dies. -/

/-- R380: the chaperone decodes a hall code, timed on its own clock. -/
def State.chapHallEdge (s : State) (n code chap : Nat) : State :=
  let s := s.chapClock chap
  let old := s.chapSector n
  let new := hallSector 0 code
  let h := vget s.ch.hall n
  let s := s.putN Obj.CHAP_HALL (s.nat Obj.CHAP_HALL - old * 16 ^ n + new * 16 ^ n : Nat)
  if new = 7 ∨ old = 7 ∨ new = old then s
  else { s with ch.hall := vset s.ch.hall n { edges := min 2 (h.edges + 1), interval := chap - h.last, last := chap } }

/-- R206, R207, R268: the main die takes a filtered hall code change at a filter clock. -/
def State.mainHallEdge (s : State) (a code clock : Nat) : State :=
  let r := s.hallEdge a code clock
  match r.2 with
  | some (angle, _) => (r.1.axAlign a false angle).axAlign a true angle
  | none => r.1
/-- HALL_EDGE (R206, R207, R268, R380): a hall code change, at each die whose own filter it has passed. -/
def runHallEdge (a : Fin 6) (code : Fin 8) (at' : HallAt) (s : State) : Res :=
  .next ((s.when at'.main (·.mainHallEdge a code at'.clock)).when at'.own (·.chapHallEdge a code at'.chap))

/-! ### EB_OUT (R391). -/

/-- R120, R391: the duty of EB_OUT in %, in the states whose table names a level; the chaperone scan test runs with it off. -/
def State.ebLevel (s : State) : Option Nat :=
  if s.ch.scanTest then some 0
  else if s.chapState = 2 then some (if s.ch.ebRequest then 100 else 0)
  else if s.chapState = 3 ∨ s.chapState = 4 then none else some 0
/-- R391: EB_OUT follows its level. [log 20 DEDUCED] -/
def State.ebUpdate (s : State) : State :=
  match s.ebLevel with
  | some d => if s.nat Obj.EB_DUTY = d then s else s.putN Obj.EB_DUTY d
  | none => s
/-- The keeper requests EB release, or withdraws it. [log 64 DEDUCED] -/
def State.ebAsk (s : State) (on : Bool) : State := { s with ch.ebRequest := on }.ebUpdate

/-- EB_SILENT_RELEASE (R391): in SILENT a partner's LEAD_OUT has been asserted for 10 ms without a break. -/
def runEbSilentRelease (s : State) : Res :=
  if s.chapState = 3 ∧ !s.peersLow then .next (s.putN Obj.EB_DUTY 0) else .next s

/-- R379, R391: what the chaperone's logic does whatever happens: an arm signal whose conditions have failed deasserts, and
EB_OUT follows its level. [log 20 DEDUCED] -/
def State.settle (s : State) : State := s.armJudge.ebUpdate
/-- A command ends with the chaperone's logic settled (R379: within 1 µs). [log 20 DEDUCED] -/
def settled : Res → Res
  | .next t => .next t.settle
  | .fault f => .fault f
  | .refused r => .refused r

/-! ### Request interface and side path (R377). -/

/-- R372: permission with a rank, from the keeper; the sequence of R354 then waits for quiet lines. [log 249 DEDUCED] -/
def State.permit (s : State) (rank : Option Nat) : State :=
  match rank with
  | some r => { s with ch.permission := some r }.takeBegin
  | none =>
    if s.nat Obj.LEAD_MODE = 0 then { s.takeAbandon with ch.permission := none } else { s with ch.permission := none }
/-- CHAP_REQUEST (R354, R361, R377, R379, R391): a message with a wrong CRC or an out-of-order sequence is discarded. [log 58,
232, 249 DEDUCED] -/
def runChapRequest (r : Request) (s : State) : Res :=
  let s := s.chapClock r.chap
  let ordered : Bool := match s.ch.seq with
    | none => true
    | some q => r.seq.toNat == (q + 1) % 256
  let t := { s with ch.seq := if r.good then some r.seq.toNat else s.ch.seq }
  if !r.good || !ordered then .next (t.chapFail Kind.CHAP_WDG 4 (some (t.n Obj.WDG_CHALLENGE)))
  else if t.chapState ≠ 2 then .next t
  else
    let t := { t with
      ch.request := r.arm.toNat
      ch.speed := r.speed.getD t.ch.speed
      ch.speedAt := if r.speed.isSome then r.chap else t.ch.speedAt
      ch.demand := r.demand, ch.autonomy := r.autonomy
      ch.travel := vset (vset t.ch.travel 0 r.travel1) 1 r.travel2
      ch.lease := if t.nat Obj.LEAD_MODE = 1 then r.lease else none }
    .next (((t.permit (if t.nat Obj.LEAD_MODE = 1 then none else r.permission)).armJudge).ebAsk r.eb)

/-- R377: a bad or missing side-path message; the third in a row is CHAP_ENVELOPE. [log 61 DESIGN CHOICE] -/
def State.sidePathBad (s : State) : State :=
  let n := s.ch.sideBad + 1
  let s := { s with ch.sideBad := n }
  if n = 3 then s.chapFail Kind.CHAP_ENVELOPE 5 none else s

/-- R382: one leg at a tick edge: results carrying RECON or HELD are skipped. [log 59 DEDUCED] -/
def State.legCheck (s : State) (leg : Nat) : State :=
  let st := s.nodeU (192 + leg)
  let a := leg / 3
  if !s.ch.armed.testBit a then { s with ch.legOver := vset s.ch.legOver leg 0 }
  else if st.testBit 7 || st.testBit 6 then s
  else
    let over' : Bool := decide (s.nat (Obj.CH_I_BOUND a) < (s.node (64 + leg)).natAbs)
    let n := if over' then (vget s.ch.legOver leg : Nat) + 1 else 0
    let s := { s with ch.legOver := vset s.ch.legOver leg n }
    if over' && n == s.nat Obj.CH_I_TICKS then s.chapFail Kind.CHAP_ENVELOPE 1 (some (a * 256 + leg % 3 : Nat)) else s

/-- R377, R384: the side path carries an AIN pedal's result; its sequence may have advanced. [log 200 DEDUCED] -/
def State.chapPedal (s : State) (k : Nat) : State :=
  let src := s.nat (if k = 0 then Obj.PEDAL_SRC1 else Obj.PEDAL_SRC2)
  let seq := s.nodeU (384 + src) / 65536
  if src ≤ 0x2F ∧ seq ≠ vget s.ch.pedalSeq k then
    { s with ch.pedalSeq := vset s.ch.pedalSeq k seq, ch.pedalAt := vset s.ch.pedalAt k s.ch.clock }
  else s
/-- SIDE_PATH_MESSAGE (R377, R382, R391): a side-path message with its CRC's verdict and the EB_OUT ball voltage in mV. [log
232 DEDUCED] -/
def runSidePathMessage (good : Bool) (r : SideRead) (s : State) : Res :=
  let ebMv := r.ebMv
  let s := s.chapClock r.chap
  if s.chapState = 0 then .next s
  else if !good then .next s.sidePathBad
  else
    let s := [0, 1].foldl (fun s k => s.chapPedal k) s
    let s := { s with ch.sideBad := 0, ch.ebReleased := if ebMv < 2000 then true else if 4000 < ebMv then false else s.ch.ebReleased }
    .next (s.each 18 fun s leg => s.legCheck leg)
/-- SIDE_PATH_MISSING (R377): an expected side-path message has not arrived. -/
def runSidePathMissing (s : State) : Res :=
  if s.chapState = 0 then .next s else .next s.sidePathBad

/-! ### Envelope monitors (R383, R384). -/

/-- R383: the rows of CH_RATE_CURVE: speed and rate. -/
def rateRows (b : List Byte) : List (Int × Int) := (rowsOf 4 b).map fun r => ((leNat (r.take 2) : Int), (leNat (r.drop 2) : Int))
/-- R383: a curve whose speeds ascend strictly. -/
def rateCurveOk (rows : List (Int × Int)) : Bool := (rows.zip (rows.drop 1)).all fun (a, b) => decide (a.1 < b.1)
/-- R383: the permitted road-wheel rate in 0.01 °/s. -/
def State.permittedRate (s : State) : Int :=
  let rows := rateRows (s.oct Obj.CH_RATE_CURVE)
  let stale := s.ch.speed = 0xFFFF ∨ s.nat Obj.SPEED_STALE * 16000 ≤ s.ch.clock - s.ch.speedAt
  let v : Int := if stale then (rows.getLast?.getD (0, 0)).1 else s.ch.speed
  interpolate ((rows.head?.getD (0, 0)).2) v rows
/-- R383: the road-wheel rate of an axis exceeds the permitted rate. [log 60 DEDUCED] -/
def State.rateOver (s : State) (n : Nat) : Bool :=
  let k := s.fx Obj.CH_RATE_K
  s.ch.armed.testBit n && s.bit Obj.CH_STEER_AXES n && s.chapHallValid n &&
    decide ((s.permittedRate : Rat) * 2 ^ k.2 < s.chapHallSpeed n * k.1)

/-- STEER_RATE_TIMEOUT (R383): the rate has been above the permitted one for CH_RATE_TIME. -/
def runSteerRateTimeout (x : AxisAt) (s : State) : Res :=
  let n := x.axis
  let s := s.chapClock x.chap
  if s.rateOver n then .next (s.chapFail Kind.CHAP_ENVELOPE 2 (some n.val)) else .next s

/-- R384: the travel of a pedal as the chaperone sees it, none for a sensor it finds invalid under R335: from the side path for
an AIN source, from the mirror for SENT. [log 200 DEDUCED] -/
def State.chapTravel (s : State) (k : Nat) : Option Int :=
  let src := s.nat (if k = 0 then Obj.PEDAL_SRC1 else Obj.PEDAL_SRC2)
  if src = 0xFF then none
  else if src ≤ 0x2F then
    let x := s.node (320 + src)
    if !s.pedalFlagged src && s.ch.clock - vget s.ch.pedalAt k < 320000 && inSpan x (s.pedalZero k) (s.pedalFull k) then some (travelOf x (s.pedalZero k) (s.pedalFull k)) else none
  else vget s.ch.travel k
/-- R384: the pedal decelerations hi and lo of the valid sensors, none with both invalid. -/
def State.pedalBand (s : State) : Option (Int × Int) :=
  match [0, 1].filterMap s.chapTravel with
  | [] => none
  | t :: ts => some (s.pedalDecel (ts.foldl max t), s.pedalDecel (ts.foldl min t))
/-- R384: over-braking (true) or under-braking stands. -/
def State.brakeWrong (s : State) (high : Bool) : Bool :=
  let d := s.ch.demand
  let m := s.n Obj.BRAKE_MARGIN
  s.on Obj.BLEND_ENABLE && s.ch.armed != 0 &&
    match s.pedalBand, high with
    | some (hi, _), true => decide (max hi s.ch.autonomy + m < d)
    | some (_, lo), false => decide (d < lo - m)
    | none, true => decide (max (s.n Obj.PEDAL_LOSS_DECEL) s.ch.autonomy + m < d)
    | none, false => false

/-- BRAKE_ENVELOPE_TIMEOUT (R384): over- or under-braking has stood for BRAKE_TIME. -/
def runBrakeEnvelopeTimeout (high : Bool) (s : State) : Res :=
  if s.brakeWrong high then .next (s.chapFail Kind.CHAP_ENVELOPE (if high then 3 else 4) (some s.ch.demand)) else .next s

/-! ### Keeper watchdog (R381). -/

/-- R381: the next value of the 16-bit Fibonacci register with taps 16, 14, 13 and 11. [log 57 PRESUMED] -/
def lfsrNext (x : Nat) : Nat :=
  let b := x.testBit 0 ^^ x.testBit 2 ^^ x.testBit 3 ^^ x.testBit 5
  x / 2 + (if b then 0x8000 else 0)
/-- R381: the answer to a challenge. -/
def wdgAnswer (c lane n : Nat) : Nat := crc32c (le 2 c ++ le 1 lane ++ le 1 n)
/-- R381: an error of the present period. -/
def State.wdgError (s : State) (qual : Nat) : State :=
  let n := s.n Obj.WDG_ERRORS + 2
  let s := { s with ch.judged := true }.putN Obj.WDG_ERRORS (min n 255)
  if s.n Obj.WDG_LIMIT ≤ n then s.chapFail Kind.CHAP_WDG qual (some (s.n Obj.WDG_CHALLENGE)) else s
/-- R381: is the watchdog on? In DOZE and PARKED it is off, together with the main die. -/
def State.wdgOn (s : State) : Bool := s.ch.wdg && s.chapState == 2 && s.pw.sleep == 0

/-- WDG_PERIOD_START (R381): a period starts with a new challenge and the next period count. -/
def runWdgPeriodStart (s : State) : Res :=
  if s.wdgOn then
    let c := lfsrNext s.ch.lfsr
    .next ({ s with ch.lfsr := c, ch.period := (s.ch.period + 1) % 256, ch.judged := false }.putN Obj.WDG_CHALLENGE c)
  else .next s

/-- WDG_ANSWER (R381, R391): the keeper's answer, at a time in µs after the period's start, with its EB release request. -/
def runWdgAnswer (answer : Word) (micros : Nat) (eb : Bool) (s : State) : Res :=
  if s.wdgOn then
    let s := s.ebAsk eb
    if s.ch.judged then .next s
    else if 100 * micros < s.nat Obj.WDG_OPEN * s.nat Obj.WDG_PERIOD then .next (s.wdgError 2)
    else if s.nat Obj.WDG_CLOSE * s.nat Obj.WDG_PERIOD < 100 * micros then .next s
    else if answer.toNat = wdgAnswer (s.nat Obj.WDG_CHALLENGE) s.laneNo s.ch.period then
      .next ({ s with ch.judged := true }.putN Obj.WDG_ERRORS (max 0 (s.n Obj.WDG_ERRORS - 1)))
    else .next (s.wdgError 3)
  else .next s

/-- WDG_WINDOW_CLOSE (R381): the window closes without an answer. -/
def runWdgWindowClose (s : State) : Res := if s.wdgOn && !s.ch.judged then .next (s.wdgError 1) else .next s

/-! ### Configuration security and guardian faults (R386, R388). -/

/-- CHAP_CONFIG_RECHECK (R388): the CRC recomputed over the active bank. -/
def runChapConfigRecheck (found : Word) (s : State) : Res :=
  if found.toNat ≠ s.nat Obj.CHAP_SIG ∧ 2 ≤ s.chapState then .next (s.chapFail Kind.CHAP_CONFIG_SIG 2 (some found.toNat)) else .next s

/-- R386: the guardian raises a qualifier for a port, at most once per reel and port. -/
def State.guardRaise (s : State) (port qual window : Nat) : State :=
  if s.ch.guardRaised.testBit port then s
  else { s with ch.guardRaised := s.ch.guardRaised ||| 2 ^ port }.chapRaise Kind.CHAP_GUARDIAN qual (some (port * 2 ^ 28 + window : Nat))
/-- GUARDIAN_BLOCK (R386): a transmission outside an open interval is held recessive. -/
def runGuardianBlock (port : Fin 4) (window : BitVec 8) (s : State) : Res :=
  .next ((s.count Obj.GUARD_BLOCKS 32).guardRaise port 1 window.toNat)
/-- GUARDIAN_CUT (R386): a transmission still running at an interval's close is cut. -/
def runGuardianCut (port : Fin 4) (window : BitVec 8) (s : State) : Res :=
  .next ((s.count Obj.GUARD_BLOCKS 32).guardRaise port 2 window.toNat)
/-- GUARD_COAST_EXPIRY (R378, R385): GUARD_COAST reels without a reference frame set TIME_COAST; after as many with TIME_COAST
set the guardian closes. [log 265 DEDUCED] -/
def runGuardCoastExpiry (s : State) : Res :=
  if !s.bit Obj.CHAP_TIME 1 then .next (s.putBit Obj.CHAP_TIME 1 true)
  else .next ((s.putN Obj.GUARD_STATUS (s.nat Obj.GUARD_STATUS / 16 * 16 + 15 : Nat)).each 4 fun s p => s.guardRaise p 3 0)

end Sys2Proof.Machine
end

