-- ==== Sys2Proof/Machine/Flags.lean ====
section
/-!
DEFINITION. Machine/Flags.lean: the status words that sum up a lane: its role, the redundancy elements it has lost, its
health score and its health word (R370–R372).
-/
namespace Sys2Proof.Machine

/-- R370: the role: 0 starting, 1 follow, 2 lead, 3 restarting, 4 silent, 5 excluded. -/
def State.role (s : State) : Nat :=
  if s.col.failSilent then 4 else if s.ld.restarting then 3 else if s.ld.excluded then 5 else if s.ld.leading then 2
  else if s.ld.settled then 1 else 0
/-- R409, R439: is port p up? -/
def State.portUp (s : State) (p : Nat) : Bool := s.bit (Obj.PORT_STATUS p) 4
/-- How many of these hold. -/
def countOf (l : List Bool) : Nat := (l.filter id).length

/-- R371: ports A and B down. -/
def State.portsLost (s : State) : Nat := countOf [!s.portUp 0, !s.portUp 1]
/-- The configured sources of an axis that are not valid, and how many it has. -/
def State.axSourcesBad (s : State) (n : Nat) : Nat × Nat :=
  let l := [false, true].filter fun second => (s.axSource n second).isSome
  (countOf (l.map fun second => !s.axSourceValid n second), l.length)
/-- R371: enabled axes with one angle source invalid. [log 78 DEDUCED] -/
def State.sourcesLost (s : State) : Nat :=
  countOf ((List.range 6).map fun n => s.on (Obj.AX_ENABLE n) && (s.axSourcesBad n).1 == 1)
/-- R337, R371: pedal sensors invalid, or one of two that disagree. [log 226 DESIGN CHOICE] -/
def State.pedalsLost (s : State) : Nat :=
  if !s.on Obj.BLEND_ENABLE then 0
  else countOf ((List.range 2).map fun k => s.nat (if k = 0 then Obj.PEDAL_SRC1 else Obj.PEDAL_SRC2) != 0xFF && !vget s.bl.valid k) +
    b2n s.bl.disagree
/-- R371: sensor supplies in fault. -/
def State.supsLost (s : State) : Nat := countOf ((List.range 4).map fun k => s.bit Obj.SUP_STATUS k)
/-- R371: the redundancy elements lost at this lane. -/
def State.elementsLost (s : State) : Nat := s.portsLost + s.sourcesLost + s.pedalsLost + s.supsLost

/-- R371: the kinds that report an element already counted. [log 78 DEDUCED] -/
def State.kindCounted (s : State) (kind : Nat) : Bool :=
  (s.portsLost != 0 && kind == Kind.RALUNE_PORT_DOWN) ||
    (s.sourcesLost != 0 && (kind == Kind.OBS_LOST || kind == Kind.ANGLE_DISAGREE)) ||
    (s.pedalsLost != 0 && kind == Kind.PEDAL_DISAGREE) ||
    (s.supsLost != 0 && (kind == Kind.SUPPLY_UV || kind == Kind.SUPPLY_OV))
/-- R371: the uncleared fault kinds of a class. -/
def State.unclearedKinds (s : State) (cls : Nat) : List Nat := ((s.col.rows.filter fun r => r.cls == cls).map (·.kind)).eraseDups
/-- R371, R542, R543: a junction temperature at or above its THERMAL_WARN level. [log 79 DEDUCED] -/
def State.warm (s : State) : Bool := decide (140 ≤ s.n Obj.TJ_POWER) || decide (128 ≤ s.n Obj.TJ_MAIN)
/-- R371: an enabled axis whose two angle sources have both been flagged since each was last valid. [log 78 DEDUCED] -/
def State.axisBlind (s : State) : Bool :=
  (List.range 6).any fun n => s.on (Obj.AX_ENABLE n) && (s.axSource n false).isSome &&
    [false, true].all fun second => (s.axSource n second).isNone || vget (s.axis n).flagged (b2n second)
/-- R371: the score the lane publishes in a role. [log 79 DEDUCED] -/
def State.scoreAs (s : State) (role : Nat) : Nat :=
  if role ≠ 1 ∧ role ≠ 2 ∨ s.nat Obj.SIG_STATE = 0 ∨ s.portsLost = 2 ∨ s.su.low.testBit 4 ∨ s.st.scoreZero ∨ s.ld.lineFailed ∨ s.axisBlind then 0
  else
    255 - 64 * s.elementsLost - 32 * ((s.unclearedKinds 2).filter fun k => !s.kindCounted k).length -
      8 * (s.unclearedKinds 1).length - (if s.ld.failAge < 64 then 128 else 0) - (if s.warm then 16 else 0)
/-- R371: the health score. -/
def State.score (s : State) : Nat := s.scoreAs s.role

/-- R116, R372: the converters whose results the lane uses: those of enabled axes and outputs, and the scanning GCs. -/
def State.convUsed (s : State) (c : Nat) : Bool :=
  if c < 18 then s.on (Obj.AX_ENABLE (c / 3)) else if c < 34 then s.on (Obj.SOL_ENABLE (c - 18))
  else !(s.gcTable (c - 34)).isEmpty
/-- A result the lane uses is uncalibrated. -/
def State.uncalUsed (s : State) : Bool := (List.range 38).any fun c => s.convUsed c && vget s.ms.uncal c
/-- R372: a follow is READY. -/
def State.ready (s : State) : Bool :=
  s.role == 1 && s.nat Obj.LEAD_MODE == 0 && s.clk.joined && !s.uncalUsed &&
    ((List.range 6).all fun n => !s.on (Obj.AX_ENABLE n) || s.axSourceValid n false || s.axSourceValid n true) &&
    decide (s.nat Obj.SHADOW_SETTLE ≤ s.ld.passes) && decide (1 ≤ s.score)

/-- R370: the health word. -/
def State.healthWord (s : State) : Nat :=
  let cardMode := s.nat Obj.LEAD_MODE = 1
  let asc := (List.range 6).foldl (fun m n => if 3 ≤ s.axState n then m + 2 ^ n else m) 0
  if s.role = 4 then 4 <<< 21
  else
    s.score <<< 24 + s.role <<< 21 + s.nat Obj.CUT_IN_RANK <<< 19 + b2n s.ready <<< 18 + b2n (decide cardMode) <<< 17 +
      b2n (decide (cardMode ∧ s.nat Obj.CARD_HOLDER = s.laneNo)) <<< 16 + b2n s.clk.joined <<< 15 +
      b2n (s.portUp 1) <<< 14 + b2n (s.portUp 0) <<< 13 + b2n s.ld.passedLast <<< 12 + min 15 s.elementsLost <<< 8 + asc

/-- The role, score, rank and READY bit of a health word (R370). -/
def wordRole (w : Nat) : Nat := field w 23 21
def wordScore (w : Nat) : Nat := field w 31 24
def wordRank (w : Nat) : Nat := field w 20 19

/-- R51, R83, R397: the lane drives HOLD: from a wake in PARKED until PD_MAIN is up, with PD_MAIN up or at keep level while
KEY is deasserted, and in the last waltz; it is off from power-on until PD_MAIN first comes up, and with VBAT and VKA both
absent. [log 118 DEDUCED] -/
def State.holdDrive (s : State) : Bool :=
  !(s.su.low.testBit 0 && s.su.low.testBit 1) &&
    (s.pw.waking || (s.pw.sleep != 2 && s.pw.mainUp && !s.pw.key) || s.chapState == 4)
/-- R76: the vote mask a client holds now, by its number in VOTE_MASK. [log 119, 122, 123 DEDUCED; log 210 DESIGN CHOICE] -/
def State.voteMask (s : State) (c : Nat) : Nat :=
  let own := s.nat (Obj.VOTE_MASK c)
  let held (b : Bool) (mask : Nat) : Nat := if b then mask else 0
  if c = 0 then own ||| held s.pw.linger 7
  else if c = 1 then own ||| held (s.nat Obj.PARK_MODE == 1) 16 ||| held (s.rc.event.isSome || s.rc.waiting.isSome) 5
  else if c ≤ 4 then own
  else if c = 5 then held (s.ch.armed != 0) 15
  else if c ≤ 9 then held (s.pw.ports.testBit (c - 6)) (s.nat Obj.PORT_ACT_MASK)
  else if c = 10 then held (s.nat Obj.STREAM_STATE == 3) (s.nat Obj.STREAM_MASK)
  else if c = 11 then held s.pw.key (s.nat Obj.KEY_MASK)
  else if c = 12 then held (s.pw.holdNet && !s.holdDrive && s.bit Obj.DOMAIN_STATUS 0) (s.nat Obj.HOLD_MASK)
  else held (s.pw.partners.testBit (c - 13)) (s.nat Obj.PARTNER_MASK)
/-- R77: the votes of some clients ORed together. -/
def State.voteOr (s : State) (clients : List Nat) : Nat := clients.foldl (fun m c => m ||| s.voteMask c) 0
/-- R77: a vote set closed over the domains' dependencies. -/
def voteClose (v : Nat) : Nat :=
  let v := if v.testBit 3 then v ||| 2 else v
  if v.testBit 1 || v.testBit 2 || v.testBit 3 then v ||| 1 else v
/-- R77: the closed vote set. -/
def State.votes (s : State) : Nat := voteClose (s.voteOr (List.range 15))
/-- R84, R85: the rise of every voted domain that is down begins, and then runs to power-good. [log 202 DEDUCED] -/
def State.riseBegin (s : State) : State :=
  if s.pw.sleep = 0 ∧ s.pw.entry = 0 then { s with pw.rising := s.pw.rising ||| (s.votes % 16 &&& (15 - s.nat Obj.DOMAIN_STATUS % 16)) } else s
/-- R78: a vote for a domain cancels its hold-off, and begins its rise where it is down. [log 157 DEDUCED] -/
def State.holdoffCancel (s : State) : State :=
  let s := s.riseBegin
  let v := s.votes
  { s with pw.expired := (List.range 4).foldl (fun m i => if s.pw.expired.testBit i && !v.testBit i then m + 2 ^ i else m) 0 }
/-- R82, R419: the vote mask the lane sends its partners: only while a client other than its partners holds PD_POWER. -/
def State.voteOut (s : State) : Nat :=
  let own := s.voteOr (List.range 13)
  if own.testBit 3 then own else 0

end Sys2Proof.Machine
end

