-- ==== Sys2Proof/Machine/Lead.lean ====
section
/-!
DEFINITION. Machine/Lead.lean: lead, follow and cut-in (R353–R375): giving up and taking lead, dance cards, the interlock
line test, recovery, the shadow comparison, health and ranking, and the degradation ladder (R392–R394).
-/
namespace Sys2Proof.Machine

/-- R410: the beat in 10 ns counts. -/
def State.beatCounts (s : State) : Nat := s.nat Obj.BEAT_LENGTH * 100
/-- A setting in ms as 10 ns counts. -/
def inMs (x : Nat) : Nat := x * 100000

/-! ### Partners. -/

/-- R41: does an announcement match this lane? -/
def State.announceOk (s : State) (p : Nat) (a : Announcement) : Bool :=
  a.unit == s.unitNo && a.func == s.funcNo && a.lane == s.peerLane p && a.size == (if s.threeLane then 3 else 2) &&
    a.ticks == s.nat Obj.TICKS_PER_BEAT && a.signature == s.nat Obj.SIG_ACTIVE
/-- R41: the partner's announcement has been heard and matched. -/
def State.peerMatched (s : State) (p : Nat) : Bool :=
  match vget s.ld.announced p with
  | some a => s.announceOk p a
  | none => false
/-- R364: the partner takes part in the set: its announcement matched or its words show it as follow or lead, and it is
not lost. -/
def State.peerPresent (s : State) (p : Nat) : Bool :=
  let r := (vget s.ld.before p).map wordRole
  s.peerLane p != 0 && !vget s.ld.lost p && (s.peerMatched p || r == some 1 || r == some 2) && r != some 3 && r != some 4 && r != some 5
/-- R372: follows with their score and lane, from the words of the beat before, the lane's own included, kept by a test of the
word. -/
def State.followers (s : State) (own : Bool) (keep : Nat → Bool) : List (Nat × Nat) :=
  let ps := (List.range 2).filterMap fun p =>
    match vget s.ld.before p with
    | some w => if s.peerLane p ≠ 0 ∧ wordRole w = 1 ∧ keep w then some (wordScore w, s.peerLane p) else none
    | none => none
  let w := s.nat Obj.HEALTH_WORD
  if own && wordRole w == 1 && keep w then ps ++ [(wordScore w, s.laneNo)] else ps
/-- R372: the order of rank: score descending, then lane number ascending. -/
def rankBefore (x y : Nat × Nat) : Bool := decide (y.1 < x.1 ∨ (x.1 = y.1 ∧ x.2 < y.2))
/-- A list put into the order of rank. -/
def rankSort (l : List (Nat × Nat)) : List (Nat × Nat) :=
  l.foldl (fun acc x => acc.takeWhile (fun y => rankBefore y x) ++ [x] ++ acc.dropWhile (fun y => rankBefore y x)) []
/-- R372: READY follows in the order of rank. -/
def State.ranking (s : State) : List (Nat × Nat) := rankSort (s.followers true fun w => w.testBit 18)

/-! ### Giving up lead (R355–R357, R362). -/

/-- R361: this lane holds the card. -/
def State.holdsCard (s : State) : Bool := s.nat Obj.LEAD_MODE == 1 && s.laneNo != 0 && s.nat Obj.CARD_HOLDER == s.laneNo
/-- R360: a card message of this lane waits for its port C window. -/
def State.sendCard (s : State) (type holder expiry : Nat) : State :=
  { s with ld.outCards := s.ld.outCards ++ [⟨type, s.ld.card.reason, s.ld.card.issuer, holder, s.nat Obj.CARD_NUMBER, expiry⟩] }
/-- The card beside its entries, changed. -/
def State.cardMod (s : State) (f : CardState → CardState) : State := { s with ld.card := f s.ld.card }
/-- R361: the lane's lease is enforced no longer. -/
def State.endLease (s : State) : State := { s with ch.lease := none }
/-- R364: no line test runs. -/
def State.endTest (s : State) : State := { s with ld.testing := false }
/-- R362: the holder passes the card to the follow of best rank; where there is none its lease runs out unrenewed. [log 70
DEDUCED] -/
def State.passCard (s : State) (now : Nat) : State :=
  match rankSort (s.followers false fun w => 1 ≤ wordScore w) with
  | [] => s
  | best :: _ =>
    let s := (s.putN Obj.CARD_EXPIRY now).sendCard 3 best.2 now
    s.endLease.endTest
/-- R356, R357: the lane gives up lead: power-arm withdrawn, every output disarmed, LEAD_OUT dropped once gate-off is
confirmed; the triggering source and kind go into the detail. In card mode a keeper that may send passes the card. [log 70,
188 DEDUCED] -/
def State.giveUp (s : State) (qual src kind : Nat) (pass : Bool) : State :=
  if s.ld.leading || (s.holdsCard && (s.ch.cardTake || s.ch.lease.isSome)) then
    let held := s.holdsCard
    let s := { s with ld.leading := false, ld.gaveUp := true, ld.cutIn := none, ld.low := 0, ch.request := 0, ch.cardTake := false }
    let s := ({ s.takeAbandon with ch.take := .idle }.armDropAll).leadRelease
    let s := (s.count Obj.GIVE_UP_COUNT 32).putN Obj.GIVE_UP_CAUSE qual
    let s := s.raise Src.lane Kind.LEAD_GIVEN_UP qual (some (src * 256 + kind : Nat))
    let s := s.when held (·.cardMod fun c => { c with resigned := true })
    s.when (held && pass) (·.passCard s.clk.now)
  else s

/-! ### Taking lead (R354, R357, R373). -/

/-- The lane becomes lead: its keeper names every enabled output of R267, and the chaperone grants what the conditions allow.
[log 63, 249 DEDUCED] -/
def State.becomeLead (s : State) : State :=
  let s := { s with ld.leading := true, ld.settled := true, ld.beatsLed := 0, ld.low := 0, ch.permission := none, ch.cardTake := false
                    ch.request := if s.ld.standing then 0 else s.requestMask }
  s.each 26 fun s b => s.armRaise b
/-- R361: the holder releases the card at a time: card mode ends at the opening edge of the beat after next. [log 71 DEDUCED] -/
def State.releaseCard (s : State) (now : Nat) : State :=
  let h := (now / s.beatCounts + 2) * s.beatCounts
  (s.sendCard 4 s.laneNo h).cardMod fun c => { c with released := true }

/-- R354: the take-lead sequence stands somewhere. -/
def State.takeAt (s : State) (x : Take) : State := { s with ch.take := x }
/-- The take-lead sequence has ended. -/
def State.takeEnd (s : State) : State := { s with ch.take := .idle, ch.peerHold := false }
/-- R357: a cut-in by a qualifier of CUT_IN begins; its gap counts from the last fall of the peer lines. -/
def State.cutInBegin (s : State) (qual : Nat) : State := { s with ld.cutIn := some (s.ld.fall, qual, 0) }
/-- R357, step 7: the re-check has passed: arm is granted. A succession card is released at once. -/
def State.takeDone (s : State) : State :=
  let t := (s.takeEnd).becomeLead
  if !s.ch.cardTake then t.cutInBegin 1
  else if s.ld.card.reason = 3 then (t.releaseCard s.clk.now).cutInBegin 2
  else t
/-- R354: the third re-check has failed. -/
def State.takeFail (s : State) : State :=
  let lane := s.peerLane (s.seenPeers.headD 0)
  let s := s.leadDown
  let s := { s with ch.take := .idle, ch.permission := none, ch.cardTake := false }
  s.raise Src.lane Kind.INTERLOCK_TEST_FAIL 5 (some (lane : Int))
/-- LEAD_RECHECK_END (R354, R357, R361): a re-check with quiet lines grants arm; against a lower lane number the lane
withdraws and starts again; the third failure loses the permission. [log 16 DEDUCED] -/
def runLeadRecheckEnd (s : State) : Res :=
  if s.ch.take != .check then .next s
  else if s.seenPeers.isEmpty then .next s.takeDone
  else if s.lowerLane s.seenPeers then .next (s.leadDown.takeAt .quiet)
  else if 2 ≤ s.ch.rechecks then .next s.takeFail
  else .next { s with ch.rechecks := s.ch.rechecks + 1, ch.seen := s.ch.peers }

/-- R357, R373: what a tick edge does to a cut-in: E0, then E1, at which CUT_IN is raised; a flying start that fails before
E1 ends it. [log 67 DEDUCED] -/
def State.cutInTick (s : State) : State :=
  match s.ld.cutIn with
  | none => s
  | some (fall, qual, edges) =>
    if ((List.range 6).any fun n => (s.axis n).failed) ∧ s.ch.armed % 64 = 0 then
      ({ s with ld.leading := false, ld.gaveUp := true, ld.cutIn := none, ch.request := 0 }.armDropAll).leadDown
    else if edges = 0 then { s with ld.cutIn := some (fall, qual, 1) }
    else
      let gap := min (s.clk.now - fall) (2 ^ 32 - 1)
      let s := { (s.count Obj.CUT_IN_COUNT 32).putN Obj.LAST_CUT_IN_GAP gap with ld.cutIn := none }
      s.raise Src.lane Kind.CUT_IN qual (some (gap : Int))

/-! ### Peer lines (R353, R365, R396, R398). -/

/-- R364: the time at which lane `k` pulses. -/
def State.pulseTime (s : State) (k : Nat) : Nat := s.nat Obj.LINE_TEST_TIME + inMs k
/-- R365: an assertion of a peer line at a time lies outside every test window: a PEER2 line that is to be tied low, and any
line at the lead while no test runs; within a test, a line other than the holder's away from its pulse. [log 74 DEDUCED] -/
def State.peerStray (s : State) (p now : Nat) : Bool :=
  let k := s.peerLane p
  s.laneNo != 0 && (k == 0 || (s.ld.leading && !s.ld.testing) || (s.ld.testing && k != s.nat Obj.CARD_HOLDER &&
    decide (now + 500 < s.pulseTime k ∨ s.pulseTime k + 500 < now)))

/-- R365: a peer line has been seen asserted outside every test window. -/
def State.lineStray (s : State) (p : Nat) : State :=
  { s with ld.stray := vset s.ld.stray p true, ld.lineFailed := true }.raise Src.lane Kind.INTERLOCK_TEST_FAIL 4 (some (s.peerLane p : Int))

/-- PEER_LEAD_IN_CHANGE (R353, R354, R365, R396, R398, R402): a filtered peer line takes a level at a global time; a waltz
holder that sees a lower lane's line only ramps from then on. [log 74 DEDUCED] -/
def runPeerLeadInChange (p : Fin 2) (level : Bool) (now : Nat) (s : State) : Res :=
  let s := { s with ch.peers := vset s.ch.peers p level }
  if level then
    let s := s.when (s.ch.take == .check) fun s => { s with ch.seen := vset s.ch.seen p true }
    let s := s.when (s.ch.take == .delay) fun s => { s with ch.seen := vset s.ch.seen p true }
    let s := s.when (s.ch.waltz.step == 2 && s.lowerLane [p.val]) fun s => { s with ch.waltz.lower := true }
    let s := s.when (s.chapState == 4 && s.ch.waltz.holder && s.lowerLane [p.val]) fun s =>
      { s with ch.waltz.holder := false, ch.waltz.driven := 0, ch.waltz.toff := 0 }.leadDown.waltzFinish
    let s := s.when (s.ch.armed != 0 && s.nat Obj.LEAD_MODE == 0) fun s => { s with ch.peerHold := true }.armJudge
    .next (s.when (s.peerStray p now) (·.lineStray p))
  else
    let s := s.when s.peersLow fun s => { s with ld.fall := now }
    .next (s.when (s.chapState == 4 && !s.ch.waltz.holder && !s.ch.waltz.holdDone && s.ch.waltz.step == 0 && s.peersLow) fun s =>
      { s with ch.waltz.step := 1 })

/-! ### Dance cards (R360–R363). -/

/-- R41, R363: no announcement heard from a partner differs from this lane's own. [log 196 DEDUCED] -/
def State.announceMatched (s : State) : Bool :=
  (List.range 2).all fun p => match vget s.ld.announced p with
    | some a => s.announceOk p a
    | none => true
/-- R363: is the lane eligible for a card? [log 196 DEDUCED] -/
def State.eligible (s : State) : Bool :=
  let sig := s.nat Obj.SIG_STATE
  (s.role == 0 || s.role == 1) && decide (8 ≤ s.nat Obj.START_STEP) && (sig == 1 || (sig == 4 && s.sealMode)) && s.clk.joined &&
    !s.uncalUsed && s.announceMatched && !s.st.noLead && s.chapState == 2 && decide (1 ≤ s.scoreAs 1)
/-- R361: card mode: no cut-in permission, and a take-lead sequence of the interlock ends. -/
def State.cardMode (s : State) : State :=
  let s := s.when (s.nat Obj.LEAD_MODE == 0) (·.takeAbandon)
  { s.putN Obj.LEAD_MODE 1 with ch.permission := none, ld.electing := false }
/-- R364, R365: a peer line stands asserted that no lane may assert as a test begins: a PEER2 line that is to be tied low, or a
line other than the holder's. -/
def State.lineHeld (s : State) (p : Nat) : Bool :=
  vget s.ch.peers p && s.laneNo != 0 && (s.peerLane p == 0 || s.peerLane p != s.nat Obj.CARD_HOLDER)
/-- R364, R365: the line test of a card issued at a time; a line held asserted since before it is outside every window. -/
def State.testBegin (s : State) (issued : Nat) : State :=
  let known := s.ld.stray
  let s := { s.putN Obj.LINE_TEST_TIME ((issued / s.beatCounts + 1) * s.beatCounts : Nat) with
    ld.testing := true, ld.pulseSeen := .replicate 2 false, ld.reports := .replicate 2 none
    ld.stray := .ofFn fun p : Fin 2 => s.lineHeld p.val && vget known p.val }
  s.each 2 fun s p => s.when (s.lineHeld p && !vget s.ld.stray p) (·.lineStray p)
/-- R103: START_STEP reaches a step. -/
def State.stepReached (s : State) (n : Nat) : State := if s.nat Obj.START_STEP < n ∧ n ≤ s.nat Obj.START_STEP + 3 then s.putN Obj.START_STEP n else s

/-- R361, R363: this lane issues the next card to itself at a time, where the guard allows it. [log 249 DEDUCED] -/
def State.issueCard (s : State) (reason now : Nat) : Option State :=
  if !s.clk.joined ∨ (s.ld.card.any ∧ now < s.nat Obj.CARD_EXPIRY + inMs 2) then none
  else
    let n : Nat := if s.ld.card.any then (s.nat Obj.CARD_NUMBER + 1) % 2 ^ 32 else 1
    let expiry : Nat := now + inMs (s.nat Obj.CARD_LEASE)
    let s := ((s.cardMode.putN Obj.CARD_NUMBER n).putN Obj.CARD_HOLDER s.laneNo).putN Obj.CARD_EXPIRY expiry
    let s := { s with ld.card := { any := true, issuer := s.laneNo, reason := reason }, ld.recover := s.ld.recover && decide (2 < reason)
                      ld.inGap := s.ld.inGap && decide (2 < reason), ch.lease := some expiry }
    let s := (s.sendCard 1 s.laneNo expiry).stepReached 10
    let s := s.when (!s.ld.leading) fun s => { s with ch.cardTake := true, ch.take := .idle }.takeBegin
    some (s.when (reason ≤ 2) (·.testBegin now))

/-- R363: the lanes of a lower number that take part in the set and issue first. -/
def State.lowerPresent (s : State) : Nat :=
  countOf ((List.range 2).map fun p => s.peerPresent p && decide (s.peerLane p < s.laneNo))
/-- R366: a set that runs: an issue has been seen, a partner's line is asserted or its words name a lead. -/
def State.setRuns (s : State) : Bool :=
  !s.peersLow || (List.range 2).any fun p => (vget s.ld.before p).map wordRole == some 2 || (vget s.ld.words p).map wordRole == some 2

/-- START_PARTNER_WAIT_EXPIRY (R106, R363): the lanes present settle leadership: the eligible lane with the lowest number
issues card 1. -/
def runStartPartnerWaitExpiry (s : State) : Res :=
  let s := { s with ld.waited := true }
  if s.nat Obj.START_STEP = 9 ∧ !s.ld.card.any then
    let s := s.when (s.nat Obj.SIG_STATE == 0 || s.st.noLead) fun s => { s with ld.settled := true }
    if s.setRuns then .next s
    else if s.eligible ∧ s.lowerPresent = 0 then .next ((s.issueCard 0 s.clk.now).getD s)
    else .next { s with ld.electing := true, ld.wait := s.lowerPresent }
  else .next s

/-- START_CARD_RETRY (R363): 10 ms later no issue has been seen; the next lane in order issues. -/
def runStartCardRetry (now : Nat) (s : State) : Res :=
  if s.ld.electing then
    let s := { s with ld.wait := s.ld.wait - 1 }
    if s.ld.wait = 0 ∧ s.eligible then .next ((s.issueCard 0 now).getD s) else .next s
  else .next s

/-- R361: is a card message of a partner accepted by its sender and number? A lane that has seen no card takes the first
number it hears. [log 68 DEDUCED] -/
def State.cardNumberOk (s : State) (n : Nat) : Bool :=
  !s.ld.card.any || n == s.nat Obj.CARD_NUMBER || n == (s.nat Obj.CARD_NUMBER + 1) % 2 ^ 32
/-- R361: a rejected card message. -/
def State.cardReject (s : State) (n : Nat) : State := s.raise Src.lane Kind.CARD_LEASE_LOST 2 (some (n : Int))
/-- R41: the card holder's announcement differs from this lane's. [log 80 DESIGN CHOICE] -/
def State.exclude (s : State) (p : Nat) (a : Announcement) : State :=
  if s.ld.excluded then s
  else
    let s := { s.takeAbandon with ld.excluded := true, ld.leading := false, ld.cutIn := none }
    let s := ({ s with ch.permission := none, ch.cardTake := false, ch.lease := none, ch.request := 0 }.armDropAll).leadRelease
    if a.signature ≠ s.nat Obj.SIG_ACTIVE then s.raise Src.keeper Kind.PARAM_SIG_MISMATCH 1 none
    else s.raise Src.lane Kind.PEER_LOST 2 (some (s.peerLane p : Int))
/-- R41, R361: a card message of a partner is taken from a matched partner alone, by a lane that runs; the continuation
applies it. [log 68, 73 DEDUCED] -/
def State.cardTaken (s : State) (p : Nat) (n : Nat) (f : State → State) : State :=
  if 3 ≤ s.role then s
  else
    match vget s.ld.announced p with
    | none => s
    | some a =>
      if !s.announceOk p a then s.exclude p a
      else if s.cardNumberOk n then f s else s.cardReject n
/-- R361: an accepted card message's number becomes the current one. -/
def State.cardAccept (s : State) (n : Nat) : State := (s.putN Obj.CARD_NUMBER n).cardMod fun c => { c with any := true }
/-- R361: after a partner's card this lane holds no lease of its own. -/
def State.cardYield (s : State) : State := { s with ch.lease := none, ch.cardTake := false }.armJudge

/-- CARD_ISSUE_MESSAGE (R361): a partner issues a card, judged by number and, on global time, by the guard. [log 69 DEDUCED] -/
def runCardIssueMessage (p : Fin 2) (m : Card) (now : Nat) (s : State) : Res :=
  .next (s.cardTaken p m.number fun s =>
    if s.ld.card.any ∧ now < s.nat Obj.CARD_EXPIRY + inMs 2 then s.cardReject m.number
    else
      let s := (s.cardMode.putN Obj.CARD_HOLDER m.holder).putN Obj.CARD_EXPIRY m.expiry
      let s := { s with ld.card := { any := true, issuer := m.issuer, reason := m.reason }, ld.settled := true
                        ld.recover := s.ld.recover && decide (2 < m.reason), ld.inGap := s.ld.inGap && decide (2 < m.reason) }
      let s := ((s.cardYield).stepReached 10).cardAccept m.number
      s.when (m.reason ≤ 2) (·.testBegin (m.expiry - inMs (s.nat Obj.CARD_LEASE))))

/-- CARD_RENEW_MESSAGE (R361): the lease is extended. -/
def runCardRenewMessage (p : Fin 2) (m : Card) (s : State) : Res :=
  .next (s.cardTaken p m.number fun s =>
    (((s.cardMode.putN Obj.CARD_HOLDER m.holder).putN Obj.CARD_EXPIRY m.expiry).cardYield).cardAccept m.number)

/-- CARD_PASS_MESSAGE (R361): the lease ends at the pass's send time, and the successor is named. -/
def runCardPassMessage (p : Fin 2) (m : Card) (s : State) : Res :=
  .next (s.cardTaken p m.number fun s =>
    (((s.cardMode.putN Obj.CARD_EXPIRY m.expiry).cardYield.endTest).cardAccept m.number).cardMod fun c =>
      { c with named := m.holder == s.laneNo })

/-- CARD_RELEASE_MESSAGE (R361): card mode ends at H. -/
def runCardReleaseMessage (p : Fin 2) (m : Card) (s : State) : Res :=
  .next (s.cardTaken p m.number fun s => (s.cardMode.cardAccept m.number).cardMod fun c => { c with released := true })

/-- CARD_RENEW_TIMER (R361, R362): every CARD_RENEW the holder renews, from its send time, unless it has given up lead. -/
def runCardRenewTimer (now : Nat) (s : State) : Res :=
  if s.holdsCard ∧ s.ch.lease.isSome ∧ !s.ld.card.resigned ∧ (s.role = 0 ∨ s.role = 1 ∨ s.role = 2) then
    let e := now + inMs (s.nat Obj.CARD_LEASE)
    .next { (s.putN Obj.CARD_EXPIRY e).sendCard 2 s.laneNo e with ch.lease := some e }
  else .next s

/-- CARD_LEASE_EXPIRY (R361): the chaperone disarms at the expiry; the holder raises CARD_LEASE_LOST and gives up lead. -/
def runCardLeaseExpiry (s : State) : Res :=
  if s.nat Obj.LEAD_MODE = 1 ∧ s.ch.lease.isSome then
    let s := { s with ch.lease := none }.armJudge
    let s := s.raise Src.lane Kind.CARD_LEASE_LOST 1 (some (s.n Obj.CARD_NUMBER))
    .next (s.giveUp 6 0 0 false)
  else .next s

/-- CARD_SUCCESSION_ISSUE (R361, R362): at expiry + 2 ms + (r − 1) ms the eligible follow of rank r, or the successor a pass
has named, issues the next card. [log 71 DEDUCED] -/
def runCardSuccessionIssue (now : Nat) (s : State) : Res :=
  let r := if s.ld.card.named then 1 else if s.ld.rank = 0 then s.laneNo else s.ld.rank
  if s.nat Obj.LEAD_MODE = 1 ∧ !s.holdsCard ∧ s.eligible ∧ !s.ld.gaveUp ∧ s.nat Obj.CARD_EXPIRY + inMs 2 + inMs (r - 1) ≤ now then
    .next ((s.issueCard 3 now).getD s)
  else .next s

/-- R107, R355, R372: a follow that may be given cut-in permission. -/
def State.mayCutIn (s : State) : Bool := s.ready && !s.ld.gaveUp && !s.ld.standing && !s.st.noLead && s.chapState == 2
/-- R354, R355, R372: the rank with which a follow may cut in. -/
def State.cutInRank (s : State) : Option Nat := if s.mayCutIn && s.ld.rank != 0 then some s.ld.rank else none

/-- R361, R355, R103: at H card mode ends: the lease is enforced no longer, the holder stays lead by LEAD_OUT, and follows
regain permission. A lane that gave up lead has rejoined with a start or recovery card, or with a line test that its
announcement came before. [log 196 DEDUCED] -/
def State.cardHandover (s : State) : State :=
  if s.nat Obj.LEAD_MODE = 1 ∧ s.ld.card.released then
    let rejoin := s.ld.card.reason = 0 ∨ s.ld.card.reason = 2 ∨ (s.ld.card.reason = 1 ∧ s.ld.included)
    let s := (s.putN Obj.LEAD_MODE 0).putN Obj.CARD_HOLDER 0
    let s := s.cardMod fun c => { c with released := false, named := false }
    let s := { s with ch.lease := none, ld.testing := false, ld.settled := true, ld.gaveUp := s.ld.gaveUp && !rejoin
                      ld.included := s.ld.included && !rejoin }
    let s := (s.stepReached 12).armJudge
    let s := s.when (!s.ld.standing && (s.role == 1 || s.role == 2)) (·.ebAsk true)
    if s.ld.leading then s else s.permit (if s.mayCutIn then some (if s.ld.rank = 0 then s.laneNo else s.ld.rank) else none)
  else s

/-! ### Line test (R364, R365). -/

/-- LINE_TEST_PULSE (R364): lane `k` pulses; at a partner's pulse the chaperone records whether it arrived within ±5 µs. -/
def runLineTestPulse (k : Fin 4) (seen : Bool) (s : State) : Res :=
  if !s.ld.testing ∨ k.val = 0 then .next s
  else if k.val = s.laneNo then .next (s.when (s.chapState == 2) (·.emit (.leadPulse (!s.holdsCard))))
  else
    .next (s.each 2 fun s p => s.when (s.peerLane p == k.val) fun s => { s with ld.pulseSeen := vset s.ld.pulseSeen p seen })

/-- R419: the observations this lane reports: [7] valid, [1] PEER2, [0] PEER1. -/
def State.observations (s : State) : Nat :=
  if s.ld.testing then 128 + 2 * b2n (vget s.ld.pulseSeen 1) + b2n (vget s.ld.pulseSeen 0) else 0
/-- R39, R419: does a partner's report say that it saw this lane's pulse? -/
def State.sawUs (s : State) (p : Nat) : Bool :=
  match vget s.ld.reports p with
  | none => false
  | some r =>
    let first := if s.peerLane p = 1 then 2 else 1
    r.testBit 7 && r.testBit (if s.laneNo = first then 0 else 1)

/-- LINE_TEST_EVALUATE (R364, R365): the observations are judged; a lane that failed publishes score 0; the holder releases
the card, or passes it where it failed itself. [log 72 DEDUCED] -/
def runLineTestEvaluate (now : Nat) (s : State) : Res :=
  if !s.ld.testing then .next s
  else
    let present := (List.range 2).filter fun p => s.peerPresent p
    let missed := present.filter fun p => !vget s.ld.pulseSeen p
    let by' := present.filter fun p => s.sawUs p
    let unseen := !present.isEmpty && by'.isEmpty
    let stray := vget s.ld.stray 0 || vget s.ld.stray 1
    let failed := unseen || stray || !missed.isEmpty
    let s := s.putN Obj.LINE_TEST_RESULT (16 + b2n (!vget s.ld.stray 1) <<< 3 + b2n (vget s.ld.pulseSeen 1) <<< 2 +
      b2n (vget s.ld.pulseSeen 0) <<< 1 + b2n (by'.length == present.length) : Nat)
    let s := { s with ld.testing := false, ld.lineFailed := failed }
    let s := s.when unseen (·.raise Src.lane Kind.INTERLOCK_TEST_FAIL 1 (some (s.laneNo : Int)))
    let s := missed.foldl (fun s p => s.raise Src.lane Kind.INTERLOCK_TEST_FAIL (2 + p) (some (s.peerLane p : Int))) s
    let s := (s.stepReached 11).when failed (·.permit none)
    if !s.holdsCard then .next s
    else if failed ∧ !(s.followers false fun w => 1 ≤ wordScore w).isEmpty then .next (s.giveUp 2 0 0 true)
    else .next (s.releaseCard now)

/-- R364: a lead starts the line test by a card of reason 1. [log 75 DEDUCED] -/
def State.lineTest (s : State) (now : Nat) : Option State :=
  if s.ld.leading ∧ s.nat Obj.LEAD_MODE = 0 then s.issueCard 1 now else none
/-- LINE_TEST_PERIOD_EXPIRY (R364): LINE_TEST_PERIOD after the last test. -/
def runLineTestPeriodExpiry (now : Nat) (s : State) : Res := .next ((s.lineTest now).getD s)
/-- LEAD_REQUEST (R356, R364, R375): 0x47 gives up lead, 0x54 runs the line test; for the lead alone. [log 75 DEDUCED] -/
def State.leadRequest (s : State) (v now : Nat) : Except AbortCode State :=
  if !s.ld.leading then .error 0x06060002
  else if v = 0x47 then .ok (s.giveUp 5 0 0 true)
  else match s.lineTest now with
    | some t => .ok t
    | none => .error 0x06060002

/-- R358, R373: the set is in a cut-in gap: this lane's own cut-in runs, or no line is asserted in interlock mode. [log 247
DEDUCED] -/
def State.cutInGap (s : State) : Bool := s.ld.cutIn.isSome || (s.nat Obj.LEAD_MODE == 0 && !s.ld.leading && s.peersLow)
/-- LANE_ANNOUNCEMENT (R366, R41): a partner announces itself; a running lane notes that a recovery is due, but where it comes
before T of the test that runs; the lead of the time begins it. [log 196 DEDUCED] -/
def runLaneAnnouncement (p : Fin 2) (a : Announcement) (s : State) : Res :=
  let s := { s with ld.announced := vset s.ld.announced p (some a) }
  let s := s.when (s.announceOk p a) fun s => { s with ld.lost := vset s.ld.lost p false, ld.missing := vset s.ld.missing p 0 }
  let covered : Bool := s.nat Obj.LEAD_MODE == 1 && s.ld.testing && decide (s.clk.now < s.nat Obj.LINE_TEST_TIME)
  .next (if s.announceOk p a ∧ (s.role = 1 ∨ s.role = 2) ∧ !covered then
    { s with ld.recover := true, ld.inGap := (s.ld.recover && s.ld.inGap) || s.cutInGap } else s)

/-! ### Shadow comparison and cross-check (R368, R369). -/

/-- R416: the cells one record holds. [log 81 DEDUCED] -/
def State.recordCells (s : State) : Nat :=
  match (schedRows (s.oct Obj.SCHED_C)).find? fun r => r.type == 1 && r.owner == 0x7F with
  | some r => min 32 ((r.length - 20 - 8 * countOf ((List.range 6).map fun n => s.on (Obj.AX_ENABLE n))) / 30)
  | none => 0
/-- R368: position and speed of the source in use of an axis. -/
def State.axPair (s : State) (n : Nat) : Int × Int :=
  match s.axSource n (s.axis n).second with
  | some o => (s.node (544 + o), s.node (560 + o))
  | none => (0, 0)
/-- R368: in tick SHADOW_TICK the lead captures the cells that feed an armed output, each with what its last execution read and
gave; a follow keeps its generator nodes of that tick (R291). [log 81, 198 DEDUCED] -/
def State.shadowCapture (s : State) : State :=
  if s.nat Obj.TICK_INDEX ≠ s.nat Obj.SHADOW_TICK then s
  else if !s.ld.leading then { s with ld.genShots := ((s.beat32, (List.range 48).map fun i => s.node (832 + i)) :: s.ld.genShots).take 3 }
  else
    let cands := (List.range 256).filter fun n =>
      let x := vget s.lp.cells n
      x.row.law != 0 && s.feedsArmed x && (x.runs != 0 || x.last != {}) && decide (s.ld.rotation ≤ n)
    let taken := cands.take s.recordCells
    let pairs := ((List.range 6).filter fun n => s.on (Obj.AX_ENABLE n)).map s.axPair
    { s with
      ld.rotation := if taken.length < cands.length then (taken.getLast?.map (· + 1)).getD 0 else 0
      ld.capture := some ⟨s.clk.now, s.beat32, taken.map fun n => (vget s.lp.cells n).last, pairs⟩ }
/-- R368: the law of a recorded cell run on its recorded inputs and states. -/
def State.shadowRun (s : State) (x : ShadowCell) : LawResult :=
  let r := (vget s.lp.cells x.cell).row
  if (hystOutput r).isSome then { y := x.a, s0 := x.s0, s1 := x.s1 } else cellLaw r x.a x.b x.c x.d x.s0 x.s1
/-- R291: does a recorded input that names a generator's node, of a cell due in that tick, differ from this lane's own node in
it? [log 198 DEDUCED] -/
def State.shadowGen (s : State) (beat : Nat) (x : ShadowCell) : Bool :=
  match s.ld.genShots.find? fun e => e.1 == beat with
  | none => false
  | some e =>
    let r := (vget s.lp.cells x.cell).row
    rowDue r.group r.phase (beat * s.nat Obj.TICKS_PER_BEAT + s.nat Obj.SHADOW_TICK) && [(r.inA, x.a), (r.inB, x.b), (r.inC, x.c), (r.inD, x.d)].any fun i =>
      decide (832 ≤ i.1 ∧ i.1 < 880) && e.2.getD (i.1 - 832) 0 != i.2
/-- R371, R372: a shadow or cross-check failure. -/
def State.shadowFail (s : State) (qual : Nat) (detail : Int) : State :=
  { s with ld.passes := 0, ld.failAge := 0, ld.passed := false }.raise Src.lane Kind.HEALTH_LOW qual (some detail)
/-- R369: one axis's own position against the lead's extrapolated one; the zeros' offset is learnt first. [log 82 DEDUCED] -/
def State.crossCheck (s : State) (time n : Nat) (pair : Int × Int) : State :=
  match s.axSource n (s.axis n).second with
  | none => s
  | some o =>
    let v := pair.2 * 2 ^ s.nat (Obj.OB_SPEED_SHIFT o)
    let diff := wrap32 (s.node (544 + o) - (pair.1 + v * ((s.clk.now : Int) - time) / 100000000))
    match vget s.ld.offset n with
    | none => { s with ld.offset := vset s.ld.offset n (some diff) }
    | some off =>
      if s.nat Obj.XCHK_BOUND < (wrap32 (diff - off)).natAbs then
        let k := (vget s.ld.crossBad n : Nat) + 1
        let s := { s with ld.crossBad := vset s.ld.crossBad n k }
        if k = s.nat Obj.XCHK_M then s.shadowFail 3 n else s
      else { s with ld.crossBad := vset s.ld.crossBad n 0 }

/-- SHADOW_RECORD (R368, R369): a follow runs the recorded laws, compares bit for bit, its generators with them (R291), and
adopts the states on a pass. [log 83, 198 DEDUCED] -/
def runShadowRecord (r : ShadowRecord) (s : State) : Res :=
  if s.role ≠ 1 then .next s
  else
    let bad := r.cells.any fun x => (s.shadowRun x).y != x.y || s.shadowGen r.beat x
    let s := if bad then (s.count Obj.SHADOW_FAILS 32).shadowFail 2 s.score
      else
        let s := r.cells.foldl (fun s x => (s.cellStateWrite x.cell true (s.shadowRun x).s0).cellStateWrite x.cell false (s.shadowRun x).s1) s
        { s.count Obj.SHADOW_PASSES 32 with ld.passes := s.ld.passes + 1, ld.passed := true }
    let axes := (List.range 6).filter fun n => s.on (Obj.AX_ENABLE n)
    .next ((axes.zip r.pairs).foldl (fun s x => s.crossCheck r.time x.1 x.2) s)

/-- R367: a follow pulses one gate of each enabled axis, in rotation; `failed` names the axes whose last pulse was not sensed
as it should be. The chaperone grants test arming for a pulse only as R379 lets it. [log 196 DEDUCED] -/
def State.gateTests (s : State) (failed : Nat) : State :=
  if s.role ≠ 1 ∨ s.chapState ≠ 2 ∨ s.nat Obj.WDG_LIMIT ≤ s.nat Obj.WDG_ERRORS ∨ !s.bit Obj.DOMAIN_STATUS 3 ∨ s.ch.scan ∨ !s.armSupply 0 then s
  else
    let g := s.ld.gateTest
    let before := (g + 5) % 6
    let s := s.each 6 fun s n => s.when (s.on (Obj.AX_ENABLE n) && s.axState n == 0 && !s.ch.armed.testBit n) fun s =>
      (s.when (failed.testBit n) (·.axGateFault n (before / 2) (before % 2 == 0) 3)).emit (.gatePulse n g)
    { s with ld.gateTest := (g + 1) % 6 }

/-! ### Health, ranking and the ladder at a beat boundary (R370–R372, R392–R394). -/

/-- PEER_WORDS_TIMEOUT (R372): a partner's word has been missing for PEER_TIMEOUT beats. -/
def runPeerWordsTimeout (p : Fin 2) (s : State) : Res :=
  if s.peerLane p ≠ 0 ∧ !vget s.ld.lost p ∧ s.nat Obj.PEER_TIMEOUT ≤ vget s.ld.missing p then
    let s := { s.putN (Obj.PEER_STATE p) 2 with ld.lost := vset s.ld.lost p true }
    .next (s.raise Src.lane Kind.PEER_LOST 1 (some (s.peerLane p : Int)))
  else .next s

/-- R370, R374, R419: a partner's lane health block; the first that shows it silent reports it. [log 213 DEDUCED] -/
def State.wordTaken (s : State) (p word obs : Nat) : State :=
  let s := s.when (wordRole word == 4 && wordRole (s.nat (Obj.PEER_HEALTH p)) != 4) fun s =>
    s.raise Src.lane Kind.PEER_LOST 3 (some (s.peerLane p : Int))
  let s := (s.putN (Obj.PEER_HEALTH p) word).putN (Obj.PEER_BEAT p) s.beat32
  let s := s.putN (Obj.PEER_STATE p) (if wordRole word = 5 then 3 else 1)
  { s with ld.words := vset s.ld.words p (some word), ld.missing := vset s.ld.missing p 0, ld.lost := vset s.ld.lost p false
           ld.reports := if s.ld.testing ∧ obs.testBit 7 then vset s.ld.reports p (some obs) else s.ld.reports }

/-- The words received in the beat just ended become those of the previous beat; a partner without one is missing. -/
def State.wordsShift (s : State) : State :=
  let miss (p : Nat) : Nat := if (vget s.ld.words p).isSome then 0 else min 255 ((vget s.ld.missing p : Nat) + 1)
  { s with ld.before := s.ld.words, ld.words := .replicate 2 none, ld.missing := vset (vset s.ld.missing 0 (miss 0)) 1 (miss 1)
           ld.failAge := min 64 (s.ld.failAge + 1), ld.beatsLed := s.ld.beatsLed + 1
           ld.passedLast := s.ld.passed, ld.passed := false }

/-- R371: HEALTH_LOW when the score first falls below HEALTH_FLOOR; the 0 of a lane that starts is no fall. [log 248 DEDUCED] -/
def State.healthLow (s : State) : State :=
  let below : Bool := decide (s.score < s.nat Obj.HEALTH_FLOOR)
  let first := below && !s.ld.belowFloor
  let s := { s with ld.belowFloor := below }
  s.when first (·.raise Src.lane Kind.HEALTH_LOW 1 (some (s.score : Int)))

/-- R356, qualifier 0x2: the lead's score below the floor on two beats with a better follow of rank 1; a CRITICAL line that is
asserted then gives up with 0x1 instead (R373). -/
def State.healthGiveUp (s : State) : State :=
  if s.ld.leading ∧ s.nat Obj.LEAD_MODE = 0 ∧ s.col.lines.isEmpty then
    match s.ranking with
    | (best, _) :: _ =>
      if s.score < s.nat Obj.HEALTH_FLOOR ∧ s.nat Obj.HEALTH_FLOOR ≤ best ∧ s.score < best then
        if 1 ≤ s.ld.low then s.giveUp 2 0 0 true else { s with ld.low := 1 }
      else { s with ld.low := 0 }
    | [] => { s with ld.low := 0 }
  else s

/-- R372: ranks are formed and the keeper passes the permission. -/
def State.rankBeat (s : State) : State :=
  let l := s.ranking
  let mine := l.findIdx fun x => x.2 == s.laneNo
  let rank := if mine < l.length then mine + 1 else 0
  let s := s.putN Obj.CUT_IN_RANK (min rank 3)
  let s := if s.nat Obj.LEAD_MODE = 0 then { s with ld.rank := rank } else s
  if s.ld.leading ∨ s.nat Obj.LEAD_MODE = 1 then s else s.permit (if s.ld.electing then none else s.cutInRank)

/-- R80, R366: a set without a lead in which no follow holds a permission settles as at start, where a vote wants its power; a
follow that sees the set run looks for a card no longer. [log 196 DEDUCED] -/
def State.settleBegin (s : State) (powerVote : Bool) : State :=
  if s.ld.electing then { s with ld.electing := !(s.setRuns && s.role == 1) }
  else if s.nat Obj.START_STEP = 12 ∧ s.role ≤ 1 ∧ s.nat Obj.LEAD_MODE = 0 ∧ !s.setRuns ∧ !s.ch.leadOut ∧ s.ch.permission.isNone ∧
      s.ch.take = .idle ∧ !s.ld.standing ∧ powerVote then
    { s with ld.electing := true, ld.wait := s.lowerPresent }
  else s
/-- R363, R366, R373: the lead begins a recovery, after an announcement in the gap of its cut-in once it has led for a whole
beat; a lane that looks for a card issues it in its turn. [log 247 DEDUCED] -/
def State.cardBeat (s : State) : State :=
  if s.ld.leading then
    if s.ld.recover ∧ s.nat Obj.LEAD_MODE = 0 ∧ (!s.ld.inGap ∨ 2 ≤ s.ld.beatsLed) then (s.issueCard 2 s.clk.now).getD s else s
  else if s.ld.electing then
    (if s.ld.wait = 0 ∧ s.eligible ∧ !s.setRuns then (s.issueCard 0 s.clk.now).getD s else s)
  else s

/-- R392: does a lane with this word count as lost? Before START_PARTNER_WAIT has run out role 0, whose score is always 0, is no
loss. [log 76 DEDUCED] -/
def wordLost (waited : Bool) (w : Nat) : Bool :=
  let r := wordRole w
  if r = 0 ∧ !waited then false
  else r == 0 || r == 3 || r == 4 || r == 5 || wordScore w == 0 || (!w.testBit 13 && !w.testBit 14)
/-- R392: F and the lanes counted lost. -/
def State.ladderCount (s : State) : Nat × Nat :=
  let one (acc : Nat × Nat) (lane : Nat) (w : Option Nat) (timeout : Bool) : Nat × Nat :=
    match w with
    | some x => if timeout || wordLost (s.ld.waited || s.ld.settled) x then (acc.1 + 1, acc.2 + 2 ^ (lane - 1)) else (acc.1 + field x 11 8, acc.2)
    | none => if timeout then (acc.1 + 1, acc.2 + 2 ^ (lane - 1)) else acc
  let acc := one (0, 0) s.laneNo (some s.healthWord) false
  (List.range 2).foldl (fun acc p =>
    if s.peerLane p = 0 then acc
    else one acc (s.peerLane p) (vget s.ld.before p) (decide (s.nat Obj.PEER_TIMEOUT ≤ vget s.ld.missing p))) acc
/-- R393: the level for F in this set. [log 76 DEDUCED] -/
def ladderLevel (three : Bool) (f : Nat) : Nat := if three then min f 2 else if f = 0 then 0 else if f = 1 then 2 else 3
/-- R393, R394: the ladder at a beat boundary, from step 9 of the lane's start on. [log 76, 77 DEDUCED] -/
def State.ladderBeat (s : State) : State :=
  if s.nat Obj.START_STEP < 9 then s
  else
    let (f, lost) := s.ladderCount
    let level := ladderLevel s.threeLane f
    let req := s.nat Obj.LADDER_REQUESTS ||| (if 2 ≤ level then 3 else 0)
    let s := (((s.putN Obj.LADDER_COUNT (min f 255)).putN Obj.LADDER_LOST lost).putN Obj.LADDER_LEVEL level).putN Obj.LADDER_REQUESTS req
    let s := { s with ld.ladderRun := level == 3 && (s.ld.ladderRun || !s.ld.ladderRaised), ld.ladderRaised := s.ld.ladderRaised && level == 3 }
    if s.appStopped then s
    else (s.writeNode 3120 ((f % 256) <<< 8 + b2n (req.testBit 1) <<< 3 + b2n (req.testBit 0) <<< 2 + level : Nat)).writeNode 3121
      (if level = 3 then 0 else s.n Obj.LADDER_SPEED_CAP)

/-- LADDER_WALTZ_DELAY_EXPIRY (R393): the delay has run out and the level is still LAST WALTZ. -/
def runLadderWaltzDelayExpiry (s : State) : Res :=
  if s.ld.ladderRun ∧ s.nat Obj.LADDER_LEVEL = 3 then
    let s := { s with ld.ladderRun := false, ld.ladderRaised := true }
    .next (s.raise Src.lane Kind.LAST_WALTZ 2 (some (s.n Obj.LADDER_COUNT * 256 + s.laneNo)))
  else .next s
/-- LADDER_REQUEST_CLEAR (R394): a level below 2 and zero vehicle speed have held for 1 s. -/
def runLadderRequestClear (s : State) : Res :=
  if s.nat Obj.LADDER_LEVEL < 2 ∧ s.nat Obj.VEH_SPEED = 0 then .next (s.putN Obj.LADDER_REQUESTS 0) else .next s

/-- R356–R394 at a beat boundary: words, health, ranks, cards and the ladder, in this order, and the health word the lane
publishes. -/
def State.leadBeat (s : State) (powerVote : Bool) : State :=
  let s := (((s.wordsShift.healthLow).healthGiveUp).settleBegin powerVote).rankBeat
  let s := s.cardBeat.ladderBeat
  s.putN Obj.HEALTH_WORD s.healthWord

end Sys2Proof.Machine
end

