-- ==== Sys2Proof/Machine/Ralune.lean ====
section
/-!
DEFINITION. Machine/Ralune.lean: the Ralune bus (R405–R441): schedules and windows, frames sent and received, reference
frames and global time, masters and cold start, spare claims, network announcements. Ports are numbered 0 A, 1 B, 2 C, 3 D.
-/
namespace Sys2Proof.Machine

/-- A port of the lane. -/
def State.port (s : State) (p : Nat) : RaPort := vget s.ra.ports p
/-- Change a port. -/
def State.portMod (s : State) (p : Nat) (f : RaPort → RaPort) : State := { s with ra.ports := vmod s.ra.ports p f }

/-! ### Schedules and windows (R410–R415). -/

/-- R405: the schedule of a port. -/
def schedKey (p : Nat) : Nat := if p = 2 then Obj.SCHED_C else if p = 3 then Obj.SCHED_D else Obj.SCHED_AB
/-- R147, R440: the signatures of the active schedules are formed. -/
def State.schedShow (s : State) : State :=
  let sig (key : Nat) : Nat := crc32c (s.oct key)
  ((s.putN Obj.SCHED_AB_SIG (sig Obj.SCHED_AB)).putN Obj.SCHED_C_SIG (sig Obj.SCHED_C)).putN Obj.SCHED_D_SIG (sig Obj.SCHED_D)
/-- R440: the signature of a port's active schedule. -/
def State.schedSig (s : State) (p : Nat) : Nat := s.nat (if p = 2 then Obj.SCHED_C_SIG else if p = 3 then Obj.SCHED_D_SIG else Obj.SCHED_AB_SIG)
/-- R412: rows with their spare index, the number of SPARE rows before each. -/
def withSpare : List SchedRow → Nat → List (SchedRow × Nat)
  | [], _ => []
  | r :: l, k => (r, k) :: withSpare l (if r.type = 3 then k + 1 else k)
/-- The rows of a port's schedule with their spare index. -/
def State.sched (s : State) (p : Nat) : List (SchedRow × Nat) := withSpare (schedRows (s.oct (schedKey p))) 0
/-- R413: the frame budget in 10 ns counts for an arbitration and a data rate in kbit/s. -/
def frameBudget (arb data : Nat) (fd : Bool) (n : Nat) : Nat :=
  50 * (100000 / arb) + (if fd then (10 * n + 60) * (100000 / min data 5000) else 11 * ((8 * n + 136 + 9) / 10) * (100000 / data))
/-- R413: the budget of a frame on a port. -/
def State.budget (s : State) (p : Nat) (fd : Bool) (n : Nat) : Nat :=
  frameBudget (s.nat (Obj.PORT_ARB_RATE p)) (s.nat (Obj.PORT_DATA_RATE p)) fd n
/-- R413: a window's extent, from its start to E. -/
def State.extent (s : State) (p : Nat) (r : SchedRow) : Nat := 200 + s.budget p r.fd r.length
/-- R410: the beat in reel of a beat. -/
def State.inReel (s : State) (b : Nat) : Nat := b % s.nat Obj.BEATS_PER_REEL
/-- R411, R422: the spares of a port's schedule. -/
def State.spareCount (s : State) (p : Nat) : Nat := ((s.sched p).filter fun x => x.1.type == 3).length
/-- The row of a window present in beat `b`. -/
def State.window (s : State) (p w b : Nat) : Option (SchedRow × Nat) :=
  (s.sched p).find? fun x => x.1.window == w && x.1.present (s.inReel b)
/-- R434: the claimant confirmed for a spare, none while it is free. -/
def State.spareHolder (s : State) (p idx : Nat) : Option Nat :=
  let c := (s.port p).confirms.getD idx 0
  if c.testBit 15 then some (c % 128) else none

/-! ### What a lane may send (R385, R414, R420, R425, R426). -/

/-- R426: is the lane inhibited? [log 97 DEDUCED] -/
def State.inhibited (s : State) : Bool := s.ra.inhibit || (List.range 4).any fun p => (s.port p).sigBad
/-- The keeper lets the lane send in windows: joined and not inhibited. -/
def State.sends (s : State) : Bool := s.clk.joined && !s.inhibited
/-- The lane may begin to send in a window: not past step 1 of an entry to DOZE, whose step 2 closes the transmitters at the
end of the current window (R86). [log 197 DEDUCED] -/
def State.maySend (s : State) : Bool := s.sends && s.pw.entry != 1
/-- R385: the guardian is synchronised on a port, and has not closed its exclusive and spare windows by coast. -/
def State.guardOpen (s : State) (p : Nat) : Bool := s.bit Obj.GUARD_STATUS (4 + p) && !s.bit Obj.GUARD_STATUS p
/-- R385, R519: the guardian and the keeper's state leave the window open; a spare only where the chaperone has seen it
confirmed for this node. [log 109, 227 DEDUCED] -/
def State.windowOpen (s : State) (p : Nat) (r : SchedRow) (idx : Nat) : Bool :=
  let own := p == 2 && r.type == 1 && r.owner == s.laneNo
  (own || (s.chapState == 2 && !s.col.failSilent)) && (p != 3 || s.nat (Obj.PORT_ROLE 3) != 0) &&
    (if r.type = 2 then s.bit Obj.GUARD_STATUS (4 + p) else s.guardOpen p) && (r.type != 3 || (vget s.ch.spares p).testBit idx)
/-- R418: the header of a payload. -/
def State.header (s : State) (p type flags : Nat) : List Byte :=
  le 1 type ++ le 1 flags ++ le 1 (s.portAddr p) ++ le 1 (s.portNet p % 16)
/-- R407, R417: a frame goes out on a port in a format with its class and the lane's address. -/
def State.sendFrame (s : State) (p : Nat) (fd : Bool) (cls : Nat) (payload : List Byte) : State :=
  s.emit (.frame p { fd := fd, sdt := s.nat (Obj.PORT_SDT p) } (cls * 128 + s.portAddr p) payload)

/-! ### Latching (R419, R420, R447). -/

/-- R370, R420: the health word that a lane publishes: HEALTH_WORD, but its role at once where it restarts or falls silent. -/
def State.wordOut (s : State) : Nat := if s.ld.restarting ∨ s.col.failSilent then s.healthWord else s.nat Obj.HEALTH_WORD
/-- R419: the lane health block. -/
def State.healthBlock (s : State) : List Byte := le 4 s.wordOut ++ le 1 s.voteOut ++ le 1 s.observations ++ zeros 2
/-- R368: the bytes of a shadow record. -/
def recordBytes (r : ShadowRecord) : List Byte :=
  zeros 2 ++ le 2 r.cells.length ++ le 4 r.beat ++ le 8 r.time ++
    (r.cells.flatMap fun c => le 2 c.cell ++ leInt 4 c.a ++ leInt 4 c.b ++ leInt 4 c.c ++ leInt 4 c.d ++ leInt 4 c.s0 ++ leInt 4 c.s1 ++ leInt 4 c.y) ++
    r.pairs.flatMap fun x => leInt 4 x.1 ++ leInt 4 x.2
/-- R419: the lane announcement. -/
def State.laneAnnouncement (s : State) : List Byte :=
  le 1 s.unitNo ++ le 1 s.funcNo ++ le 1 s.laneNo ++ le 1 (if s.threeLane then 3 else 2) ++ le 1 (s.nat Obj.TICKS_PER_BEAT) ++ le 4 (s.nat Obj.SIG_ACTIVE)
/-- R457: the release version of the active slot. -/
def State.activeVersion (s : State) : Nat := s.nat (if s.nat Obj.SLOT_ACTIVE = 0 then Obj.SLOT_A_VERSION else Obj.SLOT_B_VERSION)
/-- R457: the content of the lane's network announcement on a port. -/
def State.netAnnouncement (s : State) : List Byte :=
  zeros 2 ++ le 1 s.nodeAddr ++ le 1 s.unitNo ++ le 1 s.funcNo ++ le 1 (if s.threeLane then 3 else 2) ++ le 1 s.laneNo ++ le 1 1 ++
    le 4 (s.nat Obj.SIG_ACTIVE) ++ le 4 s.activeVersion ++ le 8 Config.serial.toNat
/-- R420: content latched for a scheduled window. -/
def State.latch (s : State) (p w : Nat) (payload : List Byte) : State :=
  s.portMod p fun x => { x with latched := Sparse.set (fun _ => []) x.latched w payload }
/-- R420: content latched for a row's window, none where it would exceed the row's length. -/
def State.latchFit (s : State) (p : Nat) (r : SchedRow) (payload : List Byte) : State :=
  s.latch p r.window (if payload.length ≤ r.length then payload else [])
/-- R420: a frame waits for an arbitrating window. -/
def State.queueFrame (s : State) (p cls : Nat) (payload : List Byte) : State :=
  s.portMod p fun x => { x with queue := x.queue ++ [(cls, payload)] }

/-- R441: request `n` asks for a spare of port `p`. -/
def State.claimFor (s : State) (p n : Nat) : Bool :=
  let r := s.nat (Obj.CLAIM_REQ n)
  r.testBit 29 && (if r / 2 ^ 30 = 0 then decide (p ≤ 1) else p == 3)
/-- R441: byte `n` of CLAIM_STATE, set. -/
def State.claimByte (s : State) (n b : Nat) : State :=
  let v := s.nat Obj.CLAIM_STATE
  s.putN Obj.CLAIM_STATE (v - field v (8 * n + 7) (8 * n) * 256 ^ n + b * 256 ^ n : Nat)
/-- R441: byte `n` of CLAIM_STATE. -/
def State.claimState (s : State) (n : Nat) : Nat := field (s.nat Obj.CLAIM_STATE) (8 * n + 7) (8 * n)
/-- The spare that request `n` holds or has chosen. -/
def State.claimHeld (s : State) (n : Nat) : Option Nat :=
  if (s.claimState n).testBit 7 then some (s.claimState n % 32) else (vget s.ra.claims n).idx
/-- R414, R435: the exclusive window is this lane's: by the schedule, or a spare confirmed to a request of this lane that still
asks for it. -/
def State.ownsWindow (s : State) (p : Nat) (r : SchedRow) (idx : Nat) : Bool :=
  if r.type = 1 then (if r.owner = 0x7F then p == 2 && s.ch.leadOut else r.owner == s.portAddr p)
  else r.type == 3 && s.spareHolder p idx == some (s.portAddr p) && (List.range 4).any fun n => s.claimFor p n && s.claimState n == 128 + idx
/-- Change a claim request. -/
def State.claimMod (s : State) (n : Nat) (f : RaClaim → RaClaim) : State := { s with ra.claims := vmod s.ra.claims n f }
/-- R432: the first spare that fits request `n` on port `p`. -/
def State.chooseSpare (s : State) (p n : Nat) : Option Nat :=
  let req := s.nat (Obj.CLAIM_REQ n)
  ((s.sched p).find? fun x => x.1.type == 3 && decide (field req 11 0 ≤ x.1.length) && x.1.rep == field req 28 26 &&
    decide (x.2 < (s.port p).confirms.length) && s.spareHolder p x.2 == none &&
    (List.range 4).all fun m => m == n || !(s.claimFor p m) || s.claimHeld m != some x.2).map (·.2)
/-- R433: the payload of a claim. -/
def State.claimPayload (s : State) (p idx : Nat) : List Byte :=
  s.header p 0x04 0 ++ le 1 idx ++ zeros 1 ++ le 4 (s.schedSig p) ++ zeros 2
/-- R432, R434: request `n` puts its claim into the queue of port `p`, choosing a spare where none is chosen. -/
def State.claimLatch (s : State) (p n : Nat) : State :=
  let c := vget s.ra.claims n
  if !s.claimFor p n ∨ (s.claimState n).testBit 7 ∨ s.nat Obj.SIG_STATE ≠ 1 ∨ c.ports.testBit p ∨ (c.idx.isNone ∧ c.tried) then s
  else
    match c.idx.orElse fun _ => s.chooseSpare p n with
    | some idx => ((s.claimMod n fun c => { c with idx := some idx }).claimByte n (64 + idx)).queueFrame p 1 (s.claimPayload p idx)
    | none =>
      ((s.claimMod n fun c => { c with tried := true }).claimByte n 32).raise (Src.port p) Kind.RALUNE_CLAIM_FAIL 1 (some (n * 256 : Nat))

/-- R419, R420: what is latched for an exclusive or spare window of the lane. -/
def State.latchOwn (s : State) (p : Nat) (r : SchedRow) (now : Nat) : State :=
  if p ≠ 2 then
    if s.appStopped then s.latch p r.window []
    else
      let x := s.azCollect p (r.length - 4) (· == 0) now
      x.2.latchFit p r (if x.1.isEmpty then [] else s.header p 0x02 0 ++ x.1)
  else if r.owner = 0x7F then
    match s.ld.capture with
    | some c => { s with ld.capture := none }.latchFit p r (s.header p 0x12 0 ++ recordBytes c)
    | none => s.latch p r.window []
  else
    let word := s.header p 0x10 0 ++ s.healthBlock
    match s.ld.outCards with
    | c :: l =>
      let card := s.header p 0x11 0 ++ cardBytes c ++ s.healthBlock
      if s.ld.restarting ∨ s.col.failSilent ∨ r.length < card.length then s.latchFit p r word
      else { s with ld.outCards := l }.latch p r.window card
    | [] => s.latchFit p r word
/-- R419, R420, R432, R458: what is latched for an arbitrating window. -/
def State.latchShared (s : State) (p : Nat) (r : SchedRow) (now : Nat) : State :=
  let s := s.portMod p fun x => { x with queue := x.queue.filter fun q => q.1 != 1 }
  if p = 2 then
    s.when (r.owner.testBit 3 && s.role != 1 && s.role != 2) fun s =>
      ({ s with ld.included := !s.ld.testing || s.ld.included || decide (s.clk.now < s.nat Obj.LINE_TEST_TIME) }.portMod p fun x => { x with queue := x.queue.filter fun q => q.1 != 3 }).queueFrame p 3
        (s.header p 0x14 0 ++ s.laneAnnouncement)
  else
    let s := if r.owner.testBit 2 ∧ s.clk.joined then s.each 4 fun s n => s.claimLatch p n else s
    let s := s.when (r.owner.testBit 3 && (s.port p).announce) fun s =>
      (s.portMod p fun x => { x with announce := false }).queueFrame p 3 (s.header p 0x05 0 ++ s.netAnnouncement)
    if r.owner.testBit 1 ∧ !s.appStopped then
      let x := s.azEvents p (r.length - 4) now
      if x.1.isEmpty then s else x.2.queueFrame p 2 (s.header p 0x02 0 ++ x.1)
    else s
/-- FRAME_LATCH (R420, R447, R459): 20 µs before a window of a port starts, at a global time, its content is latched. -/
def runFrameLatch (p : Fin 4) (w : Fin 24) (now : Nat) (s : State) : Res :=
  match s.window p w ((now + 2000) / s.beatCounts) with
  | none => .next s
  | some (r, idx) =>
    if !s.maySend ∨ !s.windowOpen p r idx then .next s
    else if r.type = 2 then .next ((s.latchShared p r now).portMod p fun x => { x with ready := x.queue })
    else if s.ownsWindow p r idx then .next (s.latchOwn p r now)
    else .next s

/-! ### Windows (R414, R420). -/

/-- R411: the rights bit of a class. -/
def rightsBit (cls : Nat) : Nat := [7, 2, 1, 3, 0].getD cls 7
/-- R407, R420: of the latched frames the one of lowest identifier whose class the mask covers, that its row's format holds
and whose budget from an instant ends at or before E. -/
def State.pickFrame (s : State) (p : Nat) (r : SchedRow) (now close : Nat) : Option (Nat × List Byte) :=
  let fits := (s.port p).ready.filter fun q => r.owner.testBit (rightsBit q.1) && decide (q.2.length ≤ r.length) && (!r.fd || decide (q.2.length ≤ 64)) &&
    decide (now + s.budget p r.fd q.2.length ≤ close)
  fits.foldl (fun best q => match best with
    | none => some q
    | some b => if q.1 < b.1 then some q else best) none
/-- R420: a frame of the queue is put on the bus, where one fits. -/
def State.startFrame (s : State) (p : Nat) (r : SchedRow) (now close : Nat) : State :=
  match s.pickFrame p r now close with
  | some q => (s.portMod p fun x => { x with onBus := some q }).sendFrame p r.fd q.1 q.2
  | none => s.portMod p fun x => { x with onBus := none }
/-- R420: the owner of a window with nothing latched sends a null frame, where the row is long enough for one. [log 103
DEDUCED] -/
def State.sendNull (s : State) (p : Nat) (r : SchedRow) : State :=
  if r.length < 4 then s
  else
    let s := s.when (!s.appStopped) (·.portMod p fun x => { x with nulls := x.nulls + 1 })
    (s.count (Obj.PORT_NULLS_SENT p) 32).sendFrame p false 8 (s.header p (if p = 2 then 0x12 else 0x02) 1)
/-- R420, R23: what an exclusive or spare window of the lane carries: what was latched for it; in an application restart the
keeper's own, the health block on port C and nothing elsewhere. -/
def State.ownContent (s : State) (p : Nat) (r : SchedRow) : List Byte :=
  if s.ld.restarting then
    let word := s.header p 0x10 0 ++ s.healthBlock
    if p = 2 ∧ r.owner ≠ 0x7F ∧ word.length ≤ r.length then word else []
  else Sparse.get (fun _ => []) (s.port p).latched r.window
/-- R410: where the window of a row lies in the beat of an instant. -/
def State.windowAt (s : State) (r : SchedRow) (now : Nat) : Nat := now / s.beatCounts * s.beatCounts + r.start
/-- WINDOW_TRANSMIT (R414, R420, R436): at a window's start, at a global time, its owner sends what was latched or a null
frame; in an arbitrating window a waiting frame contends. Window 0 of A, B and D is the reference frame's. -/
def runWindowTransmit (p : Fin 4) (w : Fin 24) (now : Nat) (s : State) : Res :=
  match s.window p w (now / s.beatCounts) with
  | none => .next s
  | some (r, idx) =>
    if !s.maySend ∨ !s.windowOpen p r idx then .next s
    else if r.type = 2 then
      .next ((s.portMod p fun x => { x with openAt := some (s.windowAt r now) }).startFrame p r now (now + s.extent p r))
    else if s.ownsWindow p r idx then
      let m := s.ownContent p r
      let s := s.latch p r.window []
      .next (if m.isEmpty then s.sendNull p r else s.sendFrame p false 8 m)
    else .next s
/-- R434: a claim of this lane has gone out. -/
def State.claimSent (s : State) (p : Nat) (payload : List Byte) : State :=
  s.each 4 fun s n =>
    let c := vget s.ra.claims n
    s.when (s.claimFor p n && c.idx == some (leNat ((payload.drop 4).take 1))) (·.claimMod n fun c => { c with sent := true, waits := false, ports := c.ports ||| 2 ^ p })
/-- R434: the claims a port has accepted in this beat: others', and its own, which the lane judges where it is master. -/
def State.claimHeard (s : State) (p sender : Nat) (body : List Byte) : State :=
  s.portMod p fun x => { x with claims := x.claims ++ [(leNat (body.take 1), sender, leNat ((body.drop 2).take 4))] }
/-- FRAME_TRANSMITTED (R86, R420): a frame in a window of a port ends at a global time, this lane's or another's; the next
frame of an arbitrating window is started, or retried, where its budget fits before E; an entry to DOZE that began in the
window leaves it open to its end. -/
def runFrameTransmitted (p : Fin 4) (w : Fin 24) (own : Bool) (now : Nat) (s : State) : Res :=
  match s.window p w (now / s.beatCounts) with
  | none => .next s
  | some (r, idx) =>
    if r.type ≠ 2 then .next s
    else
      let s := if own then
          match (s.port p).onBus with
          | some q => (s.portMod p fun x => { x with queue := x.queue.erase q, ready := x.ready.erase q, onBus := none }).when (q.1 == 1) fun s =>
            (s.claimSent p q.2).claimHeard p (s.portAddr p) (q.2.drop 4)
          | none => s
        else s
      let at' := s.windowAt r now
      let may : Bool := s.sends && (s.pw.entry != 1 || (s.port p).openAt == some at')
      if !may ∨ !s.windowOpen p r idx then .next s else .next (s.startFrame p r now (at' + s.extent p r))

/-! ### Ports up and down (R409). -/

/-- R409: the port is up once all its conditions hold. [log 101 DEDUCED] -/
def State.portJudge (s : State) (p : Nat) : State :=
  let x := s.port p
  let up := !s.bit (Obj.PORT_STATUS p) 3 && !s.bit (Obj.PORT_STATUS p) 0 &&
    decide (x.sinceRx < s.nat (Obj.PORT_DOWN_REELS p) * s.nat Obj.BEATS_PER_REEL) && (p == 2 || decide (x.sinceRef < s.nat Obj.SYNC_TIMEOUT))
  s.when up (·.putBit (Obj.PORT_STATUS p) 4 true)
/-- R409, R421: a frame is accepted at a port. [log 101 DEDUCED] -/
def State.portAccept (s : State) (p : Nat) : State :=
  let s := (s.count (Obj.PORT_RX_FRAMES p) 32).putBit (Obj.PORT_STATUS p) 0 false
  let s := { s with pw.ports := s.pw.ports ||| 2 ^ p }.holdoffCancel
  (s.portMod p fun x => { x with sinceRx := 0, cold := 0 }).portJudge p
/-- PORT_DOWN (R409, R437): a port ceases to be up: 1 bus-off, 2 transceiver fault, 3 no frame, 4 no reference frame, with
the reels or beats elapsed. -/
def runPortDown (p : Fin 4) (qual : Fin 5) (elapsed : Nat) (s : State) : Res :=
  let up := s.portUp p
  let s := s.when (qual.val == 1) (·.putBit (Obj.PORT_STATUS p) 3 true)
  let s := s.when (qual.val == 2) (·.putBit (Obj.PORT_STATUS p) 0 true)
  let s := s.when (qual.val == 4) (·.putBit (Obj.PORT_STATUS p) 2 false)
  let s := s.putBit (Obj.PORT_STATUS p) 4 false
  .next (s.when (up && qual.val != 0) (·.raise (Src.port p) Kind.RALUNE_PORT_DOWN qual.val (some (elapsed : Int))))
/-- BUS_OFF_RECOVERY (R409): recovery under ISO 11898-1 completes. -/
def runBusOffRecovery (p : Fin 4) (s : State) : Res := .next ((s.putBit (Obj.PORT_STATUS p) 3 false).portJudge p)

/-! ### Reception (R421). -/

/-- R419, R421: the payload type suits the window and the class. -/
def typeSuits (p : Nat) (r : SchedRow) (cls type : Nat) (isNull : Bool) : Bool :=
  if r.type = 1 ∧ p = 2 then isNull || (if r.owner = 0x7F then type == 0x12 else type == 0x10 || type == 0x11)
  else if r.type = 1 ∨ r.type = 3 then isNull || type == 0x02
  else if p = 2 then cls == 3 && type == 0x14
  else (cls == 1 && type == 0x04) || (cls == 2 && type == 0x02) || (cls == 3 && type == 0x05) || (cls == 4 && type == 0x03)
/-- R421: the sender and the class are those of the window. -/
def State.senderSuits (s : State) (p : Nat) (r : SchedRow) (idx cls sender : Nat) : Bool :=
  if r.type = 1 then cls == 8 && (if r.owner = 0x7F then p == 2 && decide (1 ≤ sender ∧ sender ≤ (if s.threeLane then 3 else 2)) else r.owner == sender)
  else if r.type = 3 then cls == 8 && s.spareHolder p idx == some sender
  else r.type == 2 && r.owner.testBit (rightsBit cls)
/-- R421: a start falls in a window of a beat. -/
def State.startSuits (s : State) (p : Nat) (r : SchedRow) (start b : Nat) : Bool :=
  let at' := b * s.beatCounts + r.start
  r.present (s.inReel b) && decide (at' ≤ start + 200) && decide (start ≤ at' + (if r.type = 2 then s.extent p r else 200))
/-- R415, R417, R419: what a port without a schedule, which has neither windows nor owners, takes: every class with a payload
type that suits it. [log 254 DEDUCED] -/
def listenSuits (p cls type : Nat) (isNull : Bool) : Option SchedRow :=
  let row : SchedRow := { window := 0, type := 2, fd := false, rep := 0, base := 0, owner := 15, length := 2048, start := 0 }
  if (cls = 8 ∧ (isNull ∨ type = 0x02)) ∨ typeSuits p row cls type isNull then some row else none
/-- R407, R421: the row under which a frame is accepted. [log 254 DEDUCED] -/
def State.acceptRow (s : State) (p : Nat) (f : RxFrame) : Option SchedRow :=
  let type := leNat (f.payload.take 1)
  let isNull := (leNat ((f.payload.drop 1).take 1)).testBit 0
  let sender := leNat ((f.payload.drop 2).take 1)
  let net := leNat ((f.payload.drop 3).take 1)
  let cls := f.id.toNat / 128
  let b := (f.start + 200) / s.beatCounts
  if !s.clk.joined ∨ f.foreign ∨ f.payload.length < 4 ∨ net ≠ s.portNet p then none
  else if p ≠ 2 ∧ (s.sched p).isEmpty then listenSuits p cls type isNull
  else
    ((s.sched p).find? fun x => (!f.fd || x.1.type == 2) && (s.startSuits p x.1 f.start b || (b != 0 && s.startSuits p x.1 f.start (b - 1))) &&
      s.senderSuits p x.1 x.2 cls sender && typeSuits p x.1 cls type isNull && decide (f.payload.length ≤ x.1.length)).map (·.1)
/-- R385, R429: another node's start of frame on a port ends a cold start's delay and the silence that the chaperone measures.
-/
def State.frameStart (s : State) (p : Nat) : State :=
  { s.when ((s.port p).cold == 1) (·.portMod p fun x => { x with cold := 0 }) with
    ch.silent := if s.ch.silent.testBit p then s.ch.silent - 2 ^ p else s.ch.silent }
/-- RALUNE_FRAME_RECEIVED (R407, R421, R430, R434, R451): a frame ends at a global time; an accepted claim or Azsin payload
is acted on here, every other type by its own command. [log 103 DEDUCED] -/
def runRaluneFrameReceived (p : Fin 4) (f : RxFrame) (now : Nat) (s : State) : Res :=
  let s := s.frameStart p
  if p.val = 3 ∧ s.nat (Obj.PORT_ROLE 3) = 0 then .next s
  else if !f.fd ∧ !f.foreign ∧ (f.sec ∨ f.sdt.toNat ≠ s.nat (Obj.PORT_SDT p)) then .next s
  else
    match s.acceptRow p f with
    | none => .next (s.count (Obj.PORT_RX_REJECTS p) 32)
    | some _ =>
      let type := leNat (f.payload.take 1)
      let isNull := (leNat ((f.payload.drop 1).take 1)).testBit 0
      let sender := leNat ((f.payload.drop 2).take 1)
      let body := f.payload.drop 4
      let s := s.portAccept p
      let s := s.when (sender == s.portAddr p) (·.raise (Src.port p) Kind.RALUNE_DUP_ID 2 (some (s.portAddr p : Int)))
      if isNull then .next s
      else if type = 0x04 then
        .next (s.claimHeard p sender body)
      else if type = 0x02 then .next (s.azReceive p now body)
      else .next s

/-! ### Reference frames and time (R422–R426, R431). -/

/-- R428: the lane is a candidate on a port. -/
def State.candidate (s : State) (p : Nat) : Bool :=
  s.masterEn && s.bit Obj.MASTER_PORTS p && p != 2 && field (s.nat Obj.MASTER_STATE) (2 * p + 1) (2 * p) != 3 &&
    (p != 3 || s.nat (Obj.PORT_ROLE 3) != 0)
/-- R438: the two bits of a port in MASTER_STATE. -/
def State.masterState (s : State) (p : Nat) : Nat := field (s.nat Obj.MASTER_STATE) (2 * p + 1) (2 * p)
/-- R438: the two bits of a port in MASTER_STATE, set. -/
def State.putMaster (s : State) (p v : Nat) : State :=
  s.putN Obj.MASTER_STATE (s.nat Obj.MASTER_STATE - s.masterState p * 4 ^ p + v * 4 ^ p : Nat)
/-- R424, R431, R439: the ports whose time an active master takes; none: its own time. -/
def State.uplinks (s : State) : List Nat :=
  if (s.masterState 0 = 2 ∨ s.masterState 1 = 2) ∧ s.nat (Obj.PORT_UPLINK 0) = 3 then [3]
  else if s.masterState 3 = 2 ∧ s.nat (Obj.PORT_UPLINK 3) = 0 then [0, 1] else []
/-- R424, R438: TIME_SOURCE of an active master: its uplink where that gives the time, else its own time. -/
def State.timeOwn (s : State) : State :=
  let t := s.nat Obj.TIME_SOURCE
  s.putN Obj.TIME_SOURCE (if t = 3 ∧ s.uplinks ≠ [] ∨ ((t = 1 ∨ t = 2) ∧ s.uplinks.contains 0) then 3 else 4)
/-- R424, R428: the lane has seen no other master on A or B, so that a candidate may take time from its uplink D. -/
def State.abSilent (s : State) : Bool := decide (s.nat Obj.SYNC_TIMEOUT ≤ (s.port 0).sinceRef ∧ s.nat Obj.SYNC_TIMEOUT ≤ (s.port 1).sinceRef)
/-- R424: does a port's reference frame give this lane its time? [log 99 DEDUCED] -/
def State.givesTime (s : State) (p : Nat) : Bool :=
  if s.masterState 0 = 2 ∨ s.masterState 1 = 2 then p == 3 && s.uplinks.contains 3
  else if p = 3 then s.nat (Obj.PORT_UPLINK 0) == 3 && (s.candidate 0 || s.candidate 1) && s.abSilent
  else p ≤ 1 && (s.masterState 3 != 2 || s.nat (Obj.PORT_UPLINK 3) == 0)

/-- R423: the length of a beat in ns. -/
def State.beatNs (s : State) : Nat := s.nat Obj.BEAT_LENGTH * 1000
/-- R425, R227, R103: the lane joins global time: the tick in progress ends at the first boundary at least one nominal tick
after the instant. -/
def State.timeJoin (s : State) (inst : Nat) : State :=
  let b := s.beatCounts
  let ticks := s.nat Obj.TICKS_PER_BEAT
  let edge := (inst * ticks + b + b * ticks - 1) / (b * ticks) * b
  let s := { s with clk.joined := true, clk.lens := [], clk.tickLen := if s.clk.running then 2 * (edge - s.clk.now) else s.clk.tickLen }
  let s := s.when (s.nat Obj.START_STEP == 8) (·.stepReached 9)
  s.each 4 fun s p => s.when (p != 2 && (s.port p).ref.isSome) fun s =>
    (s.putBit (Obj.PORT_STATUS p) 2 true).portMod p fun x => { x with announce := true }
/-- A stored time shifted by a step. [log 106 DEDUCED] -/
def shiftTime (t : Nat) (d : Int) : Nat := ((t : Int) + d).toNat
/-- R205, R207, R383: the stamps ages are formed from, on the lane's count of time, keep their age when that count is set. -/
def State.shiftStamps (s : State) (d : Int) : State :=
  { s with
    st.began := s.st.began + d
    fb := s.fb.map fun (f : Fb) => { f with lastA := f.lastA.map (shiftTime · d), lastB := f.lastB.map (shiftTime · d) }
    sn := s.sn.map fun (c : Sent) => { c with ready := c.ready.map fun v => { v with stamp := shiftTime v.stamp d } }
    hall := s.hall.map fun (h : Hall) => { h with edge := h.edge.map fun e => (e.1, shiftTime e.2 d) } }
/-- R424, R425: global time is set from a reference frame of a port, o in ns. -/
def State.timeSet (s : State) (p prio : Nat) (o : Int) : State :=
  let s := s.shiftStamps (-(o / 10))
  { (s.putN Obj.TIME_OFFSET o).putN Obj.TIME_RATE 0 with
    clk.now := shiftTime s.clk.now (-(o / 10)), ra.timed := true, ra.used := some (p, prio), ra.ri := 0, ra.riBefore := 0
    ra.within := 0, ra.withinBefore := 0 }
/-- Global time is lost; the triggering fault, where there is one, goes into the detail of a give-up. -/
def State.timeLost (s : State) (src kind : Nat) : State :=
  let s := s.giveUp 4 src kind true
  let s := { s with clk.joined := false, ra.timed := false, ra.inhibit := false, ra.step := none, ra.within := 0 }
  let s := ((s.putN Obj.TIME_SOURCE 0).putN Obj.STEP_STATE 0).putN Obj.STEP_OFFSET 0
  (s.each 4 fun s p => (s.putBit (Obj.PORT_STATUS p) 2 false).putBit (Obj.PORT_STATUS p) 1 false).permit none
/-- R426, R437: PORT_STATUS shows the inhibition. -/
def State.inhibitShow (s : State) : State := s.each 4 fun s p => s.putBit (Obj.PORT_STATUS p) 1 s.inhibited
/-- R426: the inhibition judged after a correction with offset o in ns and rate r. -/
def State.inhibitJudge (s : State) (p : Nat) (o : Int) (r : Rat) : State :=
  let ppb := Config.fix (r * 1000000000)
  if 3000 < o.natAbs then
    s.when (!s.ra.inhibit) fun s => { s with ra.inhibit := true }.raise (Src.port p) Kind.RALUNE_TX_INHIBIT 1 (some o)
  else if r < -1 / 2000 ∨ 1 / 2000 < r then
    { s with ra.within := 0 }.when (!s.ra.inhibit) fun s => { s with ra.inhibit := true }.raise (Src.port p) Kind.RALUNE_TX_INHIBIT 2 (some ppb)
  else if 2 ≤ s.ra.within then { s with ra.inhibit := false }
  else s
/-- R423–R426: a reference frame of port `p` with offset o in ns steers the lane's time. -/
def State.timeCorrect (s : State) (p prio : Nat) (o : Int) (inst : Nat) : State :=
  let s := s.putN Obj.TIME_SOURCE (if p = 3 ∨ s.uplinks.contains p then 3 else p + 1)
  if !s.ra.timed then s.timeSet p prio o
  else if 50000 < o.natAbs then (s.when s.clk.joined (·.timeLost 0 0)).timeSet p prio o
  else
    let ri := s.ra.riBefore - (o : Rat) / (8 * s.beatNs)
    let r := ri - (o : Rat) / (2 * s.beatNs)
    let within : Nat := if o.natAbs < 1000 then s.ra.withinBefore + 1 else 0
    let s := { (s.putN Obj.TIME_OFFSET o).putN Obj.TIME_RATE (Config.fix (r * 1000000000)) with
               ra.ri := ri, ra.within := within, ra.used := some (p, prio) }
    if s.clk.joined then (s.inhibitJudge p o r).inhibitShow
    else if 2 ≤ within then s.timeJoin inst else s

/-- R431: a master on time of its own gains an uplink in beat `b`: it follows, announces a step, or defers it. The first
announcement is the reference frame of the next beat, and the step reel the fourth after its reel. -/
def State.uplinkGain (s : State) (p : Nat) (o : Int) (b : Nat) : State :=
  let d := -o / 10
  let reel := b / s.nat Obj.BEATS_PER_REEL
  let port := if p = 3 then 0 else 3
  if d.natAbs ≤ 300 then { s.putN Obj.TIME_SOURCE 3 with ra.timed := true }
  else if s.ra.step.isSome ∨ s.ra.deferred = some reel then s
  else if s.n Obj.VEH_SPEED = 0 then
    { (s.putN Obj.STEP_STATE 1).putN Obj.STEP_OFFSET d with ra.step := some (((b + 1) / s.nat Obj.BEATS_PER_REEL + 4) % 2 ^ 32, d) }
  else
    let s := { s.putN Obj.STEP_STATE 2 with ra.deferred := some reel }
    s.raise (Src.port port) Kind.RALUNE_SYNC_LOST 2 (some d)

/-- R434, R435: the claimant acts on the confirmations of a reference frame; after CLAIM_TRIES claims it fails once and then
claims once per reel. -/
def State.claimSee (s : State) (p n : Nat) : State :=
  let st := s.claimState n
  let c := vget s.ra.claims n
  let own := some (s.portAddr p)
  if !s.claimFor p n ∨ (p = 1 ∧ s.portUp 0) then s
  else if st.testBit 7 then
    if s.spareHolder p (st % 32) = own then s
    else ((s.claimMod n fun _ => {}).claimByte n 64).raise (Src.port p) Kind.RALUNE_CLAIM_FAIL 3 (some (n * 256 + st % 32 : Nat))
  else
    match c.idx, c.sent with
    | some idx, true =>
      if s.spareHolder p idx = own then (s.claimMod n fun _ => {}).claimByte n (128 + idx)
      else if c.failed ∨ s.nat Obj.CLAIM_TRIES ≤ c.tries + 1 then
        let s := (s.claimMod n fun _ => { tried := true, failed := true }).claimByte n (32 + idx)
        s.when (!c.failed) (·.raise (Src.port p) Kind.RALUNE_CLAIM_FAIL 2 (some (n * 256 + idx : Nat)))
      else s.claimMod n fun c => { tries := c.tries + 1, tried := c.tried, idx := if (s.spareHolder p idx).isSome then none else some idx }
    | _, _ => s

/-- R426: the signature of a reference frame against the port's own schedule. [log 97 DEDUCED] -/
def State.sigCheck (s : State) (p sig : Nat) : State :=
  let bad := sig != s.schedSig p
  let was := (s.port p).sigBad
  let s := s.portMod p fun x => { x with sigBad := bad }
  (s.when (bad && !was && s.clk.joined) (·.raise (Src.port p) Kind.RALUNE_TX_INHIBIT 3 (some (sig : Int)))).inhibitShow
/-- R422, R431: a step announced by the master whose time the lane takes. [log 105 DEDUCED] -/
def State.stepHear (s : State) (step : Option (Nat × Int)) : State :=
  match step with
  | some (reel, d) => { (s.putN Obj.STEP_STATE 1).putN Obj.STEP_OFFSET d with ra.step := some (reel, d) }
  | none => s
/-- R421: a reference frame names the port's network and a node's address, lies in window 0 by the lane's own time, and its
length is within the row's. [log 96, 227 DEDUCED] -/
def State.refSuits (s : State) (p : Nat) (f : RefFrame) : Bool :=
  let off := f.stamp % s.beatNs
  f.net.toNat == s.portNet p && decide (1 ≤ f.sender ∧ f.sender ≤ 126) && (p != 2 && (p != 3 || s.nat (Obj.PORT_ROLE 3) != 0)) && (!s.clk.joined || decide (min off (s.beatNs - off) ≤ 2000)) &&
    ((s.sched p).isEmpty || (s.sched p).any fun x => x.1.window == 0 && (!s.clk.joined || x.1.present (s.inReel ((f.stamp + 2000) / s.beatNs))) &&
      decide (36 + 2 * f.confirms.length ≤ x.1.length))
/-- REFERENCE_FRAME (R421–R426, R428, R431, R434): a reference frame is stamped. [log 98 DEDUCED] -/
def runReferenceFrame (p : Fin 4) (f : RefFrame) (s : State) : Res :=
  let s := if f.own then s else s.frameStart p
  if !s.refSuits p f then .next (s.count (Obj.PORT_RX_REJECTS p) 32)
  else
    let o : Int := (f.stamp : Int) - s.nat (Obj.PORT_PROP_NS p) - f.time * 10
    let s := s.portMod p fun x => { x with ref := some (f.prio, f.own), sinceRef := 0, confirms := f.confirms, collisions := 0 }
    let s := s.portAccept p
    let s := s.when (s.clk.joined && !s.bit (Obj.PORT_STATUS p) 2) fun s =>
      (s.putBit (Obj.PORT_STATUS p) 2 true).portMod p fun x => { x with announce := true }
    let s := s.when (p.val == 0) (·.put Obj.CONFIRM_AB (.oct (f.confirms.flatMap (le 2))))
    let s := s.when (p.val == 3) (·.put Obj.CONFIRM_D (.oct (f.confirms.flatMap (le 2))))
    if f.own then .next ((s.putMaster p 2).timeOwn.each 4 fun s n => s.claimSee p n)
    else
      let s := s.when (f.sender == s.portAddr p) (·.raise (Src.port p) Kind.RALUNE_DUP_ID 2 (some (s.portAddr p : Int)))
      let s := s.when (s.candidate p) (·.putMaster p 1)
      let s := (s.sigCheck p f.signature).each 4 fun s n => s.claimSee p n
      let better := match s.ra.used with
        | none => true
        | some (q, pr) => decide (f.prio < pr ∨ (f.prio = pr ∧ p.val < q))
      if s.clk.joined ∧ s.nat Obj.TIME_SOURCE = 4 ∧ s.uplinks.contains p.val then .next (s.uplinkGain p o (s.clk.now / s.beatCounts))
      else if s.givesTime p && better then .next ((s.timeCorrect p f.prio o f.time).stepHear f.step)
      else .next s
/-- SYNC_TIMEOUT (R33, R425): no reference frame on A or B for SYNC_TIMEOUT beats. [log 104 DEDUCED] -/
def runSyncTimeout (s : State) : Res :=
  if s.clk.joined && s.abSilent then
    let n := min (s.port 0).sinceRef (s.port 1).sinceRef
    .next ((s.raise (Src.port 0) Kind.RALUNE_SYNC_LOST 1 (some (n : Int))).timeLost (Src.port 0) Kind.RALUNE_SYNC_LOST)
  else .next s

/-! ### Masters (R428–R431). -/

/-- COLD_START_SILENCE (R385, R429): no start of frame for 2 reels on a port: the chaperone of a lane with MASTER_EN has
measured the same silence; a candidate's cold start begins while no port has global time. [log 255 DEDUCED] -/
def runColdStartSilence (p : Fin 4) (s : State) : Res :=
  let s := if s.masterEn then { s with ch.silent := s.ch.silent ||| 2 ^ p.val } else s
  if s.candidate p && !s.clk.joined && !s.ra.timed then .next (s.portMod p fun x => { x with cold := 1 }) else .next s
/-- COLD_START_DELAY (R429): the delay is over; the first reference frame goes at the next beat boundary. -/
def runColdStartDelay (p : Fin 4) (s : State) : Res :=
  if (s.port p).cold = 1 then .next (s.portMod p fun x => { x with cold := 2 }) else .next s
/-- REFERENCE_COLLISION (R430): two references of equal priority end in error. [log 108 DEDUCED] -/
def runReferenceCollision (p : Fin 4) (now : Nat) (s : State) : Res :=
  if !s.candidate p then .next s
  else
    let k := (s.port p).collisions + 1
    let s := s.portMod p fun x => { x with collisions := k, backoff := now + inMs s.nodeAddr }
    if k = 3 then .next ((s.putMaster p 3).raise (Src.port p) Kind.RALUNE_DUP_ID 1 (some (s.portAddr p : Int))) else .next s
/-- R422: the content of the lane's reference frame on a port in beat `b`. -/
def State.refPayload (s : State) (p b : Nat) : List Byte :=
  let step := s.ra.step.getD (0, 0)
  let source := s.nat Obj.TIME_SOURCE
  let flags := b2n (source == 3) * 64 + b2n s.ra.step.isSome * 32 + b2n (source == 4) * 16 + s.nat Obj.MASTER_PRIORITY % 4
  s.header p 0x01 0 ++ le 8 (b * s.beatCounts) ++ le 4 (b / s.nat Obj.BEATS_PER_REEL) ++ le 1 (s.inReel b) ++ le 1 flags ++ zeros 2 ++
    le 4 (s.schedSig p) ++ leInt 8 step.2 ++ le 4 step.1 ++ (List.range (s.spareCount p)).flatMap fun k => le 2 ((s.port p).confirms.getD k 0)
/-- R385, R428: a joined candidate sends its reference frame in beat `b`, where the guardian lets it. [log 107, 255 DEDUCED] -/
def State.refSend (s : State) (p b : Nat) : State :=
  let turn := match (s.port p).before with
    | none => true
    | some (prio, own) => own || decide (s.nat Obj.MASTER_PRIORITY < prio)
  if s.candidate p && s.maySend && (s.guardOpen p || s.ch.silent.testBit p) && turn && decide ((s.port p).backoff ≤ s.clk.now) && !(s.sched p).isEmpty && s.chapState == 2 && !s.col.failSilent then
    s.emit (.frame p { fd := false, sdt := s.nat (Obj.PORT_SDT p) } (s.nat Obj.MASTER_PRIORITY) (s.refPayload p b))
  else s
/-- R434: the master judges a claim. [log 102 DEDUCED] -/
def State.claimJudge (s : State) (p : Nat) (c : Nat × Nat × Nat) : State :=
  let (idx, addr, sig) := c
  let spares := s.spareCount p
  if idx < spares ∧ sig = s.schedSig p ∧ (s.spareHolder p idx = none ∨ s.spareHolder p idx = some addr) then
    s.portMod p fun x => { x with confirms := ((x.confirms ++ List.replicate (spares - x.confirms.length) 0).set idx (0x8000 + addr % 128)) }
  else s
/-- R428, R434: what a beat boundary does at a port: the active master confirms, the ended beat's reference becomes the
previous beat's, and MASTER_STATE follows it. [log 107 DEDUCED] -/
def State.portBeat (s : State) (p : Nat) : State :=
  let x := s.port p
  let active := match x.ref with
    | some (_, own) => own
    | none => false
  let s : State := if active then x.claims.foldl (fun s c => s.claimJudge p c) s else s
  let s := s.portMod p fun x => { x with claims := [], before := x.ref, ref := none, sinceRef := min 255 (x.sinceRef + 1), sinceRx := min 2047 (x.sinceRx + 1) }
  if p = 2 ∨ s.masterState p = 3 then s
  else s.putMaster p (if !s.candidate p then 0 else if active then 2 else 1)
/-- R437: at a reel's opening the null frames of the reel before are reported, and failed claims may try again. -/
def State.reelBegin (s : State) : State :=
  let s := s.each 4 fun s p =>
    let n := (s.port p).nulls
    (s.when (n != 0) (·.raise (Src.port p) Kind.RALUNE_NULL 1 (some (n : Int)))).portMod p fun x => { x with nulls := 0 }
  { s with ra.claims := s.ra.claims.map fun (c : RaClaim) => { c with tried := false }, ch.guardRaised := 0 }
/-- R429: a cold start ends at the boundary that opens beat `b` of the lane's own time, whose count the lane's time then is.
[log 100 DEDUCED] -/
def State.coldJoin (s : State) (b : Nat) : State :=
  if !s.clk.joined ∧ !s.ra.timed ∧ (List.range 4).any (fun p => (s.port p).cold = 2) then
    let d : Int := (b * s.beatCounts : Nat) - (s.clk.now : Int)
    let s := { (s.shiftStamps d).putN Obj.TIME_SOURCE 4 with ra.timed := true, clk.now := b * s.beatCounts }
    (s.timeJoin s.clk.now).each 4 fun s p => s.portMod p fun x => { x with cold := 0 }
  else s
/-- R434, R436: a claim that has waited through a beat without a reference frame has not been judged and is sent again. -/
def RaClaim.beat (c : RaClaim) : RaClaim :=
  if c.sent && c.waits then { c with sent := false, waits := false, ports := 0 } else { c with waits := c.sent }
/-- R410–R437 at the boundary that opens beat `b`, up to the reference frames. [log 105 DEDUCED] -/
def State.raluneBeat (s : State) (b : Nat) : State :=
  let s := s.each 4 fun s p => s.portBeat p
  let s := { s with ra.within := if s.ra.used.isSome ∨ s.nat Obj.TIME_SOURCE = 4 then s.ra.within else 0 }
  let s := { s with ra.riBefore := s.ra.ri, ra.withinBefore := s.ra.within, ra.used := none }
  let s := { s.coldJoin b with ra.claims := s.ra.claims.map RaClaim.beat }
  let s := s.when (s.inReel b == 0) (·.reelBegin)
  [0, 1, 3].foldl (fun s p => s.refSend p b) s

/-- An entry that stores a global time, shifted by a step. -/
def State.shiftEntry (s : State) (key : Nat) (d : Int) : State := s.putN key (shiftTime (s.nat key) d)
/-- R378, R400, R431: leases and the other stored global times are shifted by d, with the chaperone's own time and the entry
its ramp counts from; so is the start time of a generator whose GO waits for it. [log 106 DEDUCED] -/
def State.shiftTimes (s : State) (d : Int) : State :=
  let s := (s.shiftEntry Obj.CARD_EXPIRY d).shiftEntry Obj.LINE_TEST_TIME d
  let s := s.each 12 fun s m => s.when ((s.gen m).pending && s.nat (Obj.MX_START_TIME m) != 0) (·.shiftEntry (Obj.MX_START_TIME m) d)
  let s := s.shiftStamps d
  { s with
    clk.now := shiftTime s.clk.now d
    ch.lease := s.ch.lease.map fun t => shiftTime t d
    ch.time := shiftTime s.ch.time (d * 4 / 25), ch.waltz.entry := shiftTime s.ch.waltz.entry d
    ld.fall := shiftTime s.ld.fall d
    ld.cutIn := s.ld.cutIn.map fun x => (shiftTime x.1 d, x.2) }
/-- TIME_STEP_APPLY (R431, R227, R462): at the step reel's opening boundary the announced step is applied, as a join. -/
def runTimeStepApply (s : State) : Res :=
  match s.ra.step with
  | none => .next s
  | some (_, d) =>
    let s := ((s.shiftTimes d).putN Obj.STEP_STATE 0).putN Obj.STEP_OFFSET 0
    let s := { s with ra.step := none, ra.deferred := none, ra.within := 0, ra.withinBefore := 0
                      ra.ports := s.ra.ports.map fun (x : RaPort) => { x with backoff := shiftTime x.backoff d }
                      az.step := some (s.clk.now, d / 100) }
    .next (if s.clk.joined then s.timeJoin s.clk.now else s)
/-- SPARE_SILENCE (R435): no frame from the claimant in its spare for 3 reels: the active master clears the confirmation. -/
def runSpareSilence (p : Fin 4) (idx : Fin 32) (s : State) : Res :=
  if s.masterState p = 2 then .next (s.portMod p fun x => { x with confirms := x.confirms.set idx 0 }) else .next s

/-! ### Network announcements (R457, R458). -/

/-- R458: the node list of a port. -/
def nodesKey (p : Nat) : Nat := if p = 0 then Obj.NODES_A else if p = 1 then Obj.NODES_B else Obj.NODES_D
/-- NETWORK_ANNOUNCEMENT (R458): an announcement of a port-local address with its 24 content bytes enters the node list. -/
def runNetworkAnnouncement (p : Fin 4) (addr : BitVec 7) (content : BitVec 192) (now : Nat) (s : State) : Res :=
  if p.val = 2 ∨ (p.val = 3 ∧ s.nat (Obj.PORT_ROLE 3) = 0) then .next s
  else
    let a := addr.toNat
    let row := le 1 a ++ zeros 3 ++ le 24 content.toNat ++ le 4 (now / 100)
    let rows := rowsOf 32 (s.oct (nodesKey p))
    let is (r : List Byte) : Bool := leNat (r.take 1) == a
    let s := if rows.any is then s.put (nodesKey p) (.oct (rows.map fun r => if is r then row else r).flatten)
      else if rows.length < 126 then s.put (nodesKey p) (.oct (rows.flatten ++ row)) else s
    if a = s.portAddr p ∧ content.toNat / 2 ^ 128 ≠ Config.serial.toNat then
      .next (s.raise (Src.port p) Kind.RALUNE_DUP_ID 2 (some (a : Int)))
    else .next s
/-- ANNOUNCE_REPEAT_TIMER (R458): ANNOUNCE_REPEAT reels after the last announcement, the next is due. -/
def runAnnounceRepeatTimer (s : State) : Res :=
  if s.nat Obj.ANNOUNCE_REPEAT = 0 ∨ !s.clk.joined then .next s
  else .next ([0, 1, 3].foldl (fun s p => s.portMod p fun x => { x with announce := true }) s)

/-- R378: a reference frame on A or B corrects the phase of the chaperone's time, in 62.5 ns; its ramp goes on from where it
is. -/
def State.chapPhase (s : State) (time : Nat) : State :=
  let now := time * 4 / 25
  let d : Int := ((now : Int) - s.ch.time) * 25 / 4
  let s := (s.putBit Obj.CHAP_TIME 0 true).putBit Obj.CHAP_TIME 1 false
  { s with ch.time := now, ch.waltz.entry := shiftTime s.ch.waltz.entry d }
/-- R385: the spares that a reference frame confirms for an address, one bit each. -/
def sparesOf (confirms : List Nat) (addr : Nat) : Nat :=
  (confirms.zipIdx.filter fun c => c.1.testBit 15 && c.1 % 128 == addr).foldl (fun m c => m ||| 2 ^ c.2) 0
/-- CHAP_REFERENCE_OBSERVED (R378, R385, R435): the chaperone observes a reference frame on a port: its time on A and B, and
the spares confirmed for this node; port C, whose schedule runs on the time of A and B (R40), is synchronised with them. [log
109, 228 DEDUCED] -/
def runChapReferenceObserved (r : RefSeen) (s : State) : Res :=
  let p := r.port
  if p.val = 2 then .next s
  else
    let s := (s.chapClock r.chap).when (p.val ≤ 1) (·.chapPhase r.time)
    let s := { s with ch.spares := vset s.ch.spares p (sparesOf r.confirms (s.portAddr p)) }
    .next (s.putN Obj.GUARD_STATUS (if p.val ≤ 1 then s.nat Obj.GUARD_STATUS / 16 * 16 ||| 2 ^ (4 + p.val) ||| 64 else s.nat Obj.GUARD_STATUS % 8 + s.nat Obj.GUARD_STATUS / 16 * 16 ||| 128 : Nat))

end Sys2Proof.Machine
end

