-- ==== Sys2Proof/Machine/Recorder.lean ====
section
/-!
DEFINITION. Machine/Recorder.lean: the event recorder (R498–R505): its ring, its triggers, the commit of an event to a slot,
and downloads.
-/
namespace Sys2Proof.Machine

/-- R484: the source ID of memory m. -/
def memSrc (m : Nat) : Nat := if m ≤ 4 then Src.tcm else if m ≤ 8 then Src.sram else if m = 9 then Src.dram else Src.flash
/-- Change the recorder. -/
def State.recMod (s : State) (f : Recorder → Recorder) : State := { s with rc := f s.rc }

/-! ### The ring (R498). -/

/-- R496: the entries of the retirement list: unit base, memory, cause, spare. [log 112 DEDUCED] -/
def retireRows (b : List Byte) : List (Nat × Nat × Nat × Nat) := (rowsOf 8 b).map fun r =>
  (leNat (r.drop 4), leNat ((r.drop 3).take 1), leNat ((r.drop 2).take 1), leNat ((r.drop 1).take 1))
/-- R497, R498: the rows the ring holds: 32 fewer for each unspared ring page. -/
def State.ringRows (s : State) : Nat :=
  1572864 - 32 * ((retireRows (s.oct Obj.RETIRE_LIST)).filter fun x => x.2.1 == 9 && x.2.2.2 == 0xFF && decide (x.1 < 0x0C000000)).length
/-- R491: the status word of a DMA channel. -/
def State.dmaPut (s : State) (ch addr m state left : Nat) : State :=
  s.put Obj.DMA_STATUS (.oct (patch (s.oct Obj.DMA_STATUS) (8 * ch) (le 4 (m % 16 * 2 ^ 28 + state * 2 ^ 24 + left % 2 ^ 24) ++ le 4 addr)))
/-- The state in a DMA channel's status word. -/
def State.dmaState (s : State) (ch : Nat) : Nat := leNat (((s.oct Obj.DMA_STATUS).drop (8 * ch + 3)).take 1) % 16
/-- The ring records: from the initialisation of trace SRAM on (R112), while its DMA channel has not halted (R491) and PD_DRAM
is up. -/
def State.ringOn (s : State) : Bool :=
  s.on Obj.RECORD_ENABLE && s.bit Obj.INIT_STATUS 7 && s.dmaState 0 != 3 && s.bit Obj.DOMAIN_STATUS 2
/-- R498: the samples the FIFO holds for the recorder leave it. -/
def State.ringTake (s : State) : State :=
  let last := s.lp.fifo.foldl (fun (v : Vector Word 32) x => if x.recorder then vset v x.ch x.value else v) s.rc.last
  { s with rc.last := last
           lp.fifo := (s.lp.fifo.filter (·.live)).map fun (x : TraceSample) => { x with recorder := false } }
/-- R498: the row of the tick that ended, whose opening edge is given. -/
def State.ringRow (s : State) (edge : Nat) : State :=
  let s := s.ringTake
  let gap := s.lp.dropRow
  let s := { s with lp.dropRow := false }
  if s.ringOn then
    let l := s.rc.ring ++ [(edge, gap, s.rc.last.toList)]
    let s := s.recMod fun r => { r with ring := l.drop (l.length - s.ringRows), total := r.total + 1 }
    (s.count Obj.RING_ROWS 32).when gap (·.count Obj.RECORD_GAP_ROWS 32)
  else s

/-! ### Events (R499–R503, R505). -/

/-- R505: the header bytes of an event. -/
def eventHeader (e : Event) (status stored gap crc : Nat) (prot : Bool) : List Byte :=
  let head := le 1 status ++ le 1 (b2n prot) ++ le 1 e.source ++ le 1 e.trigs ++ le 4 e.number ++ le 8 e.trigTime ++ le 8 e.firstTime ++
    le 4 stored ++ le 4 (e.trigRow - e.first) ++ e.setting.take 8 ++ le 4 e.word ++ e.setting.drop 8 ++ le 4 crc ++ le 4 gap
  head ++ le 4 (crc32c head) ++ e.nodes
/-- R505: the setting part of a header: [39:32], then [51:44]. -/
def State.eventSetting (s : State) : List Byte :=
  let mask : Nat := (List.range 32).foldl (fun m c => if (s.nat (Obj.TRACE_DEST c)).testBit 1 then m + 2 ^ c else m) 0
  le 2 (s.nat Obj.BEAT_LENGTH) ++ le 1 (s.nat Obj.TICKS_PER_BEAT) ++ zeros 1 ++ le 4 mask ++ le 4 (s.nat Obj.SIG_ACTIVE) ++ le 4 s.activeVersion
/-- The header of a slot, written. -/
def State.putHeader (s : State) (e : Event) (status crc : Nat) : State :=
  let stored := (vget s.rc.slots e.slot).length
  s.put (Obj.EVENT_HEADER e.slot) (.oct (eventHeader e status stored e.gaps crc (s.bit Obj.RECORD_PROTECT e.slot)))
/-- The status and the event number in a slot's header. -/
def State.slotStatus (s : State) (n : Nat) : Nat := leNat ((s.oct (Obj.EVENT_HEADER n)).take 1)
def State.slotNumber (s : State) (n : Nat) : Nat := leNat (((s.oct (Obj.EVENT_HEADER n)).drop 4).take 4)
/-- R502: the slot a new event takes: the lowest empty one, otherwise that of the oldest event; protected slots skipped. [log
110 DEDUCED] -/
def State.eventSlot (s : State) : Option Nat :=
  let l := (List.range 8).filter fun n => !s.bit Obj.RECORD_PROTECT n
  match l.find? fun n => s.slotStatus n == 0 with
  | some n => some n
  | none =>
    let age (n : Nat) : Nat := (s.rc.next + 2 ^ 32 - s.slotNumber n) % 2 ^ 32
    l.foldl (fun best n => match best with
      | none => some n
      | some b => if age b < age n then some n else some b) none
/-- R499: rows in a time in ms. -/
def State.rowsIn (s : State) (t : Nat) : Nat := t * 1000 * s.nat Obj.TICKS_PER_BEAT / s.nat Obj.BEAT_LENGTH
/-- R499, R505: the event that a trigger in the present tick opens. -/
def State.newEvent (s : State) (source word : Nat) : Event :=
  let row := s.rc.total
  let first := max (row - s.rowsIn (s.nat Obj.RECORD_PRE)) (row - s.rc.ring.length)
  let old := s.rc.ring.length - (row - first)
  let nodes := (List.range 32).flatMap fun c => le 2 (s.nat (Obj.TRACE_NODE c))
  { source := source, word := word, trigTime := s.stamp, first := first, trigRow := row, total := row - first + s.rowsIn (s.nat Obj.RECORD_POST)
    firstTime := match s.rc.ring[old]? with
      | some x => x.1
      | none => s.stamp
    nodes := nodes, setting := s.eventSetting }
/-- R501, step 1 and 2: an event takes its slot, and the commit's votes cancel hold-offs (R78); without a slot it is missed. -/
def State.eventOpen (s : State) (e : Event) : State :=
  match s.eventSlot with
  | none => (s.count Obj.RECORD_MISSED 32).recMod fun r => { r with waiting := none }
  | some n =>
    let e := { e with slot := n, number := s.rc.next }
    let s := s.recMod fun r => { r with event := some e, waiting := none, next := (r.next + 1) % 2 ^ 32, slots := vset r.slots n [], badPage := vset r.badPage n none }
    (s.putHeader e 3 0).holdoffCancel
/-- R499, R506: a trigger adds to an event in its post interval; the first trigger is the one of the lowest source in its
tick. -/
def State.eventAdd (s : State) (e : Event) (source word : Nat) : State :=
  let e := { e with trigs := min 255 (e.trigs + 1) }
  let e := if s.rc.total = e.trigRow ∧ source < e.source then { e with source := source, word := word } else e
  (s.recMod fun r => { r with event := some e }).putHeader e 3 0
/-- R499, R503: an enabled trigger of a source: 0 cut-in, 1 last waltz, 2 fault, 3 dictionary. -/
def State.recTrigger (s : State) (source word : Nat) : State :=
  if !s.bit Obj.RECORD_TRIG_MASK source ∨ !s.ringOn then s
  else if s.ld.restarting then s.recMod fun r => { r with latched := some (r.latched.getD (s.newEvent source word)) }
  else
    match s.rc.event with
    | some e =>
      if s.rc.total < e.first + e.total then s.eventAdd e source word
      else if s.rc.waiting.isNone then (s.recMod fun r => { r with waiting := some (s.newEvent source word) }).holdoffCancel
      else s.count Obj.RECORD_MISSED 32
    | none => if s.rc.waiting.isSome then s.count Obj.RECORD_MISSED 32 else s.eventOpen (s.newEvent source word)
/-- R499: a fault message taken by the collector may trigger; the lowest source it matches counts. -/
def State.recFault (s : State) (m : FaultMsg) : State :=
  let word := m.cls + m.kind * 256 + m.src * 65536
  let listed := (s.oct Obj.RECORD_TRIG_KINDS).any fun b => b.toNat == m.kind
  if s.bit Obj.RECORD_TRIG_MASK 0 ∧ (m.kind = Kind.CUT_IN ∨ m.kind = Kind.LEAD_GIVEN_UP) then s.recTrigger 0 0
  else if s.bit Obj.RECORD_TRIG_MASK 1 ∧ m.kind = Kind.LAST_WALTZ then s.recTrigger 1 0
  else if m.kind ≠ 0 ∧ listed ∧ s.nat Obj.RECORD_TRIG_CLASS ≤ m.cls then s.recTrigger 2 word
  else s

/-- Rows of the ring by their count since it started. [log 112 DEDUCED] -/
def State.ringSlice (s : State) (first n : Nat) : List (Bool × List Word) :=
  ((s.rc.ring.drop (first + s.rc.ring.length - s.rc.total)).take n).map (·.2)
/-- Rows are added to the slot of an event, and the gap rows among them to its count. [log 231 DEDUCED] -/
def State.eventStore (s : State) (e : Event) (n : Nat) : State :=
  let rows := s.ringSlice (e.first + (vget s.rc.slots e.slot).length) n
  s.recMod fun r => { r with event := some { e with gaps := e.gaps + (rows.filter (·.1)).length }
                             slots := vmod r.slots e.slot fun l => l ++ rows.map (·.2) }
/-- R509: RECORD_STATE: 0 idle, 1 committing, 2 committing with one pending, 3 ring stopped. [log 258 DEDUCED] -/
def State.recordState (s : State) : Nat :=
  if s.dmaState 0 = 3 then 3 else if s.rc.waiting.isSome then 2 else if s.rc.event.isSome then 1 else 0
/-- The recorder's event has ended; the next slot is erased in the background. -/
def State.eventEnd (s : State) : State :=
  s.recMod fun r => { r with event := none, trailer := false, erasing := true }
/-- R501: a page of 32 recorded rows of the running event is written. -/
def State.pageWrite (s : State) : State :=
  match s.rc.event with
  | none => s
  | some e =>
    let have' := (vget s.rc.slots e.slot).length
    if have' + 32 ≤ e.total ∧ e.first + have' + 32 ≤ s.rc.total then s.eventStore e 32 else s
/-- RECORD_POST_END (R501): the last row is recorded: the last page is written, and the trailer follows. -/
def runRecordPostEnd (s : State) : Res :=
  match s.rc.event with
  | none => .next s
  | some e =>
    if s.rc.total < e.first + e.total ∨ s.rc.trailer then .next s
    else .next ((s.eventStore e (e.total - (vget s.rc.slots e.slot).length)).recMod fun r => { r with trailer := true })
/-- COMMIT_TRAILER_DONE (R501): the trailer is written with the row CRC. -/
def runCommitTrailerDone (s : State) : Res :=
  match s.rc.event with
  | none => .next s
  | some e =>
    if s.rc.trailer then
      .next (s.putHeader e 1 (crc32c ((vget s.rc.slots e.slot).flatMap fun r => r.flatMap fun w => le 4 w.toNat))).eventEnd
    else .next s
/-- A slot is erased. -/
def State.slotErase (s : State) (n : Nat) : State :=
  (s.recMod fun r => { r with slots := vset r.slots n [], badPage := vset r.badPage n none }).clear (Obj.EVENT_HEADER n)
/-- SLOT_ERASE_DONE (R501): the next slot is erased and a pending event starts. [log 111 DEDUCED] -/
def runSlotEraseDone (s : State) : Res :=
  if s.rc.erasing then
    let s := s.recMod fun r => { r with erasing := false }
    let s := match s.eventSlot with
      | some n => s.when (s.rc.event.isNone) (·.slotErase n)
      | none => s
    match s.rc.waiting, s.rc.event with
    | some e, none => .next (s.eventOpen e)
    | _, _ => .next s
  else .next s
/-- R502: every slot that is neither protected nor being committed is erased. -/
def State.recErase (s : State) : State :=
  s.each 8 fun s n => s.when (!s.bit Obj.RECORD_PROTECT n && (s.rc.event.map (·.slot)) != some n) (·.slotErase n)
/-- R503: a commit that stops leaves its header at status 3. [log 229 DESIGN CHOICE] -/
def State.recStop (s : State) : State :=
  s.recMod fun r => { r with event := none, waiting := none, trailer := false, erasing := false, download := none, cut := false }
/-- R503: the rows of a slot up to the last page that reads without error. [log 259 DEDUCED] -/
def State.rowsGood (s : State) (n : Nat) : Nat :=
  let l := (vget s.rc.slots n).length
  match vget s.rc.badPage n with
  | some p => min l (32 * p)
  | none => l
/-- R503: a header left at status 3 is marked partial with the rows that read. -/
def State.recPartial (s : State) : State :=
  s.each 8 fun s n =>
    let h := s.oct (Obj.EVENT_HEADER n)
    s.when (s.slotStatus n == 3) fun s =>
      let h := patch (patch h 0 (le 1 2)) 24 (le 4 (s.rowsGood n))
      s.put (Obj.EVENT_HEADER n) (.oct (patch h 60 (le 4 (crc32c (h.take 60)))))
/-- R503: at resumption a latched trigger is committed where its first row is still in the ring. -/
def State.recResume (s : State) : State :=
  let s := s.recPartial
  match s.rc.latched with
  | none => s
  | some e =>
    let s := s.recMod fun r => { r with latched := none }
    if s.rc.total ≤ e.first + s.rc.ring.length then s.eventOpen e else s
/-- The ring is lost (R114). -/
def State.ringLost (s : State) : State :=
  { s with rc := { next := s.rc.next, slots := s.rc.slots, badPage := s.rc.badPage } }.putN Obj.RING_ROWS 0

/-- R505: a download of a slot starts. -/
def State.downloadStart (s : State) (n : Nat) : Except AbortCode State :=
  if 7 < n then .error 0x06040002
  else if (s.rc.event.map (·.slot)) = some n then .error 0x06060002
  else .ok (s.recMod fun r => { r with download := some (n, 0), cut := false })

end Sys2Proof.Machine
end

