-- ==== Sys2Proof/Machine/Collector.lean ====
section
/-!
DEFINITION. Machine/Collector.lean: the fault collector (R515–R529): the active table, reactions, clearing and the fault log.
-/
namespace Sys2Proof.Machine

/-! ### The fault log (R525, R526). -/

/-- R526: may a pending entry be dropped, and in which order: 0 NOTE messages, 1 MINOR messages and types 2, 3 and 6, 2 never.
-/
def LogEntry.dropClass (e : LogEntry) : Nat :=
  if e.type = 0 ∧ e.msg.cls = 0 then 0 else if (e.type = 0 ∧ e.msg.cls = 1) ∨ e.type = 2 ∨ e.type = 3 ∨ e.type = 6 then 1 else 2
/-- R526: the pending entry that makes room. -/
def logVictim (l : List LogEntry) : Option Nat :=
  match l.findIdx? fun e => e.dropClass == 0 with
  | some i => some i
  | none => l.findIdx? fun e => e.dropClass == 1
/-- R526: the ring of 1,024 is full and no pending entry may be dropped. -/
def State.logBlocked (s : State) : Bool := decide (1024 ≤ s.col.ramLog.length) && (logVictim s.col.ramLog).isNone
/-- R526: room is made in the ring. [log 11 DESIGN CHOICE] -/
def State.logRoom (s : State) : State :=
  if s.col.ramLog.length < 1024 then s
  else
    match logVictim s.col.ramLog with
    | some i => { s with col := { s.col with ramLog := s.col.ramLog.eraseIdx i } }.count Obj.FAULT_DROPS 32
    | none => s
/-- R525, R515, R526: an entry is written to the ring. It carries the gap flag where it takes a dropped entry's place, and
where it is the next message taken after one was dropped. [log 193, 267 DEDUCED] -/
def State.logAdd (s : State) (type : Nat) (escalated : Bool) (m : FaultMsg) (ecc : List Byte := []) : State :=
  let t := s.logRoom
  let gap : Bool := decide (t.col.ramLog.length < s.col.ramLog.length) || (s.col.gap && type == 0)
  let e : LogEntry := { seq := s.nat Obj.LOG_HEAD, type := type, flags := b2n gap + (if escalated then 4 else 0), role := s.role
                        resetKind := s.nat Obj.LAST_RESET_KIND, aonSeconds := s.nat Obj.AON_SECONDS, time := s.stamp, msg := m, ecc := ecc }
  { t.count Obj.LOG_HEAD 32 with col := { t.col with gap := s.col.gap && type != 0, ramLog := t.col.ramLog ++ [e] } }
/-- R525, R526: pending entries go to flash; when the ring of 262,144 wraps, its oldest erase block is erased. -/
def State.logCommit (s : State) : State :=
  match s.col.ramLog.getLast? with
  | none => s
  | some e =>
    let l := s.col.flashLog ++ s.col.ramLog
    let l := if 262144 < l.length then l.drop (max (l.length - 262144) (Config.logBlock + 1)) else l
    { s.putN Obj.LOG_COMMITTED e.seq with col := { s.col with ramLog := [], flashLog := l } }
/-- FAULT_LOG_COMMIT (R526): pending entries are committed to flash. -/
def runFaultLogCommit (s : State) : Res := .next s.logCommit
/-- R525: the 32 bytes of an entry. -/
def LogEntry.bytes (e : LogEntry) : List Byte :=
  let body := if e.ecc.isEmpty then le 8 e.msg.bits.toNat ++ le 8 e.time else e.ecc
  let b := body ++ le 4 e.aonSeconds ++ le 4 e.seq ++ le 1 e.type ++ le 1 e.resetKind ++ le 1 e.flags ++ le 1 e.role
  b ++ le 4 (crc32c b)
/-- A message that names a source and a kind, for log entries that no source sent. -/
def logMsg (src kind detail : Nat) : FaultMsg := ⟨src, kind, 0, 0, 0, BitVec.ofNat 32 detail, 0⟩

/-! ### The active table (R518–R524). -/

/-- The row of a source and kind. -/
def State.row (s : State) (src kind : Nat) : Option FaultRow := s.col.rows.find? fun r => r.src == src && r.kind == kind
/-- Change the row of a source and kind. -/
def State.rowMod (s : State) (src kind : Nat) (f : FaultRow → FaultRow) : State :=
  { s with col := { s.col with rows := s.col.rows.map fun r => if r.src == src && r.kind == kind then f r else r } }
/-- R521, R522: a row leaves the table. -/
def State.rowFree (s : State) (src kind : Nat) : State :=
  match s.row src kind with
  | none => s
  | some r =>
    let s := { s with col := { s.col with rows := s.col.rows.filter fun r => !(r.src == src && r.kind == kind), tableFull := false } }
    s.logAdd 3 (r.state == 5) r.last
/-- A row counts as CRITICAL. -/
def FaultRow.critical (r : FaultRow) : Bool := r.state == 4 || r.state == 5
/-- R524, R52: FAULT_N is asserted: by the collector, or with VBAT below its brown-out level by the chaperone while VCH is
present. -/
def State.faultN (s : State) : Bool :=
  if s.su.low.testBit 0 then !s.su.low.testBit 4
  else (s.col.rows.any fun r => s.bit Obj.FAULTN_CLASSES (if r.critical then 3 else r.cls)) || s.col.tableFull || decide (s.nat Obj.START_STEP < 3)
/-- R528: FAULT_STATUS. -/
def State.faultStatus (s : State) : Nat :=
  b2n (s.col.rows.any FaultRow.critical) * 8 + b2n (s.col.rows.any fun r => r.state == 2) * 4 + b2n s.col.tableFull * 2 + b2n s.faultN
/-- R529: an ACTIVE_TABLE row. -/
def FaultRow.bytes (r : FaultRow) : List Byte :=
  le 8 r.last.bits.toNat ++ le 8 r.first ++ le 4 (min r.count (2 ^ 32 - 1)) ++ le 1 r.state ++ le 1 r.cls ++ zeros 2

/-- R519: the CRITICAL reaction: requests withdrawn, the chaperone SILENT, a lead gives up, the lane fail-silent. -/
def State.criticalReaction (s : State) (src kind qual : Nat) : State :=
  let s := { s with ch.request := 0, ch.permission := none }
  let s := s.giveUp 1 src kind false
  let s := s.chapSilence kind qual
  { s with col := { s.col with failSilent := true, silentBy := if s.col.failSilent then s.col.silentBy else some kind } }
/-- R519, step 1: LAST_CRITICAL takes a message with its class reading CRITICAL. [log 113 DEDUCED] -/
def State.lastCritical (s : State) (m : FaultMsg) : State := s.putN Obj.LAST_CRITICAL ({ m with cls := 3 } : FaultMsg).bits.toNat
/-- R520: a MAJOR message escalates: R519 runs, unless it has run. [log 114 DEDUCED] -/
def State.escalate (s : State) (m : FaultMsg) : State :=
  let s := s.logAdd 1 true m
  if s.col.failSilent then s
  else ((s.count Obj.ESCALATIONS 32).lastCritical m).criticalReaction m.src m.kind m.qual

/-- R519, step 1: the rows of the CRITICAL lines asserted become CRITICAL; an escalated one stays so. [log 194 DEDUCED] -/
def State.rowsCritical (s : State) (l : List FaultMsg) : State :=
  l.foldl (fun s m => s.rowMod m.src m.kind fun r => { r with state := if r.state = 5 then 5 else 4 }) s
/-- CRITICAL_LINE (R516, R519, R527): the CRITICAL lines asserted start one reaction; the lower source is recorded. [log 24
DEDUCED] -/
def runCriticalLine (s : State) : Res :=
  match s.col.lines with
  | [] => .next s
  | m0 :: l =>
    let m := l.foldl (fun a b => if b.src < a.src then b else a) m0
    let s := { s with col := { s.col with lines := [], reacting := some (m.src, m.kind) } }
    .next ((s.rowsCritical (m0 :: l)).criticalReaction m.src m.kind m.qual)

/-- R515: the message at the head of the queue leaves it, and one held by its source enters. -/
def State.queuePop (s : State) : State :=
  let q := s.col.queue.drop 1 ++ s.col.held.take 1
  { s with col := { s.col with queue := q, held := s.col.held.drop 1 } }
/-- R518, R520, R522: a message without a row. [log 194, 268 DEDUCED] -/
def State.rowOpen (s : State) (m : FaultMsg) : State :=
  if 128 ≤ s.col.rows.length then
    let s := { s with col := { s.col with tableFull := true } }
    if m.cls = 2 then s.escalate m else s
  else
    let r : FaultRow := { src := m.src, kind := m.kind, cls := m.cls, state := if m.cls = 3 then 4 else m.cls, count := 1, first := m.time, last := m }
    { s with col := { s.col with rows := s.col.rows ++ [r] } }
/-- R518, R520: a message with a row: the latest message, the count; a MAJOR repeat after acknowledgement starts a new timer.
[log 115, 268 DEDUCED] -/
def State.rowUpdate (s : State) (m : FaultMsg) : State :=
  s.rowMod m.src m.kind fun r =>
    { r with last := m, count := r.count + 1, cls := max r.cls m.cls
             state := if r.critical then r.state else if m.cls = 3 then 4 else if m.cls = 2 then 2 else r.state }
/-- R520: a MAJOR row awaiting its reaction is acknowledged by the sequence of its latest message. -/
def State.rowAck (s : State) (src kind seq : Nat) : State :=
  match s.row src kind with
  | some r =>
    if r.state = 2 ∧ r.last.seq = seq then (s.rowMod src kind fun r => { r with state := 3 }).logAdd 2 false r.last else s
  | none => s
/-- R543, R511: the keeper itself acknowledges THERMAL_LIMIT in a follow, at once, and an uncorrectable error of the
application firmware's own access, at step 4 of the partition restart that it starts. [log 159, 269 DEDUCED] -/
def State.keeperAck (s : State) (m : FaultMsg) : State :=
  s.when ((m.kind == Kind.THERMAL_LIMIT && s.role == 1) ||
      (m.cls == 2 && (m.kind == Kind.ECC_UNCORR_FETCH || m.kind == Kind.ECC_UNCORR_DATA)))
    (·.rowAck m.src m.kind m.seq)
/-- FAULT_MESSAGE (R515, R518, R499, R244): the collector takes the message at the head of its queue. [log 24, 113 DEDUCED] -/
def runFaultMessage (s : State) : Res :=
  match s.col.queue with
  | [] => .next s
  | m :: _ =>
    if s.logBlocked then .next s
    else
      let s := (s.queuePop.count (Obj.KIND_COUNT m.kind) 32).logAdd 0 false m
      let s := (s.recFault m).traceFault m.kind m.cls
      let s := (if m.cls = 0 then s else if (s.row m.src m.kind).isSome then s.rowUpdate m else s.rowOpen m).keeperAck m
      .next (if s.col.reacting = some (m.src, m.kind) ∧ m.cls = 3 then
        { s with col := { s.col with reacting := none } }.lastCritical m else s)

/-- FAULT_REACT_EXPIRY (R520, R527): the reaction timer of a MAJOR row runs out unacknowledged. -/
def runFaultReactExpiry (src : BitVec 10) (kind : Byte) (s : State) : Res :=
  match s.row src.toNat kind.toNat with
  | some r => if r.state = 2 then .next ((s.rowMod src.toNat kind.toNat fun r => { r with state := 5 }).escalate r.last) else .next s
  | none => .next s
/-- FAULT_ACKNOWLEDGE (R520, R543): the keeper acknowledges a MAJOR row by source, kind and the sequence of its latest
message; a lead's keeper does not acknowledge THERMAL_LIMIT. [log 189 DEDUCED] -/
def runFaultAcknowledge (src : BitVec 10) (kind seq : Byte) (s : State) : Res :=
  .next (if kind.toNat = Kind.THERMAL_LIMIT ∧ s.ld.leading then s else s.rowAck src.toNat kind.toNat seq.toNat)

/-- R521: the conditions on results, counters and memories that stand (R156, R164, R173, R188, R277, R434, R493, R497). [log
116 DEDUCED] -/
def State.measureStands (s : State) (src kind : Nat) : Bool :=
  if kind = Kind.ADC_CAL_FAIL then
    vget s.ms.uncal (if Src.gc 0 ≤ src then 34 + (src - Src.gc 0) else if Src.sc 0 ≤ src then 18 + (src - Src.sc 0) else src - Src.ic 0)
  else if kind = Kind.ADC_RANGE then
    if Src.gc 0 ≤ src then (s.gcTable (src - Src.gc 0)).any fun row => vget s.ms.chClamped (scanCh row) else if Src.sc 0 ≤ src then vget s.ms.scClamped (src - Src.sc 0) else vget s.ms.icClamped (src - Src.ic 0)
  else if kind = Kind.SHUNT_OFFSET then vget s.ms.offBeyond (src - Src.ic 0)
  else if kind = Kind.COUNT_EXTEND_LATE then s.bit (Obj.FB_STATUS (src - Src.fb 0)) 6
  else if kind = Kind.SCRUB_SLOW then (List.range 11).any fun m => memSrc m == src && vget s.me.slow m
  else if kind = Kind.SPARE_EXHAUSTED then s.nat Obj.UNSPARED != 0
  else if kind = Kind.RALUNE_CLAIM_FAIL then (List.range 4).any fun n => (s.nat Obj.CLAIM_STATE / 256 ^ n % 256) / 32 == 1
  else if kind = Kind.KE_LOW then
    let n := src - Src.ax 0
    (s.axis n).keSettled && decide (100 * (s.axis n).psi < (100 - (s.nat (Obj.AX_KE_LOW_PCT n) : Rat)) * s.axPsi n)
  else if kind = Kind.KE_MISMATCH then
    let n := src - Src.ax 0
    let far (v ref : Rat) : Bool := decide ((s.nat (Obj.AX_KE_MISMATCH_PCT n) : Rat) * ref < 100 * |v - ref|)
    ((s.axis n).keSettled && far (s.axis n).psi (s.axPsi n)) ||
      (s.nat (Obj.AX_R_MEAS n) != 0 && far ((s.nat (Obj.AX_R_MEAS n) : Rat) / 1000000) (s.axR n))
  else false
/-- R521: the kinds whose raising condition is a standing one: does it stand now at a source? [log 116 DEDUCED] -/
def State.causeStands (s : State) (src kind : Nat) : Bool :=
  let flags := s.nat Obj.SUPPLY_FLAGS
  if kind = Kind.SUPPLY_UV then flags % 32 != 0 || s.nat Obj.SUP_STATUS % 16 != 0
  else if kind = Kind.SUPPLY_OV then flags / 256 % 32 &&& 27 != 0 || s.nat Obj.SUP_STATUS % 16 != 0
  else if kind = Kind.VACT_OV then flags.testBit 10
  else if kind = Kind.THERMAL_WARN then s.warm || s.th.raised.testBit 2
  else if kind = Kind.THERMAL_LIMIT then decide (150 ≤ s.n Obj.TJ_POWER) || decide (135 ≤ s.n Obj.TJ_MAIN) || s.th.shut
  else if kind = Kind.ADC_REF_UNSETTLED then (List.range 8).any fun c => vget s.ms.refRaised c
  else if kind = Kind.SENT_TIMEOUT then (vget s.sn (src - Src.sn 0)).timeout
  else if kind = Kind.OBS_LOST then (vget s.ob (src - Src.ob 0)).lost
  else if kind = Kind.ANGLE_DISAGREE then
    if src < Src.ax 0 then (vget s.ob (src - Src.ob 0)).disagree else (vget s.hall (src - Src.ax 0)).badRaised
  else if kind = Kind.AXIS_I2T then (s.axis (src - Src.ax 0)).limiting.toList.any id
  else if kind = Kind.ASC_ENGAGED then decide (3 ≤ s.axState (src - Src.ax 0))
  else if kind = Kind.STEPPER_STALL then (vget s.vs (src - Src.vs 0)).stalled
  else if kind = Kind.VALVE_SHORT ∨ kind = Kind.VALVE_OPEN_LOAD then
    if Src.sol 0 ≤ src then
      let x := vget s.sol (src - Src.sol 0)
      if kind = Kind.VALVE_SHORT then x.overcurrent || x.toSupply else x.openOn || x.openOff
    else
      let x := vget s.vs (src - Src.vs 0)
      if kind = Kind.VALVE_SHORT then x.shorted else (vget x.coils 0).isOpen || (vget x.coils 1).isOpen
  else if kind = Kind.PEDAL_DISAGREE then s.bl.disagree
  else if kind = Kind.INTERLOCK_TEST_FAIL then s.ld.lineFailed
  else if kind = Kind.HEALTH_LOW then s.ld.belowFloor
  else if kind = Kind.PEER_LOST then vget s.ld.lost 0 || vget s.ld.lost 1 || wordRole (s.nat (Obj.PEER_HEALTH 0)) == 4 || wordRole (s.nat (Obj.PEER_HEALTH 1)) == 4
  else if kind = Kind.RALUNE_SYNC_LOST then !s.clk.joined || s.nat Obj.STEP_STATE == 2
  else if kind = Kind.RALUNE_TX_INHIBIT then s.inhibited
  else if kind = Kind.RALUNE_PORT_DOWN then !s.portUp (src - Src.port 0)
  else if kind = Kind.STREAM_LINK_DOWN then s.nat Obj.STREAM_STATE != 3
  else if kind = Kind.AZSIN_TIMEOUT then s.azConsumers.any fun c => s.nat (Obj.AZ_STATE c) == 3
  else s.measureStands src kind
/-- FAULT_ROW_CLEAR (R521): firmware clears a MINOR row, or the keeper an acknowledged MAJOR one, once its cause has gone. -/
def runFaultRowClear (src : BitVec 10) (kind : Byte) (s : State) : Res :=
  match s.row src.toNat kind.toNat with
  | some r =>
    if (r.state = 1 ∨ r.state = 3) ∧ !s.causeStands src.toNat kind.toNat then .next (s.rowFree src.toNat kind.toNat) else .next s
  | none => .next s
/-- R521: FAULT_CLEAR names a source and a kind. [log 266 DESIGN CHOICE] -/
def State.faultClear (s : State) (v : Nat) : Except AbortCode State :=
  let src := field v 17 8
  let kind := field v 7 0
  match s.row src kind with
  | some r =>
    if r.state = 1 ∨ (r.state = 3 ∧ !s.causeStands src kind) then .ok (s.rowFree src kind) else .error 0x06060002
  | none => .error 0x06060002

/-- R517: the messages the chaperone held go to the collector. -/
def State.heldDeliver (s : State) : State :=
  let l := s.col.chapHeld
  let s := { s with col := { s.col with chapHeld := [] } }
  l.foldl (fun s m =>
    let t := s.enqueue m
    if m.cls = 3 then { t with col := { t.col with lines := t.col.lines ++ [m] } } else t) s
/-- R525, R528: the entries from LOG_FROM on, as a reader finds them, up to 256. -/
def State.logWindow (s : State) : List Byte :=
  let since := s.nat Obj.LOG_FROM
  (((s.col.flashLog ++ s.col.ramLog).filter fun e => decide ((e.seq + 2 ^ 32 - since) % 2 ^ 32 < 2 ^ 31)).take 256).flatMap LogEntry.bytes

end Sys2Proof.Machine
end

