-- ==== Sys2Proof/Machine/EccCode.lean ====
section
/-!
DEFINITION. Machine/EccCode.lean: the code of the memories' words (R484, R485): the Hsiao check bits of the data, the image of
the word address, and what a syndrome says of a read.
-/
namespace Sys2Proof

/-- The number of ones among the low eight bits of a number. -/
def ones8 (n : Nat) : Nat := ((List.range 8).filter n.testBit).length
/-- The bytes of a given weight, ascending. -/
def bytesOfWeight (w : Nat) : List Byte := ((List.range 256).filter fun n => ones8 n == w).map (BitVec.ofNat 8)
/-- `k` elements of a list, each chosen among those still left. -/
def chosen {α : Type} (choose : Nat → Nat) : Nat → List α → List α
  | 0, _ => []
  | k + 1, l => ((l[choose k % l.length]?).toList) ++ chosen choose k (l.eraseIdx (choose k % l.length))
/-- R485: the columns of the 64 data bits: the 56 bytes of weight 3 and eight of weight 5, as a Hsiao code of (72,64) has
them; which eight, and in which order, the manual does not say. [log 211 DESIGN CHOICE] -/
def dataColumns : List Byte := chosen Config.columnOrder 64 (bytesOfWeight 3 ++ chosen Config.columnFives 8 (bytesOfWeight 5))
/-- The XOR of the columns of the bits set in a number. -/
def xorColumns (col : Nat → Byte) (n bits : Nat) : Byte :=
  (List.range bits).foldl (fun y i => if n.testBit i then y ^^^ col i else y) 0
/-- R485: the Hsiao check bits of a 64-bit word. -/
def hsiaoBits (data : Quad) : Byte := xorColumns (fun i => dataColumns.getD i 0) data.toNat 64
/-- The bytes of even, non-zero weight. -/
def evenBytes : List Byte := bytesOfWeight 2 ++ bytesOfWeight 4 ++ bytesOfWeight 6 ++ bytesOfWeight 8
/-- R485: a column of the address matrix: even and non-zero in weight, otherwise unstated. [log 211 DESIGN CHOICE] -/
def imageColumn (i : Nat) : Byte := evenBytes.getD (Config.imagePick i % 127) 3
/-- R485: the image of a word address. -/
def addressImage (word : Nat) : Byte := xorColumns imageColumn word 29
/-- R485: the eight check bits stored with a word at a word address. -/
def checkBits (data : Quad) (word : Nat) : Byte := hsiaoBits data ^^^ addressImage word
/-- R485: the syndrome of a word read from an address with its check bits. -/
def syndromeOf (data : Quad) (check : Byte) (word : Nat) : Byte := check ^^^ checkBits data word
/-- R484, R485: a syndrome that is the column of one bit, a check bit's or a data bit's, is corrected. -/
def oneBit (y : Byte) : Bool := ones8 y.toNat == 1 || dataColumns.contains y

/-- R484, R490: the size of memory m, in bytes; of flash, in pages of 4 KB. -/
def memSize (m : Nat) : Nat :=
  [0x80000, 0x100000, 0x100000, 0x100000, 0x100000, 0xA00000, 0x80000, 0x100000, 0x1000, 0x10000000, 0x20000].getD m 0
/-- R485: the syndrome a read gave. -/
def EccError.syndrome (e : EccError) : Byte := syndromeOf e.data e.check (e.addr.toNat / 8)
/-- R484: was there an error? In flash, by the bits in error. -/
def EccError.found (e : EccError) : Bool := if e.m.val = 10 then e.bits != 0 else e.syndrome != 0
/-- R484, R485: is the error corrected: one bit of a word, at most 40 bits of a flash codeword? -/
def EccError.corrected (e : EccError) : Bool := if e.m.val = 10 then decide (e.bits.toNat ≤ 40) else oneBit e.syndrome
/-- R490: the syndrome, or the bits that the BCH code corrected. -/
def EccError.logged (e : EccError) : Nat := if e.m.val = 10 then e.bits.toNat else e.syndrome.toNat

end Sys2Proof
end

