-- ==== Sys2Proof/Machine/Signature.lean ====
section
/-!
DEFINITION. Machine/Signature.lean: the sealed set and its signature (R147–R150): the sealed entries in order, their
serialisation, the active, staged and confirmed sets, and the ROM profile of seal mode (R389).
-/
namespace Sys2Proof.Machine

/-- R129: is an entry sealed? -/
def isSealed (key : Nat) : Bool :=
  match rowOf key with
  | some r => r.persist == .sealed
  | none => false
/-- R147: the sealed entries of an index in ascending order, sub-index 0x00 left out. -/
def sealedAt (idx : Nat) : List Nat :=
  if (tablesAt idx).any fun r => r.persist == .sealed && r.coversIndex idx then
    ((List.range 255).map fun u => 256 * idx + u + 1).filter isSealed
  else []
/-- R147: every sealed entry, in ascending index and sub-index order. -/
def sealedKeys : List Nat := (List.range 0x10000).flatMap sealedAt
/-- R127: the bytes of an entry's value. -/
def entryBytes (key : Nat) (v : Val) : List Byte :=
  match rowOf key with
  | some r => r.ty.encode v
  | none => []
/-- R147: one entry of the serialisation: index, sub-index, length and value. -/
def sealedBytes (key : Nat) (v : Val) : List Byte :=
  let b := entryBytes key v
  le 2 (key / 256) ++ le 1 (key % 256) ++ le 2 b.length ++ b
/-- R147: the sealed serialisation under a reading of the entries. -/
def serialisation (get : Nat → Val) : List Byte := sealedKeys.flatMap fun k => sealedBytes k (get k)
/-- R147: the parameter signature under a reading of the entries. -/
def signature (get : Nat → Val) : Nat := crc32c (serialisation get)

/-- R148, R149: the entry of the set that edits build on: the confirmed one while it awaits a start, else the active one. [log
175, 186 DEDUCED] -/
def State.baseGet (s : State) (key : Nat) : Val :=
  if s.nat Obj.SIG_STATE = 2 ∧ isSealed key then Sparse.get defaultOf s.confirmed key else s.get key
/-- R148: an entry with its staged value in place of the active one. [log 186 DEDUCED] -/
def State.stagedGet (s : State) (key : Nat) : Val := (Sparse.find s.staged key).getD (s.baseGet key)
/-- R148: a sealed entry's value is staged. -/
def State.stage (s : State) (key : Nat) (v : Val) : State :=
  { s with staged := Sparse.insert (Sparse.erase s.staged key) key v }
/-- R148, R152: SIG_COMPUTED: the signature with staged values in place of active ones; SIG_ACTIVE, or SIG_STAGED while a
confirmed set awaits its start, while nothing is staged. [log 186 DEDUCED] -/
def State.sigComputed (s : State) : Nat :=
  if s.staged.isEmpty ∧ s.nat Obj.SIG_STATE = 2 then s.nat Obj.SIG_STAGED
  else if s.staged.isEmpty ∧ s.nat Obj.SIG_STATE ≠ 0 then s.nat Obj.SIG_ACTIVE
  else signature s.stagedGet
/-- R148: SIG_STATE as it reads. -/
def State.sigState (s : State) : Nat := if s.staged.isEmpty then s.nat Obj.SIG_STATE else 3

/-- R379, R389: the enable of an output. -/
def outputEnables : List Nat :=
  (List.range 6).map Obj.AX_ENABLE ++ (List.range 4).map Obj.VS_ENABLE ++ (List.range 16).map Obj.SOL_ENABLE
/-- R389: the value of a sealed entry under a ROM profile; profile 0 enables no output. [log 6 DESIGN CHOICE] -/
def profileGet (p key : Nat) : Val :=
  if p = 0 ∧ outputEnables.contains key then .num 0 else (Config.profile p key).getD (defaultOf key)
/-- R149: the sealed set a start runs with outside seal mode: the confirmed one where it awaits the start, else the active
one. -/
def State.startSet (s : State) : Sparse Val := if s.nat Obj.SIG_STATE = 2 then s.confirmed else s.sealedSet
/-- A sealed set takes the place of the dictionary's sealed entries. -/
def State.loadFrom (s : State) (set : Sparse Val) : State :=
  set.foldl (fun t e => t.put e.1 e.2) { s with dict := s.dict.filter fun e => !isSealed e.1 }
/-- R149, R150, R389: the sealed set a start runs with is put into the dictionary: the profile's in seal mode. [log 6, 18
DESIGN CHOICE] -/
def State.loadSealed (s : State) : State :=
  if s.sealMode then sealedKeys.foldl (fun t k => t.put k (profileGet s.profileNo k)) s
  else s.loadFrom s.startSet

end Sys2Proof.Machine
end

