-- ==== Sys2Proof/Machine/Supplies.lean ====
section
/-!
DEFINITION. Machine/Supplies.lean: supply monitors, strap sampling, clock monitors (R58–R69, R74, R390).
-/
namespace Sys2Proof.Machine

/-! ### Supply monitors (R60–R62). Supplies are numbered VBAT 0, VKA 1, VACT 2, VSM 3, VCH 4. -/

/-- R61, R68: the latest reading of a supply in mV. -/
def State.supplyMv (s : State) (k : Nat) : Int := s.n ([Obj.VBAT_MV, Obj.VKA_MV, Obj.VACT_MV, Obj.VSM_MV, Obj.VCH_MV].getD k Obj.VBAT_MV)
/-- R60, R62: a supply is above its hardware action level. -/
def State.supplyPresent (s : State) (k : Nat) : Bool := !s.su.low.testBit k
/-- R60: a supply crosses its hardware action level. -/
def State.supplyLow (s : State) (k : Nat) (low : Bool) : State :=
  { s with su.low := if s.su.low.testBit k = low then s.su.low else if low then s.su.low + 2 ^ k else s.su.low - 2 ^ k }
/-- R60, R61: a supply falls below its under-voltage level: its flag, and SUPPLY_UV once. -/
def State.underVoltage (s : State) (k : Nat) : State :=
  if s.bit Obj.SUPPLY_FLAGS k then s
  else (s.putBit Obj.SUPPLY_FLAGS k true).raise Src.supply Kind.SUPPLY_UV (k + 1) (some (s.supplyMv k))
/-- R60, R61, R275: a supply rises above its over-voltage level: its flag, and SUPPLY_OV, or VACT_OV with DUMP, once. -/
def State.overVoltage (s : State) (k : Nat) : State :=
  if s.bit Obj.SUPPLY_FLAGS (8 + k) then s
  else
    let s := s.putBit Obj.SUPPLY_FLAGS (8 + k) true
    if k = 2 then (s.raise Src.supply Kind.VACT_OV 1 (some (s.supplyMv 2))).dumpJudge true
    else s.raise Src.supply Kind.SUPPLY_OV (k + 1) (some (s.supplyMv k))
/-- SUPPLY_OVERVOLTAGE (R60, R61). [log 127 DEDUCED] -/
def runSupplyOvervoltage (k : Fin 5) (s : State) : Res := .next (s.overVoltage k)
/-- R60, R62: what falling below the hardware action level does for VKA, VACT and VSM: VKA counts as absent; the axes disarm,
those in a short circuit or held in the last waltz too; the bridges are held off. -/
def State.actionLow (s : State) (k : Nat) : State :=
  let s := s.supplyLow k true
  if k = 3 then s.each 4 fun s n => s.vsHalt n
  else if k = 2 then s.waltzOff.armJudge.each 6 fun s n => if 3 ≤ s.axState n then s.axOffNow n else s
  else s.armJudge
/-- R62: AON_SOURCE: the always-on domain is fed from VBAT. [log 124 DEDUCED] -/
def State.aonFromVbat (s : State) : Bool := !s.supplyPresent 1 || decide (s.supplyMv 1 < s.supplyMv 0)

/-! ### Strap sampling (R64–R69, R390). -/

/-- R66: the STRAP_STATUS of a word with its floating bits at 0. -/
def strapCheck (word floating : Nat) : Nat :=
  let ones := countOf ((List.range 24).map word.testBit)
  if floating ≠ 0 then 2
  else if ones % 2 = 0 then 1
  else if word % 4 = 0 ∨ field word 6 4 = 7 ∨ (word % 4 = 3 ∧ !word.testBit 2) ∨ field word 22 16 ≠ 0 then 3
  else 0
/-- R64: the straps floating in a sequence, none where two reads of one phase disagree. [log 126 DEDUCED] -/
def strapFloating (r : StrapReads) : Option Nat :=
  if r.up1 = r.up2 ∧ r.down1 = r.down2 then some (r.up1 ^^^ r.down1).toNat else none
/-- R64: strap word, float word and tick of the first sequence, or of the one after a restart. [log 126 DEDUCED] -/
def strapSample (first again : StrapReads) : Nat × Nat × Nat :=
  let pick (r : StrapReads) : Nat × Nat × Nat :=
    let f := ((r.up1 ^^^ r.up2) ||| (r.down1 ^^^ r.down2) ||| (r.up1 ^^^ r.down1)).toNat
    ((List.range 24).foldl (fun w i => if r.down2.toNat.testBit i && !f.testBit i then w + 2 ^ i else w) 0, f, r.done)
  pick (if (strapFloating first).isSome then first else again)
/-- R390, R66: STRAP_PARITY with the status as its qualifier: every arm signal deasserts and the chaperone stays out of
START. -/
def State.strapFault (s : State) (status : Nat) : State :=
  let s := { s.putN Obj.STRAP_STATUS status with ch.strapBad := true }
  s.chapRaise Kind.STRAP_PARITY status (some (s.n Obj.STRAP_WORD))
/-- R64, R66, R68, R376: a sampling of the straps; valid straps let the chaperone enter START. -/
def State.strapsTake (s : State) (first again : StrapReads) : State :=
  let (word, floating, tick) := strapSample first again
  let s := ((s.putN Obj.STRAP_WORD word).putN Obj.STRAP_FLOAT floating).putN Obj.STRAP_SAMPLE_TICK (tick % 2 ^ 32 : Nat)
  let s := { s with ch.strapOff := false, ch.strapBad := false }
  let status := strapCheck word floating
  if status = 0 then (s.putN Obj.STRAP_STATUS 0).putN Obj.CHAP_STATE 1
  else (s.putN Obj.CHAP_STATE 0).strapFault status

/-- R64, R97, R103, R376, R401: the sampling that belongs to a start. A chaperone in its own reset runs none and hands over no
word; `skip`: the last waltz keeps the chaperone's state over this start. [log 251 DEDUCED] -/
def State.strapsAtStart (s : State) (first again : StrapReads) (skip : Bool) : State :=
  if s.ch.inReset then s.putN Obj.STRAP_WORD 0 else if skip then s else s.strapsTake first again

/-- STRAP_SERVICE_READ (R67, R390): every 10 ms the straps are read without pulls; two reads in a row that differ from the
sampled word are STRAP_PARITY. -/
def runStrapServiceRead (word : BitVec 24) (s : State) : Res :=
  let off : Bool := word.toNat != s.nat Obj.STRAP_WORD
  if s.chapState = 0 ∨ s.ch.strapBad then .next s
  else if off && s.ch.strapOff then
    .next (({ s with ch.strapOff := true }.strapFault 4).chapSilence Kind.STRAP_PARITY 4)
  else .next { s with ch.strapOff := off }

/-! ### Clock monitors and HOLD (R74, R18, R54). -/

/-- R73, R74: the limit of a clock in ppm by R514's qualifier less 1: 1 % of the timebase and the actuator clock, 0.5 % beyond
the ±1.5 % envelope of a core clock. -/
def clockLimit (q : Nat) : Nat := if q ≤ 2 then 10000 else 20000
/-- CLOCK_DEVIATION (R74, R514): a clock has deviated by so many ppm for 100 µs; beyond its limit it has failed. -/
def runClockDeviation (q : Fin 5) (ppm : Int) (s : State) : Res :=
  .next (if clockLimit q < ppm.natAbs then s.raise Src.clock Kind.CLOCK_FAIL (q + 1) (some ppm) else s)
/-- TIMEBASE_START_TIMEOUT (R74, R107): the timebase has not started within 5 ms of being enabled. -/
def runTimebaseStartTimeout (s : State) : Res :=
  .next (if s.st.due.isSome then s.raise Src.clock Kind.CLOCK_FAIL 6 none else s)
/-- CHAP_CLOCK_FAIL (R18): the chaperone's clock has failed: every arm signal deasserts and none asserts until the
chaperone leaves a reset. [log 128 DEDUCED] -/
def runChapClockFail (s : State) : Res := .next (s.supplyLow 5 true).chapRefuse

end Sys2Proof.Machine
end

