-- ==== Sys2Proof/Machine/Reset.lean ====
section
/-!
DEFINITION. Machine/Reset.lean: what a reset keeps and what it returns to its default (R97–R100, R114–R116), the restart of
the application partition (R21–R23), and the always-on time (R93, R102).
-/
namespace Sys2Proof.Machine

/-! ### Always-on time (R93, R102). -/

/-- R93, R102: the always-on timer has reached a tick. -/
def State.aonTo (s : State) (tick : Nat) : State :=
  { s.putN Obj.AON_SECONDS ((tick - s.pw.origin) / 32768 % 2 ^ 32 : Nat) with pw.tick := tick }

/-! ### Retention (R114, R115). -/

/-- R16, R387, R390: entries that show what the chaperone and the supply monitors hold; a reset of the main die alone leaves
them. [log 131 DEDUCED] -/
def chapEntry (key : Nat) : Bool :=
  [Obj.CHAP_STATE, Obj.CHAP_CAUSE, Obj.CHAP_TIME, Obj.CHAP_SIG, Obj.CHAP_HALL, Obj.EB_DUTY, Obj.CHAP_BANK_USED, Obj.GUARD_STATUS,
   Obj.GUARD_BLOCKS, Obj.WALTZ_RESULT, Obj.WALTZ_TIME, Obj.STRAP_WORD, Obj.STRAP_FLOAT, Obj.STRAP_STATUS, Obj.STRAP_SAMPLE_TICK,
   Obj.SUPPLY_FLAGS].contains key
/-- R75: the vote registers of the keeper and the application cores. -/
def voteEntry (key : Nat) : Bool := Obj.VOTE_MASK 0 ≤ key && key ≤ Obj.VOTE_MASK 4
/-- R114: does an entry keep its value over a reset of this kind? [log 21 DEDUCED] -/
def keeps (kind key : Nat) : Bool :=
  chapEntry key || (voteEntry key && kind != 0) ||
    match rowOf key with
    | none => false
    | some r =>
      match r.persist with
      | .stored => true
      | .sealed => true
      | .retained => kind != 0
      | .keepRegion => kind == 5 || kind == 6
      | .volUnit => kind == 5
      | .volApp => false
/-- R380: the power die holds a granted active short circuit over this reset of the main die; a brown-out resets the power die
itself. [log 250 DEDUCED] -/
def State.ascHeld (s : State) (kind n : Nat) : Bool := decide (2 ≤ kind ∧ kind ≤ 4) && decide (3 ≤ s.axState n)
/-- R397: PD_MEAS and PD_POWER are held up by the chaperone in the last waltz, whatever becomes of the main die. -/
def State.waltzDomains (s : State) : State :=
  if s.chapState = 4 then s.putN Obj.DOMAIN_STATUS (s.nat Obj.DOMAIN_STATUS ||| 10 : Nat) else s
/-- R114: the entries a reset does not keep return to their defaults. -/
def State.dropEntries (s : State) (kind : Nat) : State :=
  { s with dict := s.dict.filter fun e => keeps kind e.1 || (List.range 6).any fun n => s.ascHeld kind n && e.1 == Obj.AX_STATE n }.waltzDomains
/-- R115: a stored entry's new value, not yet committed to flash. -/
def State.putStored (s : State) (key : Nat) (v : Val) : State :=
  { s with uncommitted := if (Sparse.find s.uncommitted key).isSome then s.uncommitted else Sparse.insert s.uncommitted key (s.get key) }.put key v
/-- R115: an entry's new value has reached flash. [log 19 DEDUCED] -/
def State.commit (s : State) (key : Nat) : State := { s with uncommitted := Sparse.erase s.uncommitted key }
/-- R115: pending commits reach flash. [log 19 DEDUCED] -/
def State.flush (s : State) : State := { s with uncommitted := [] }
/-- R139, R152: the session key entries. -/
def keyEntries : List Nat := [Obj.KEY_SERVICE, Obj.KEY_EXPERT, Obj.KEY_COMMISSION]
/-- R152: KEY_STATE as the keys stand: which are provisioned, and whether the key of delivery is still in use. [log 182
DEDUCED] -/
def State.keyShow (s : State) : State :=
  let set (k : Nat) : Nat := b2n (s.get (Obj.KEY_SERVICE + k) != .oct (zeros 16))
  s.putN Obj.KEY_STATE (set 0 + 2 * set 1 + 4 * set 2 + 16 * b2n (s.get Obj.KEY_COMMISSION == .oct (le 16 Config.deliveryKey.toNat)) : Nat)
/-- R115: writes that had not reached flash are lost; KEY_STATE follows a key that returns. [log 19 DEDUCED] -/
def State.loseWrites (s : State) : State :=
  let t := { s.uncommitted.foldl (fun (s : State) e => s.put e.1 e.2) s with uncommitted := [] }
  if s.uncommitted.any fun e => keyEntries.contains e.1 then t.keyShow else t

/-- R93, R102, R494: a time has passed with PD_MAIN up, in 10 ns counts: the always-on timer and the operating seconds run.
[log 17 DESIGN CHOICE] -/
def State.elapse (s : State) (counts : Nat) : State :=
  let t := s.pw.tickPart + 32768 * counts
  let u := s.pw.secPart + counts
  let s := s.aonTo (s.pw.tick + t / 100000000)
  let s := { s with pw.tickPart := t % 100000000, pw.secPart := u % 100000000 }
  s.when (100000000 ≤ u) (·.putStored Obj.OPERATING_SECONDS (.nat ((s.nat Obj.OPERATING_SECONDS + u / 100000000) % 2 ^ 32)))

/-! ### Sessions and leadership at a reset. -/

/-- R135, R148: the session closes; its unconfirmed edits are discarded, and transfers that used its rights are rejected. -/
def State.sessionEnd (s : State) : State :=
  let s := (s.putN Obj.SESSION_CURRENT 0).clear Obj.SESSION_OWNER
  { s with staged := [], se.owner := none
           se.transfers := s.se.transfers.map fun (t : Transfer) => { t with closed := t.closed || (t.session && s.se.owner == some t.client) } }
/-- Change the stream port. -/
def State.spMod (s : State) (f : Stream → Stream) : State := { s with sp := f s.sp }
/-- R470, R478, R481, R135: what ends with the stream link: waiting frames, an image load, a download, a session of the port. A
failed attempt stays on record until the link has been up or the port is written off (R482). [log 230 DEDUCED] -/
def State.linkEnd (s : State) : State :=
  let s := { s with sp := { failed := s.sp.failed, gap := s.sp.gap }, rc := { s.rc with download := none, cut := false } }
  s.when (s.se.owner == some .stream) (·.sessionEnd)
/-- R98, R55: before the main die stops every arm signal deasserts and LEAD_OUT drops once gate-off is confirmed; in the last
waltz the chaperone drives alone. -/
def State.disarmForReset (s : State) : State :=
  let s := s.armDropAll
  if s.chapState = 4 ∨ s.chapState = 5 then s else s.leadRelease
/-- R114: lead and dance card are cleared. -/
def State.cardsClear (s : State) : State :=
  let s := (((s.putN Obj.LEAD_MODE 0).putN Obj.CARD_NUMBER 0).putN Obj.CARD_HOLDER 0).putN Obj.CARD_EXPIRY 0
  { s with ld.card := {}, ld.outCards := [], ld.testing := false, ld.electing := false, ld.recover := false
           ch.lease := none, ch.cardTake := false, ch.permission := none }

/-! ### Resets of the lane (R97–R100, R114). -/

/-- R376, R377, R381: what the chaperone keeps over a reset of its main die: its requests, lease, permission and mirrors go,
and its watchdog stops until the next start. [log 131 DEDUCED] -/
def State.chapKeep (s : State) : Chaperone :=
  { s.ch with request := 0, lease := none, ebRequest := false, permission := none, cardTake := false, take := .idle, peerHold := false
              seq := none, sideBad := 0, legOver := .replicate 18 0, speed := 0xFFFF, speedAt := 0, demand := 0, autonomy := 0
              travel := .replicate 2 none, wdg := false, judged := true, scanTest := false, mainReset := true, guardRaised := 0 }
/-- R401: fail-silence that goes with LAST_WALTZ persists over a reset of the main die. -/
def State.waltzSilent (s : State) (kind : Nat) : Bool :=
  s.col.failSilent && s.col.silentBy == some Kind.LAST_WALTZ && kind != 0 && s.chapState != 0
/-- R401: a PARKED exit that follows the waltz's completion ends it. -/
def State.waltzOver (s : State) : State :=
  if s.chapState = 5 ∧ s.col.silentBy = some Kind.LAST_WALTZ then { s with col.failSilent := false, col.silentBy := none } else s
/-- R114, R495: the state a lane holds after a reset of a kind that takes effect at an always-on tick; a remap is lost with its
memory's supply. [log 21, 250 DEDUCED] -/
def State.afterReset (s : State) (kind : Nat) : State :=
  { pending := s.pending, out := s.out, free := s.free, dict := s.dict, sealedSet := s.sealedSet, confirmed := s.confirmed
    uncommitted := s.uncommitted, clk := { now := s.clk.now }
    col := { flashLog := s.col.flashLog, chapHeld := s.col.chapHeld
             seqs := s.col.seqs.filter fun e => e.1 == Src.chaperone
             failSilent := s.waltzSilent kind, silentBy := if s.waltzSilent kind then s.col.silentBy else none }
    ax := .ofFn fun n : Fin 6 => if s.ascHeld kind n.val then vget s.ax n.val else {}
    sp := { failed := s.sp.failed && kind != 0 }, link := { vact := s.link.vact }, su := s.su, ch := s.chapKeep, rc := { next := s.rc.next, slots := s.rc.slots, badPage := s.rc.badPage }
    me := { watch := s.me.watch, keepLost := s.me.keepLost && kind != 0, lists := s.me.lists, oneCopy := s.me.oneCopy
            remaps := if 2 ≤ kind ∧ kind ≤ 4 then s.me.remaps else [] }, pw := s.pw
    st := { due := none, barred := s.st.barred, sstSlot := s.st.sstSlot, trialFails := s.st.trialFails, slotRan := s.st.slotRan, found := s.st.found, sigBefore := s.st.sigBefore } }
/-- R376: a reset of the main die of kind 0x1 to 0x4 returns the chaperone to START, but from RESET and the last waltz. -/
def State.chapStart (s : State) (kind : Nat) : State :=
  if kind = 0 ∨ 5 ≤ kind ∨ s.chapState = 0 ∨ s.chapState = 4 ∨ s.chapState = 5 then s else s.putN Obj.CHAP_STATE 1
/-- R97: the reset kind whose start is due, where one takes effect at a tick: the lowest of those within one tick. [log 130
DEDUCED] -/
def State.dueKind (s : State) (kind tick : Nat) : Nat :=
  match s.st.due with
  | some k => if s.st.dueTick = tick then min k kind else kind
  | none => kind
/-- R97, R98, R114, R115: a reset of a kind at an always-on tick; its start is due. -/
def State.resetTo (s : State) (kind tick : Nat) : State :=
  let due := s.dueKind kind tick
  let s := s.disarmForReset
  let s := if kind ≤ 3 then s.loseWrites else s.flush
  let s := s.sessionEnd
  let s := (((s.dropEntries kind).afterReset kind).chapStart kind).ebUpdate
  let s := { s with st := { s.st with due := some due, dueTick := tick } }
  let s := { s with pw := { s.pw with sleep := 0, entry := 0, waking := false, vbatWait := false, expired := 0, rising := 0, rest := 0 } }
  let s := s.when (kind == 0) fun s => { s with pw := { s.pw with ports := 0, partners := 0 } }
  let s := s.when (kind ≤ 1) fun s => { s with pw := { s.pw with mainUp := false } }
  (s.aonTo tick).putN Obj.LAST_RESET_KIND due
/-- BROWN_OUT's and PIN_RESET's condition: the main die is powered or kept. -/
def State.mainAlive (s : State) : Bool := s.pw.sleep != 2
/-- BROWN_OUT (R60, R97): VBAT has fallen below its brown-out level. [log 132 DEDUCED] -/
def State.brownOut (s : State) (tick : Nat) : State :=
  let s := (s.supplyLow 0 true).waltzOff
  if s.mainAlive then s.resetTo 1 tick else s.aonTo tick
/-- R98, R100, R115: a keeper lane reset: a lead gives up lead first; pending commits are flushed. [log 146 DEDUCED] -/
def State.keeperReset (s : State) (tick : Nat) : State := (s.giveUp 4 Src.keeper 0 true).resetTo 4 tick

/-! ### Restart of the application partition (R21–R23). -/

/-- R23, R420: of what a port has latched or queued, the application's content goes. -/
def RaPort.appGone (x : RaPort) : RaPort :=
  let stays (q : Nat × List Byte) : Bool := q.1 != 2 && q.1 != 4
  { x with latched := [], queue := x.queue.filter stays, ready := x.ready.filter stays }
/-- R505, R479: what an application restart stops beside its entries: sessions, transfers, the flash commit of an event, and
what the application firmware holds of blending, of the fabric and of the dictionary service. [log 145 DEDUCED] -/
def State.appStop (s : State) : State :=
  let s := (s.sessionEnd.recStop).dropEntries 5
  { s with se := { s.se with transfers := [], challenge := none }, bl := {}, sp.dict := [], ra.ports := s.ra.ports.map RaPort.appGone }.azStop
/-- R21–R23, R97, R114: the application partition restarts for a cause, which the fault log records; its role is then settled
anew by a recovery (R22, R366). [log 145 DEDUCED] -/
def State.appRestart (s : State) (cause : Nat) : State :=
  let s := { s with ld.restarting := true }
  let s := ((s.giveUp 4 0 0 false).armDropAll).putN Obj.LAST_RESET_KIND 5
  let s := s.takeAbandon.cardsClear
  let s := { s with ld.gaveUp := true, ld.settled := false, ld.passes := 0, ld.included := false, ch.request := 0 }
  (s.logAdd 5 false (logMsg Src.app 0 cause)).appStop

end Sys2Proof.Machine
end

