-- ==== Sys2Proof/Machine/Memory.lean ====
section
/-!
DEFINITION. Machine/Memory.lean: the memories' integrity (R484–R497): errors by access, the watch list, retirement, scrubbing
and the DMA engine's channels.
-/
namespace Sys2Proof.Machine

/-- R484: the retirement unit of memory m in bytes; 0 for a memory without one. -/
def retireUnit (m : Nat) : Nat := if m = 9 then 4096 else if m = 5 ∨ m = 7 then 16384 else 0
/-- Change the memory unit. -/
def State.memMod (s : State) (f : Memory → Memory) : State := { s with me := f s.me }

/-! ### Retirement (R494–R497). -/

/-- The units that hold a spare of the pool that memory m draws on: DRAM's 64 pages, or the 8 SRAM blocks. -/
def State.sparesTaken (s : State) (m : Nat) : List Nat :=
  let pool (x : Nat) : Bool := if m = 9 then x == 9 else x == 5 || x == 7
  (((retireRows (s.oct Obj.RETIRE_LIST)).filter fun x => pool x.2.1).map fun x => x.2.2.2) ++ ((s.me.remaps.filter fun x => pool x.m).map (·.spare))
/-- R486: the DRAM page of a spare. -/
def spareBase (i : Nat) : Nat := 0x0F000000 + 0x1000 * i
/-- R494, R506: a unit has been retired, or its remap runs. -/
def State.retired (s : State) (m base : Nat) : Bool :=
  s.me.remaps.any (fun x => x.m == m && x.base == base) || (retireRows (s.oct Obj.RETIRE_LIST)).any fun x => x.1 == base && x.2.1 == m
/-- R486, R495: the lowest free spare of the pool, 0xFF where none is left (R497); a page of the pool that is itself retired is
none. [log 260 DEDUCED] -/
def State.spareFree (s : State) (m : Nat) : Nat :=
  let free (i : Nat) : Bool := !(s.sparesTaken m).contains i && !(m == 9 && s.retired 9 (spareBase i))
  ((List.range (if m = 9 then 64 else 8)).find? free).getD 0xFF
/-- R497: an unspared unit where the lane can do no more than follow: the DRAM working region, the SRAM control region. [log
134 DEDUCED] -/
def unsparedControl (m base : Nat) : Bool :=
  (m == 9 && decide (0x0C000000 ≤ base ∧ base < 0x0F000000)) || (m == 5 && decide (base < 0x400000))
/-- R495: a remap runs with mirror mode set, in which writes to its unit go to the spare too, until its copy is done. -/
def Remap.mirror (r : Remap) : Bool := !r.copied
/-- R495: a word of a unit that is being copied reads uncorrectable: its copy is poisoned. -/
def Remap.poison (r : Remap) (m base word : Nat) : Remap :=
  if r.m = m ∧ r.base = base ∧ r.mirror ∧ !r.poisoned.contains word then { r with poisoned := r.poisoned ++ [word] } else r
/-- R494, R495, R497, R506: a unit is retired for a cause, once. A memory without spares is entered in the list only. [log 134
DEDUCED] -/
def State.retire (s : State) (m addr cause : Nat) : State :=
  let unit := retireUnit m
  let base := if unit = 0 then addr / 8 * 8 else addr / unit * unit
  let bad : List Nat := if cause = 1 then [addr / 8] else []
  if m = 10 then s
  else if s.retired m base then s.memMod fun x => { x with remaps := x.remaps.map fun r => bad.foldl (fun r w => r.poison m base w) r }
  else if unit = 0 then s.memMod fun x => { x with remaps := x.remaps ++ [{ m := m, base := base, cause := cause, spare := 0xFF, copied := true }] }
  else
    let spare := s.spareFree m
    let s := s.memMod fun x => { x with
      remaps := x.remaps ++ [{ m := m, base := base, cause := cause, spare := spare, copied := spare == 0xFF, poisoned := if spare = 0xFF then [] else bad }] }
    s.when (spare == 0xFF) (·.raise (memSrc m) Kind.SPARE_EXHAUSTED (if m = 9 then 1 else 2) (some (base : Int)))
/-- REMAP_COPY_DONE (R495, R112): the unit is copied to its spare, the remap switched and mirror mode ended; the poisoned
words stay so. -/
def runRemapCopyDone (m : Fin 11) (base : BitVec 32) (s : State) : Res :=
  let is (r : Remap) : Bool := r.m == m.val && r.base == base.toNat && r.mirror
  .next (s.memMod fun x => { x with
    poisoned := x.poisoned ++ (x.remaps.filter is).flatMap fun r => r.poisoned.map fun w => (m.val, w)
    remaps := x.remaps.map fun r => if is r then { r with copied := true } else r })
/-- R496: both copies of the retirement list are written, each with its CRC-32C. -/
def State.listsWrite (s : State) : State :=
  let rows := s.oct Obj.RETIRE_LIST
  s.memMod fun x => { x with lists := .replicate 2 (rows ++ le 4 (crc32c rows)) }
/-- R496: the rows in a copy whose CRC-32C holds. -/
def listRows (copy : List Byte) : Option (List Byte) :=
  let rows := copy.take (copy.length - 4)
  if 4 ≤ copy.length ∧ leNat (copy.drop (copy.length - 4)) = crc32c rows then some rows else none
/-- R491, R496: the retirement list is read: the first of the copies that read and hold their CRC-32C, from which the keeper
rewrites the other. -/
def State.listsRead (s : State) (readA readB : Bool) : Option State :=
  let copy (k : Nat) : Option (List Byte) := if (if k = 0 then readA else readB) then listRows (vget s.me.lists k) else none
  ((copy 0).or (copy 1)).map fun rows => (s.put Obj.RETIRE_LIST (.oct rows)).listsWrite
/-- R496: the list gains an entry, in both copies; the counters of R508 follow it. -/
def State.retireRow (s : State) (r : Remap) : State :=
  let row := le 1 0x52 ++ le 1 r.spare ++ le 1 r.cause ++ le 1 r.m ++ le 4 r.base
  let s := if (s.oct Obj.RETIRE_LIST).length < 2048 then (s.put Obj.RETIRE_LIST (.oct (s.oct Obj.RETIRE_LIST ++ row))).listsWrite else s
  if retireUnit r.m = 0 then s
  else if r.spare = 0xFF then s.countHold Obj.UNSPARED 255
  else if r.m = 9 then s.countHold Obj.DRAM_SPARES_USED 64 else s.countHold Obj.SRAM_SPARES_USED 8
/-- RETIREMENT_COMMIT (R495, step 4; R496, R497): the entry is committed to the list; PAGE_RETIRED is raised of a spared unit.
[log 143 DEDUCED] -/
def runRetirementCommit (m : Fin 11) (base : BitVec 32) (s : State) : Res :=
  match s.me.remaps.find? fun r => r.m == m.val && r.base == base.toNat && r.copied with
  | none => .next s
  | some r =>
    let s := (s.memMod fun x => { x with remaps := x.remaps.filter fun y => !(y.m == r.m && y.base == r.base) }).retireRow r
    .next (s.when (r.spare != 0xFF) (·.raise (memSrc r.m) Kind.PAGE_RETIRED (if r.m = 9 then 1 else 2) (some (r.base : Int))))

/-! ### The watch list (R494). -/

/-- The watch list changes; WATCH_COUNT follows it. -/
def State.watchPut (s : State) (l : List Watch) : State := (s.memMod fun x => { x with watch := l }).putN Obj.WATCH_COUNT l.length
/-- R494: a corrected error at an address: the third at one word within 86,400 s of operation retires its unit; a full list
replaces its oldest entry. [log 143 DEDUCED] -/
def State.watchTake (s : State) (m addr : Nat) : State :=
  let now := s.nat Obj.OPERATING_SECONDS
  let l := s.me.watch.filter fun w => decide (now ≤ w.since + 86400)
  let word := addr / 8
  match l.find? fun w => w.m == m && w.word == word with
  | none => s.watchPut ((if 512 ≤ l.length then l.drop 1 else l) ++ [⟨m, word, 1, now⟩])
  | some w =>
    if 2 ≤ w.count then (s.watchPut (l.filter fun x => !(x.m == m && x.word == word))).retire m addr 0
    else s.watchPut (l.map fun x => if x.m = m ∧ x.word = word then { x with count := x.count + 1 } else x)
/-- WATCH_ENTRY_AGE_OUT (R494): an entry older than 86,400 s of operation is dropped. -/
def runWatchEntryAgeOut (m : Fin 11) (word : BitVec 32) (s : State) : Res :=
  let now := s.nat Obj.OPERATING_SECONDS
  .next (s.watchPut (s.me.watch.filter fun w => !(w.m == m.val && w.word == word.toNat && decide (w.since + 86400 < now))))

/-! ### Errors (R487, R489–R491). -/

/-- R490: the 16 bytes of an error in ECC_LOG. -/
def State.eccBytes (s : State) (e : EccError) : List Byte :=
  le 1 e.access ++ le 1 e.m ++ le 2 e.logged ++ le 4 e.addr.toNat ++ le 8 s.stamp
/-- R490: an error enters the log of 256 and the fault log. -/
def State.eccLogged (s : State) (e : EccError) : State :=
  let b := s.eccBytes e
  let rows := rowsOf 16 (s.oct Obj.ECC_LOG) ++ [b]
  (s.put Obj.ECC_LOG (.oct (rows.drop (rows.length - 256)).flatten)).logAdd 6 false (logMsg (memSrc e.m) 0 0) b
/-- R487, R94: keep RAM is rewritten whole, as at power-on. -/
def State.keepRewrite (s : State) : State :=
  let inKeep (key : Nat) : Bool := match rowOf key with
    | some r => r.persist == .retained
    | none => false
  { s with dict := s.dict.filter fun e => !inKeep e.1, me.keepLost := true, pw.origin := s.pw.tick }
/-- R491: both flash copies of an entry have failed: a stored one returns to its default, a sealed one changes the set. [log
144 DEDUCED] -/
def State.flashLost (s : State) (key : Nat) : State :=
  match rowOf key with
  | none => s
  | some r =>
    if r.persist = .sealed then
      let set := Sparse.erase s.sealedSet key
      { s with sealedSet := set }.putN Obj.SIG_ACTIVE (signature fun k => Sparse.get defaultOf set k)
    else if r.persist = .stored then s.clear key
    else s
/-- R491: one flash copy of an entry fails: the other serves, and the keeper rewrites the failed one; until it has, the loss
of the second loses the entry. [log 261 DEDUCED] -/
def State.copyLost (s : State) (key : Nat) : State :=
  if s.me.oneCopy.contains key then (s.memMod fun x => { x with oneCopy := x.oneCopy.erase key }).flashLost key
  else s.memMod fun x => { x with oneCopy := x.oneCopy ++ [key] }
/-- R491, R505, R506: an uncorrectable DMA read halts its channel, and what that channel carries. [log 141, 142 DEDUCED] -/
def State.dmaHalt (s : State) (e : EccError) : State :=
  let s := s.dmaPut e.channel e.addr.toNat e.m 3 e.left.toNat
  match e.channel.val with
  | 1 => match s.rc.event with
    | some x => (s.putHeader x 2 0).eventEnd
    | none => s
  | 2 => s.recMod fun r => { r with cut := r.download.isSome }
  | _ => s
/-- R489: an uncorrectable error, by its access. [log 140, 141 DEDUCED] -/
def State.eccBad (s : State) (e : EccError) : State :=
  let m := e.m.val
  let detail : Option Int := some (e.addr.toNat : Int)
  match e.access.val with
  | 0 | 1 =>
    let kind := if e.access.val = 0 then Kind.ECC_UNCORR_FETCH else Kind.ECC_UNCORR_DATA
    if e.app then (s.raiseAs 2 (memSrc m) kind m detail).appRestart 1 else s.raiseAs 3 (memSrc m) kind m detail
  | 2 => { s with lp.bad := s.lp.bad ++ [e.cell.val] }.armDropAll.raiseAs 3 (memSrc m) Kind.ECC_UNCORR_DATA m detail
  | 3 => (s.dmaHalt e).raise (memSrc m) Kind.ECC_UNCORR_DMA m detail
  | _ => (s.dmaHalt { e with channel := 6 }).raise (memSrc m) Kind.ECC_UNCORR_DMA m detail
/-- R112, R113: are the words of a memory at an address initialised? Keep RAM and flash always hold check bits; the recorder
ring does as far as it is written. [log 212 DEDUCED] -/
def State.initialised (s : State) (m addr : Nat) : Bool :=
  let set (i : Nat) : Bool := s.bit Obj.INIT_STATUS i
  match m with
  | 0 => set 0
  | 5 => if addr < 0x400000 then set 2 && set 3 else set 6
  | 6 => set 1
  | 7 => set 7
  | 8 => true
  | 9 => if addr < 0x0C000000 then decide (addr < 128 * s.rc.total) else if addr < 0x0F000000 then set 5 else decide (addr < 0x0F040000)
  | 10 => true
  | _ => set 4
/-- R484, R486, R113: a read lies in its memory and, in DRAM, below the reserved range; the application firmware and the
scrubber read only what is initialised. -/
def State.mayRead (s : State) (e : EccError) : Bool :=
  decide (e.addr.toNat < if e.m.val = 9 then 0x0F040000 else memSize e.m) && (!(e.app || e.access.val == 4) || s.initialised e.m e.addr.toNat)
/-- R495: a read of a word whose copy was poisoned. -/
def State.poisons (s : State) (e : EccError) : Bool := s.me.poisoned.contains (e.m.val, e.addr.toNat / 8)
/-- R503: a page of an event slot fails to read. [log 259 DEDUCED] -/
def State.pageBad (s : State) (p : Fin 8 × Nat) : State :=
  s.recMod fun r => { r with badPage := vmod r.badPage p.1 fun b => some (min (b.getD p.2) p.2) }
/-- R490–R492, R494: a corrected error: counted; in flash a codeword that needed more than 24 corrections has its block
rewritten, elsewhere the word is watched. -/
def State.eccCorrected (s : State) (e : EccError) : State :=
  let m := e.m.val
  let s := (s.count (Obj.CORR_COUNT m) 32).memMod fun x => { x with corrected := vmod x.corrected m (· + 1) }
  if m = 10 then s.when (decide (24 < e.bits.toNat)) (·.emit (.refresh e.addr.toNat)) else s.watchTake m e.addr.toNat
/-- R489–R491, R494, R487: an uncorrectable error: by its access, with what it loses; its unit is retired. -/
def State.eccLost (s : State) (e : EccError) : State :=
  let m := e.m.val
  let s := (s.count (Obj.UNCORR_COUNT m) 32).eccBad e
  let s := s.when (m == 8) (·.keepRewrite)
  let s := (e.copy.toList.foldl State.copyLost (e.lost.toList.foldl State.flashLost s))
  (e.page.toList.foldl State.pageBad s).retire m e.addr.toNat 1
/-- R485, R489–R491, R494, R487, R113, R506: a read has found an error, or reads a poisoned word. -/
def State.eccTake (s : State) (e : EccError) : State :=
  if (!e.found && !s.poisons e) || !s.mayRead e then s
  else if e.corrected && !s.poisons e then (s.eccLogged e).eccCorrected e else (s.eccLogged e).eccLost e
/-- ECC_ERROR (R485, R489–R491, R494, R487, R113, R506): a read has found an error. -/
def runEccError (e : EccError) (s : State) : Res := .next (s.eccTake e)
/-- R491: the commit copier's read of the ring. -/
def copierRead (e : EccError) : EccError := { e with m := 9, access := 3, app := false, channel := 1 }
/-- COMMIT_PAGE_WRITE (R490, R501, R506): a page of 32 recorded rows is written; an error in its ring read is taken as every
other, and an uncorrectable one ends the event at the last good page. -/
def runCommitPageWrite (bad : Option EccError) (s : State) : Res :=
  .next (if s.rc.event.isNone then s else (bad.toList.foldl (fun s e => s.eccTake (copierRead e)) s).pageWrite)
/-- R490: ECC_CORR at a beat boundary, of every memory with corrected errors. -/
def State.eccBeat (s : State) : State :=
  s.each 11 fun s m =>
    let n := vget s.me.corrected m
    s.when (n != 0) fun s => (s.memMod fun x => { x with corrected := vset x.corrected m 0 }).raise (memSrc m) Kind.ECC_CORR m (some (n : Int))

/-! ### Scrubbing (R493) and DMA (R491). -/

/-- R113, R492: does the scrubber visit any of a memory: its first region that a start initialises? -/
def State.scrubs (s : State) (m : Nat) : Bool := s.initialised m (if m = 9 then 0x0C000000 else 0)
/-- SCRUB_LAP_END (R492, R493): a lap of memory m has ended after ms milliseconds. -/
def runScrubLapEnd (m : Fin 11) (ms : BitVec 32) (s : State) : Res :=
  if !s.scrubs m then .next s
  else
  let s := (s.putN (Obj.SCRUB_LAP_LAST m) ms.toNat).putN (Obj.SCRUB_LAP_WORST m) (max (s.nat (Obj.SCRUB_LAP_WORST m)) ms.toNat : Nat)
  .next (s.memMod fun x => { x with slow := vset x.slow m false })
/-- SCRUB_LAP_LIMIT_EXPIRY (R492, R493): a lap runs longer than its limit: SCRUB_SLOW, once. -/
def runScrubLapLimitExpiry (m : Fin 11) (s : State) : Res :=
  if vget s.me.slow m ∨ !s.scrubs m then .next s
  else
    let s := s.memMod fun x => { x with slow := vset x.slow m true }
    .next (s.raise (memSrc m) Kind.SCRUB_SLOW m (some (s.n (Obj.SCRUB_LAP_LIMIT m))))
/-- DMA_DESCRIPTOR_WRITE (R491): a channel's owner writes a descriptor; a count of 0 is done at once. [log 142 DEDUCED] -/
def runDmaDescriptorWrite (ch : Fin 16) (d : Descriptor) (s : State) : Res :=
  let n := 8 * d.words.toNat
  .next ((s.memMod fun x => { x with desc := vset x.desc ch (some d) }).dmaPut ch 0 0 (if n = 0 then 2 else 1) n)
/-- DMA_COMPLETE (R491): a running channel has moved its bytes. -/
def runDmaComplete (ch : Fin 16) (s : State) : Res := .next (if s.dmaState ch = 1 then s.dmaPut ch 0 0 2 0 else s)

end Sys2Proof.Machine
end

