-- ==== Sys2Proof/Machine/Start.lean ====
section
/-!
DEFINITION. Machine/Start.lean: supplies and pins that reset, the start sequence, image slots and recovery (R55, R60, R62,
R97–R113, R123, R149).
-/
namespace Sys2Proof.Machine

/-! ### Resets by supplies and pins (R55, R60, R62). -/

/-- R18, R60: the chaperone enters its own reset: arm signals, LEAD_OUT and EB_OUT drop, and what it held is lost. [log 117
DEDUCED] -/
def State.chaperoneReset (s : State) : State :=
  let s := { (s.supplyLow 4 true).armDropAll with ld.gaveUp := s.ld.gaveUp || s.ld.leading, ld.leading := false }.leadDown
  let own (key : Nat) : Bool := chapEntry key && (key < Obj.STRAP_HIGHEST || Obj.SUPPLY_FLAGS < key)
  { s with dict := s.dict.filter fun e => !own e.1
           ch := { peers := s.ch.peers, scan := s.ch.scan, mainReset := s.ch.mainReset, strapBad := s.ch.strapBad, clock := s.ch.clock
                   bank := s.ch.bank, staged := s.ch.staged }
           col := { s.col with chapHeld := [], seqs := s.col.seqs.filter fun e => e.1 != Src.chaperone } }
/-- CHAPERONE_RESET (R18, R60): VCH has left the chaperone's band. -/
def runChaperoneReset (s : State) : Res := .next s.chaperoneReset
/-- CHAPERONE_RESET_RELEASE (R60, R64, R66, R99): VCH has been in band for its filter time: a running main die is reset, and
the straps are sampled. [log 128 DEDUCED] -/
def runChaperoneResetRelease (first again : StrapReads) (tick : Nat) (s : State) : Res :=
  if s.ch.inReset then
    let s := { (s.supplyLow 4 false).supplyLow 5 false with ch.inReset := false }
    let s := if s.mainAlive ∧ !s.ch.mainReset then s.resetTo 3 tick else s
    .next ((s.aonTo tick).strapsTake first again)
  else .next s
/-- SUPPLY_UNDERVOLTAGE (R60–R62): a supply falls below its under-voltage level, or below the level of its hardware action. -/
def runSupplyUndervoltage (k : Fin 5) (action : Bool) (tick : Nat) (s : State) : Res :=
  let s := s.underVoltage k
  if !action then .next s
  else if k.val = 0 then .next (s.brownOut tick)
  else if k.val = 4 then .next s.chaperoneReset
  else .next (s.actionLow k)
/-- SUPPLY_RECOVERY (R60–R62, R275): a supply recovers from its under-voltage level (0), its over-voltage level (1) or the level
of its hardware action (2); the chaperone leaves its reset by CHAPERONE_RESET_RELEASE. -/
def runSupplyRecovery (k : Fin 5) (level : Fin 3) (s : State) : Res :=
  if level.val = 0 then .next (s.putBit Obj.SUPPLY_FLAGS k false)
  else if level.val = 1 then
    let s := s.putBit Obj.SUPPLY_FLAGS (8 + k) false
    .next (if k.val = 2 then s.dumpJudge false else s)
  else if k.val = 4 then .next s
  else .next (((s.supplyLow k false).when (k.val == 3) (·.vsResume)).when (k.val == 0 || k.val == 2) (·.each 6 State.waltzAxis))
/-- BROWN_OUT (R60, R97). -/
def runBrownOut (tick : Nat) (s : State) : Res := .next (s.brownOut tick)
/-- PIN_RESET (R55, R97): RST_N was low for a time in ns; between 2 µs and 10 µs it may be recognised. [log 156 DESIGN CHOICE]
-/
def runPinReset (width : Nat) (taken : Bool) (tick : Nat) (s : State) : Res :=
  if (10000 ≤ width ∨ (2000 ≤ width ∧ taken)) ∧ s.mainAlive then .next (s.resetTo 2 tick) else .next s
/-- POWER_ON (R97, R64, R114): PD_AON is powered after VBAT and VKA were both absent: keep RAM is lost. A chaperone in its own
reset samples the straps when it leaves it. [log 139 DEDUCED] -/
def runPowerOn (first again : StrapReads) (s : State) : Res :=
  let s := s.resetTo 0 0
  let s := { s with pw := { key := s.pw.key, holdNet := s.pw.holdNet } }
  .next (s.strapsAtStart first again (4 ≤ s.chapState))
/-- APP_PARTITION_RESTART (R21–R23): 0 access outside its partitions, 1 uncorrectable error, 2 lockstep mismatch, 3 missed
heartbeat, 4 keeper decision. -/
def runAppPartitionRestart (cause : Fin 5) (s : State) : Res := .next (s.appRestart cause)
/-- APP_RESTART_COMPLETE (R22, R503): the application firmware runs again; the lane rejoins as a follow by dance-card
recovery. -/
def runAppRestartComplete (s : State) : Res :=
  .next (if s.ld.restarting then { s with ld.restarting := false }.azInit.recResume else s)
/-- KEEPER_FAULT (R24): an uncorrectable error in keeper code or data, or a lockstep mismatch: the lane is fail-silent. -/
def runKeeperFault (s : State) : Res := .next (s.criticalReaction Src.keeper 0 0)

/-! ### Image slots (R108–R111). -/

/-- The state and the version entries of a slot. -/
def slotStateKey (k : Nat) : Nat := if k = 0 then Obj.SLOT_A_STATE else Obj.SLOT_B_STATE
def slotVersionKey (k : Nat) : Nat := if k = 0 then Obj.SLOT_A_VERSION else Obj.SLOT_B_VERSION
def slotSecKey (k : Nat) : Nat := if k = 0 then Obj.SLOT_A_SECVER else Obj.SLOT_B_SECVER
/-- The state of a slot: 0 empty, 1 loaded, 2 trial, 3 confirmed, 4 invalid. -/
def State.slotState (s : State) (k : Nat) : Nat := s.nat (slotStateKey k)
/-- R108: an image whose security version is below FUSE_SECVER fails verification. -/
def State.secverOk (s : State) (k : Nat) : Bool := decide (s.nat Obj.FUSE_SECVER ≤ s.nat (slotSecKey k))
/-- R109: the order in which the start ROM tries the slots: the preferred one first, an invalid one last, an empty one never. -/
def State.slotOrder (s : State) : List Nat :=
  let p := s.nat Obj.SLOT_PREFERRED % 2
  let l := [p, 1 - p].filter fun k => s.slotState k != 0
  l.filter (fun k => s.slotState k != 4) ++ l.filter fun k => s.slotState k == 4
/-- R111: after three trial starts in a row that did not reach step 8, the confirmed slot is preferred again. [log 147
DEDUCED] -/
def State.trialRevert (s : State) : State :=
  if s.st.trialFails < 3 then s
  else
    let s := { s with st.trialFails := 0 }
    match [0, 1].find? fun k => s.slotState k == 3 with
    | some k => s.putN Obj.SLOT_PREFERRED k
    | none => s
/-- R111: a start from a slot counts while that slot is in trial. [log 147 DEDUCED] -/
def State.trialCount (s : State) (k : Nat) : State :=
  if s.slotState k = 2 then { s.countHold Obj.TRIAL_STARTS 255 with st.trialFails := s.st.trialFails + 1 }
  else { s.putN Obj.TRIAL_STARTS 0 with st.trialFails := 0 }
/-- R111: SLOT_PREFERRED is written: a loaded slot enters trial. [log 135 DEDUCED] -/
def State.slotPrefer (s : State) (k : Nat) : State :=
  let s := s.putStored Obj.SLOT_PREFERRED (.nat k)
  if s.slotState k = 1 then s.putStored (slotStateKey k) (.nat 2) else s
/-- R111, R108: SLOT_CONFIRM is written: the running trial slot is confirmed and FUSE_SECVER advances to its security version.
Of a slot not in trial the keeper refuses it (R20). [log 207 DESIGN CHOICE] -/
def State.slotConfirm (s : State) : Except AbortCode State :=
  let k := s.nat Obj.SLOT_ACTIVE
  if s.slotState k = 2 then
    .ok ((s.putStored (slotStateKey k) (.nat 3)).putN Obj.FUSE_SECVER (max (s.nat Obj.FUSE_SECVER) (min 64 (s.nat (slotSecKey k))) : Nat))
  else .error 0x06060001
/-- STORED_WRITE_COMMIT (R115, R491): an entry's pending write has reached flash, in both its copies. -/
def runStoredWriteCommit (key : BitVec 24) (s : State) : Res :=
  .next ((s.commit key.toNat).memMod fun x => { x with oneCopy := x.oneCopy.erase key.toNat })
/-- BACKGROUND_INIT_DONE (R112): the shared SRAM remainder and trace SRAM are written. -/
def runBackgroundInitDone (s : State) : Res :=
  .next (if s.nat Obj.INIT_STATUS % 64 = 63 then (s.putBit Obj.INIT_STATUS 6 true).putBit Obj.INIT_STATUS 7 true else s)

/-! ### The table of cells (R239, R240). -/

/-- R28: the nominal tick in seconds. -/
def nominalTick (get : Nat → Val) : Rat := (getNat get Obj.BEAT_LENGTH : Rat) / (1000000 * getNat get Obj.TICKS_PER_BEAT)
/-- R240: a cell keeps its sealed row in basic mode. -/
def rowKept (get : Nat → Val) (n : Nat) : Bool := getNat get Obj.LOOP_ALLOC_MODE != 0 || 192 ≤ n || getNat get (Obj.CELL_OVERRIDE n) != 0
/-- R239, R240: the rows of the table that a start builds, read through `get`. -/
def tableRows (get : Nat → Val) : List CellRow :=
  let built := (List.range 6).flatMap (axisRows get (nominalTick get)) ++ (List.range 4).flatMap (stepperRows get) ++
    (List.range 16).flatMap (solenoidRows get)
  (List.range 256).map fun n => if rowKept get n then rowFrom get n else built.getD n {}

/-! ### Quick or full (R101, R102). -/

/-- The verdict of a phase of the self-test record, and the source ID of its first failing block (R124). -/
def State.sstVerdict (s : State) (p : Nat) : Nat := leNat ((s.oct (Obj.SST_PHASE (p - 1))).take 1)
def State.sstSource (s : State) (p : Nat) : Nat := leNat (((s.oct (Obj.SST_PHASE (p - 1))).drop 6).take 2)
/-- The first failing phase of the record. -/
def State.sstFirstFail (s : State) : Nat := (([1, 2, 3, 4, 5, 6].find? fun p => s.sstVerdict p == 2)).getD 0
/-- R102: the record's age is unknown, or 7 days or more. -/
def State.sstOld (s : State) : Bool :=
  s.nat Obj.SST_KEEP_EPOCH != s.nat Obj.KEEP_EPOCH || decide (604800 ≤ (s.nat Obj.AON_SECONDS + 2 ^ 32 - s.nat Obj.SST_AON_SECONDS) % 2 ^ 32)
/-- R101: FULL_START_REASON of a start of a kind from a slot. [log 138 DEDUCED] -/
def State.fullReason (s : State) (kind slot : Nat) (record : Bool) : Nat :=
  b2n (kind == 0 || s.me.keepLost) + 2 * b2n (s.nat Obj.SST_STATUS == 0 || !record) + 4 * b2n (s.nat Obj.SST_STATUS == 3) +
    8 * b2n (s.nat Obj.SST_STATUS == 2) + 16 * b2n s.sstOld + 32 * b2n (kind == 3) +
    64 * b2n (slot != s.st.sstSlot || s.slotState slot == 2) + 128 * b2n (s.on Obj.FORCE_FULL)

/-! ### The steps of a start (R103–R107). -/

/-- The outcome of a step: the start goes on, or it has ended. -/
inductive Step where
  | go (s : State)
  | stop (s : State)
/-- The next steps, while the start goes on. -/
def Step.andThen (x : Step) (f : State → Step) : Step :=
  match x with
  | .go s => f s
  | .stop s => .stop s
/-- The state a start has reached. -/
def Step.state : Step → State
  | .go s => s
  | .stop s => s

/-- R105, R107, R123: the lane completes its start as a follow with health score 0 that does not take lead. -/
def State.startFollow (s : State) : State := { s with st.noLead := true, st.scoreZero := true }
/-- R107: a step that makes the lane fail-silent. [log 148 DEDUCED] -/
def State.startFail (s : State) (src kind qual : Nat) : Step := .stop (s.criticalReaction src kind qual)

/-- R103, step 1, R81, R102, R469: domains up, linger vote taken; at a start of kind 0 the epoch advances. [log 138, 163
DEDUCED] -/
def State.startOne (s : State) (kind : Nat) : State :=
  let s := { s with st := { s.st with due := none, began := s.clk.now, noLead := s.st.barred, scoreZero := s.st.barred, presented := false, loader := false, wakeStart := kind == 6 || kind == 7 }
                    pw := { s.pw with waking := false, linger := true, mainUp := true }, ch.mainReset := false, th.shut := false }
  let s := if kind = 0 then
    { (s.count Obj.KEEP_EPOCH 32).putN Obj.AON_SECONDS 0 with pw.origin := s.pw.tick, me.keepLost := true } else s
  ((s.putN Obj.DOMAIN_STATUS 7).waltzDomains.putN Obj.STREAM_STATE (b2n (s.on Obj.STREAM_ENABLE))).putN Obj.START_STEP 1
/-- R101: the record's faults. -/
def State.reasonFaults (s : State) (r : Nat) : State :=
  let s := s.when (r.testBit 2) (·.raise Src.selfTest Kind.SST_INCOMPLETE 0)
  let s := s.when (r.testBit 3) fun s => s.raise Src.selfTest Kind.SST_FAIL s.sstFirstFail
  s.when (r.testBit 4) (·.raise Src.selfTest Kind.SST_STALE 0)
/-- R103, step 2, R101, R105, R108–R111: quick or full, by the slot that was active before; in a full start the keeper pair's
test; then the slot whose keeper image verifies, and with none the recovery loader. [log 138 DEDUCED] -/
def State.startTwo (s : State) (kind : Nat) (x : StartInput) : Step :=
  let s := s.trialRevert
  let r := s.fullReason kind s.st.slotRan x.record
  let s := ((s.putN Obj.FULL_START_REASON r).putN Obj.LAST_START_KIND (if r = 0 then 0 else 1)).putN Obj.FORCE_FULL 0
  let s := { s.reasonFaults r with me.keepLost := false }
  if r ≠ 0 ∧ !x.keeperTest then (s.raise Src.selfTest Kind.SST_FAIL 7).startFail Src.selfTest Kind.SST_FAIL 7
  else match s.slotOrder.find? fun k => s.secverOk k && (if k = 0 then x.keeperA else x.keeperB) with
  | none =>
    let s := { s.putN Obj.LAST_START_KIND 2 with st.loader := true }.raise Src.keeper Kind.IMAGE_VERIFY_FAIL 0
    s.startFail Src.keeper Kind.IMAGE_VERIFY_FAIL 0
  | some k =>
    let s := { (s.trialCount k).putN Obj.SLOT_ACTIVE k with st.slotRan := k }
    .go ((s.putN Obj.INIT_STATUS 1).putN Obj.START_STEP 2)
/-- R488: the memory of each checker. -/
def checkerMem (i : Nat) : Nat := [0, 1, 2, 3, 4, 5, 5, 5, 5, 6, 7, 8, 9, 10].getD i 0
/-- R103, step 3, R488, R517: the checker test; then the chaperone delivers what it held. -/
def State.startThree (s : State) (x : StartInput) : Step :=
  let s := s.putN Obj.CHECKER_RESULT x.checkers.toNat
  match (List.range 14).find? fun i => !x.checkers.toNat.testBit i with
  | some i =>
    let m := checkerMem i
    (s.raise (memSrc m) Kind.ECC_CHECKER_FAIL m (some (x.miss.toNat : Int))).startFail (memSrc m) Kind.ECC_CHECKER_FAIL m
  | none => .go (s.heldDeliver.putN Obj.START_STEP 3)
/-- R122, R496: a unit that the shutdown self-test found is retired at once. -/
def State.retireNow (s : State) (m base : Nat) : State :=
  let s := s.retire m base 2
  match s.me.remaps.getLast? with
  | none => s
  | some r =>
    let s := (s.memMod fun x => { x with remaps := [] }).retireRow r
    s.when (r.spare != 0xFF) (·.raise (memSrc r.m) Kind.PAGE_RETIRED (if r.m = 9 then 1 else 2) (some (r.base : Int)))
/-- R103, step 4, R107, R122, R494, R497: the retirement list and what it makes of the lane. -/
def State.startFour (s : State) (x : StartInput) : Step :=
  match s.listsRead x.listA x.listB with
  | none => (s.raiseAs 3 Src.flash Kind.ECC_UNCORR_DATA 10).startFail Src.flash Kind.ECC_UNCORR_DATA 10
  | some s =>
    let s := s.st.found.foldl (fun s u => s.retireNow u.1 u.2) s
    let s := { s with st.found := [] }
    let rows := retireRows (s.oct Obj.RETIRE_LIST)
    match rows.find? fun r => retireUnit r.2.1 == 0 with
    | some r =>
      let m := r.2.1
      (s.raiseAs 3 (memSrc m) Kind.ECC_UNCORR_DATA m (some (r.1 : Int))).startFail (memSrc m) Kind.ECC_UNCORR_DATA m
    | none =>
      let s := s.when (rows.any fun r => r.2.2.2 == 0xFF && unsparedControl r.2.1 r.1) (·.startFollow)
      .go (s.putN Obj.START_STEP 4)
/-- R105: in a full start the application pairs and the loop engine are tested. -/
def State.startTests (s : State) (x : StartInput) : State :=
  if s.nat Obj.FULL_START_REASON ≠ 0 ∧ (!x.appTest ∨ !x.loopTest) then s.startFollow.raise Src.selfTest Kind.SST_FAIL 7 else s
/-- R149, R150, R389: SIG_STATE and SIG_ACTIVE in seal mode, and as stored outside it. -/
def State.sealShow (s : State) : State :=
  if s.sealMode then
    let s := if s.nat Obj.SIG_STATE = 4 then s else { s with st.sigBefore := (s.nat Obj.SIG_STATE, s.nat Obj.SIG_ACTIVE) }
    ((s.putN Obj.SIG_STATE 4).putN Obj.SIG_ACTIVE (signature (profileGet s.profileNo))).putN Obj.SEAL_PROFILE_USED s.profileNo
  else if s.nat Obj.SIG_STATE = 4 then (s.putN Obj.SIG_STATE s.st.sigBefore.1).putN Obj.SIG_ACTIVE s.st.sigBefore.2
  else s
/-- R28, R227, R239: ticks and cells of the set the start runs with. -/
def State.startLoop (s : State) : State :=
  let beat := s.nat Obj.BEAT_LENGTH
  let ticks := s.nat Obj.TICKS_PER_BEAT
  let basic : Bool := s.nat Obj.LOOP_ALLOC_MODE == 0
  let s := s.loadTable (tableRows s.get) fun n => basic && s.on (Obj.CELL_OVERRIDE n)
  let s := (s.putN Obj.TICK_BASE (tickBase beat ticks)).putN Obj.TICK_LONG_COUNT (tickLong beat ticks)
  { s.axesInit with nodes := [], nodeWrites := [], clk := { s.clk with running := true, ticks := 0, lens := [], tickLen := tickBase beat ticks } }
/-- R138: the lockout of a number of failures in a row, in 10 ns counts. -/
def lockoutOf (fails : Nat) : Nat := if fails < 3 then 0 else min 1280 (10 * 2 ^ (fails - 3)) * 100000000
/-- R387, R389: the CRC-32C of the chaperone at step 8: over the profile in seal mode, else over the staged bank where
SIG_STAGED is presented and over the active bank where not; an array that no longer reads as written gives another. -/
def State.bankCrc (s : State) (found : Option Word) : Nat :=
  match found with
  | some w => w.toNat
  | none =>
    if s.sealMode then signature (profileGet s.profileNo)
    else signature (Sparse.get defaultOf (if s.nat Obj.SIG_STATE = 2 then s.ch.staged else s.ch.bank))
/-- R103, step 5, R109, R112, R138, R275, R503: memories, images, the sealed set, cells, and the application firmware. [log
146 DEDUCED] -/
def State.startFive (s : State) (x : StartInput) : Step :=
  let s := s.startTests x
  if !x.app then .stop ((s.putN (slotStateKey (s.nat Obj.SLOT_ACTIVE)) 4).keeperReset s.pw.tick)
  else
    let s := if s.sealMode ∧ !x.profile then s.chapFail Kind.CHAP_CONFIG_SIG 3 (some (s.bankCrc x.bank : Int)) else s
    let s := ((s.sealShow.loadSealed).startLoop.azInit.schedShow).recPartial
    let s := { s with se.lockout := lockoutOf (s.nat Obj.AUTH_FAILS) }.linkJudge
    .go ((s.putN Obj.INIT_STATUS 0x3F).putN Obj.START_STEP 5)
/-- R123: failed phases of the record are repeated; a failed chaperone scan is not. A failure bars the lane from lead until a
shutdown self-test passes. -/
def State.startRepeats (s : State) (x : StartInput) : State :=
  if !s.bit Obj.FULL_START_REASON 3 then s
  else
    let bad := (s.sstVerdict 1 == 2 && !x.repeat1) || (s.sstVerdict 2 == 2 && !(x.repeat2 && (x.standstill || !s.hasSpeedSource) && s.axesAtRest)) || (s.sstVerdict 5 == 2 && !x.repeat5) ||
      (s.sstVerdict 6 == 2 && s.sstSource 6 == Src.chaperone)
    s.when bad fun s => { s.startFollow with st.barred := true }
/-- R103, step 6, R173, R174: PD_POWER voted, and calibration. [log 121 DEDUCED; log 263 DESIGN CHOICE] -/
def State.startSix (s : State) (x : StartInput) : State :=
  let s := { ((s.putN (Obj.VOTE_MASK 0) 8).putN Obj.DOMAIN_STATUS 15).calBegin with pw.recal := false, pw.recalDue := false }
  let r := s.calEnd x.cal1
  (if r.2 then r.1 else (r.1.calEnd x.cal2).1).putN Obj.START_STEP 6
/-- The references a lane selects, by code. -/
def State.refsUsed (s : State) : List Nat :=
  [0, 1, 4, 5, 6, 7].filter fun c =>
    s.nat Obj.IC_REF == c || s.nat Obj.SC_REF == c || (List.range 4).any fun g => (s.gcTable g).any fun row => scanRef row == c
/-- R103, step 7, R107, R171, R180: supplies on, references settled; one that has not settled keeps the lane from lead. [log
149 DEDUCED] -/
def State.startSeven (s : State) (x : StartInput) : State :=
  let s := s.supEnable
  let s := [0, 1, 4, 5, 6, 7].foldl (fun s c =>
    s.putBit Obj.REF_STATUS (refBit c) (x.refs.toNat.testBit (refBit c) && (c < 4 || (vget s.ms.sup (c - 4)).on))) s
  let s := s.refsUsed.foldl (fun s c => if s.refSettled c then s else { s.refFail c with st.noLead := true }) s
  s.putN Obj.START_STEP 7
/-- R149: the signature presented at step 8. -/
def State.presented (s : State) : Nat := s.nat (if s.nat Obj.SIG_STATE = 2 then Obj.SIG_STAGED else Obj.SIG_ACTIVE)
/-- R149, R387: a confirmed set becomes the active one, and the chaperone's banks swap. -/
def State.promote (s : State) : State :=
  if s.nat Obj.SIG_STATE = 2 then
    { (s.putN Obj.SIG_ACTIVE (s.n Obj.SIG_STAGED)).putN Obj.SIG_STATE 1 with
      sealedSet := s.confirmed, confirmed := [], ch.bank := s.ch.staged, ch.staged := s.ch.bank }
  else s
/-- R103, step 8, R107, R149, R387, R376, R381: the chaperone compares the signature presented with its own CRC; only START
leads to RUNNING, where a DOZE exit finds the chaperone already. [log 190, 252 DEDUCED] -/
def State.startEight (s : State) (x : StartInput) : State :=
  let s := { s with st.presented := true }
  if s.nat Obj.SIG_STATE = 0 then { s.putN Obj.START_STEP 8 with st.trialFails := 0 }
  else if s.chapState = 0 then s
  else if s.bankCrc x.bank = s.presented then
    let runs : Bool := s.chapState == 1 || s.chapState == 2
    let crc := s.bankCrc x.bank
    let s := ((s.promote.when runs (·.putN Obj.CHAP_STATE 2)).putN Obj.CHAP_SIG crc).putN Obj.START_STEP 8
    { s with st.trialFails := 0, ch.wdg := runs, ch.judged := true }
  else
    let s := s.chapFail Kind.CHAP_CONFIG_SIG 1 (some (s.bankCrc x.bank : Int))
    (s.raise Src.keeper Kind.PARAM_SIG_MISMATCH 1).criticalReaction Src.keeper Kind.PARAM_SIG_MISMATCH 1
/-- R149: a staged set that step 8 has not made active leaves the lane with its active one. [log 206 DEDUCED] -/
def State.unpromoted (s : State) : State :=
  if s.nat Obj.SIG_STATE = 2 then (s.loadFrom s.sealedSet).startLoop.azInit.schedShow else s
/-- The start sequence from its trigger to step 8. [log 136 DESIGN CHOICE] -/
def State.startRun (s : State) (kind : Nat) (x : StartInput) : State :=
  ((((s.startOne kind).startTwo kind x).andThen fun s => s.startThree x).andThen fun s => (s.startFour x).andThen fun s =>
    (s.startFive x).andThen fun s => .go ((((s.startRepeats x).startSix x).startSeven x).startEight x).unpromoted).state
/-- R103: the conditions of a start's trigger: its reset is released, VBAT is present, and valid straps have been handed over.
[log 132, 251 DEDUCED] -/
def State.startReady (s : State) : Option Nat :=
  if s.supplyPresent 0 ∧ s.pw.sleep = 0 ∧ !s.pw.vbatWait ∧ !s.ch.strapBad ∧ s.nat Obj.STRAP_WORD ≠ 0 then s.st.due else none
/-- START_SEQUENCE (R101–R113, R123, R149): the start that is due runs from its trigger to step 8; steps 9 to 12 follow with the
time, the card and the line test. [log 136 DESIGN CHOICE] -/
def runStartSequence (x : StartInput) (s : State) : Res :=
  match s.startReady with
  | none => .next s
  | some kind =>
    let t := s.startRun kind x
    .next ({ t with clk.now := t.clk.now + 100 * x.micros }.elapse (100 * x.micros))

/-! ### Supervision, recovery and the end of a start (R99, R103). -/

/-- START_SUPERVISION_TIMEOUT (R99): the main die has not presented the signature within START_LIMIT of its release. [log 129
DEDUCED] -/
def runStartSupervisionTimeout (tick : Nat) (s : State) : Res :=
  if !s.st.presented ∧ s.nat Obj.START_STEP < 8 ∧ !s.st.loader ∧ (s.chapState = 1 ∨ s.chapState = 3) ∧ s.mainAlive then .next (s.resetTo 3 tick) else .next s
/-- R99: kinds whose fail-silence no reset recovers. -/
def neverRecovered : List Nat := [Kind.STRAP_PARITY, Kind.CHAP_CONFIG_SIG, Kind.PARAM_SIG_MISMATCH, Kind.IMAGE_VERIFY_FAIL, Kind.LAST_WALTZ]
/-- RECOVERY_DELAY_EXPIRY (R99): the lane has been fail-silent for RECOVERY_DELAY. -/
def runRecoveryDelayExpiry (tick : Nat) (s : State) : Res :=
  let lasting : Bool := match s.col.silentBy with
    | some k => neverRecovered.contains k
    | none => false
  if s.col.failSilent ∧ s.on Obj.RECOVERY_ENABLE ∧ s.nat Obj.RECOVERY_COUNT < s.nat Obj.RECOVERY_LIMIT ∧ !lasting then
    .next ((s.count Obj.RECOVERY_COUNT 8).resetTo 3 tick)
  else .next s
/-- CARD_HANDOVER_EDGE (R361, R355, R103, R525, R84): card mode ends; where this completes the start, its duration is known, the
start marker enters the log, and the transition out of DOZE or PARKED is committed. [log 73 DEDUCED] -/
def runCardHandoverEdge (s : State) : Res :=
  let t := s.cardHandover
  if s.nat Obj.START_STEP < 12 ∧ t.nat Obj.START_STEP = 12 then
    let t := t.putN Obj.START_DURATION ((((t.clk.now : Int) - t.st.began).toNat / 100) % 2 ^ 32 : Nat)
    let t := (t.logAdd 4 false (logMsg Src.keeper 0 (t.nat Obj.FULL_START_REASON))).when t.st.wakeStart (·.count Obj.TRANSITIONS 32)
    .next { t with st.wakeStart := false }
  else .next t

end Sys2Proof.Machine
end

