-- ==== Sys2Proof/Machine/Power.lean ====
section
/-!
DEFINITION. Machine/Power.lean: power states, votes, wake, and the shutdown self-test (R71–R95, R117–R124).
-/
namespace Sys2Proof.Machine

/-- Change the power controller. -/
def State.pwMod (s : State) (f : Power → Power) : State := { s with pw := f s.pw }
/-- R71, R75: is a domain up: 0 PD_MAIN, 1 PD_MEAS, 2 PD_DRAM, 3 PD_POWER? -/
def State.domainUp (s : State) (d : Nat) : Bool := s.bit Obj.DOMAIN_STATUS d
/-- R77, R397: the domains wanted: the closed votes, and in the last waltz those the chaperone holds up. [log 153 DEDUCED] -/
def State.wanted (s : State) : Nat := if s.chapState = 4 then s.votes ||| 11 else s.votes
/-- R84: a transition has reached its commit point. -/
def State.transition (s : State) : State := s.count Obj.TRANSITIONS 32
/-- The lane is neither asleep nor on its way there. -/
def State.awake (s : State) : Bool := s.pw.sleep == 0 && s.pw.entry == 0

/-! ### The shutdown self-test (R117–R124). -/

/-- R177: positions of the five linearity points, in 1/1,000 of full scale: IC, then SC and GC. -/
def linPoints (c : Nat) : List Int := if c < 18 then [-750, -375, 0, 375, 750] else [0, 250, 500, 750, 900]
/-- R177: a converter's corrected results at its five points stray from the straight line through the end points by more than
0.02 % of full scale; so does a converter without five results. -/
def linFails (c : Nat) (ys : List Int) : Bool :=
  match linPoints c, ys with
  | [x0, x1, x2, x3, x4], [y0, y1, y2, y3, y4] =>
    [(x1, y1), (x2, y2), (x3, y3)].any fun p =>
      decide ((x4 - x0) * 8388608 < 5000 * (((p.2 - y0) * (x4 - x0) - (y4 - y0) * (p.1 - x0)).natAbs : Int))
  | _, _ => true
/-- R118, R177: the converters that fail phase 1. -/
def linFailed (lin : List (List Int)) : Nat := ((List.range 38).filter fun c => linFails c (lin.getD c [])).length
/-- R118: a phase's result with the coverage phase 1 measures. -/
def sstCounted (r : SstResult) (phase : Nat) : SstResult :=
  if phase = 1 then { r with covA := .ofNat 8 ((r.lin.map List.length).foldl min 5), covB := .ofNat 8 (linFailed r.lin) } else r
/-- R71, R118: the domains that a phase of the test holds up beside PD_MAIN: the converters' for phase 1, the stages' too for
phase 2; a phase begins. [log 202 DEDUCED] -/
def State.phaseBegin (s : State) (p : Nat) : State :=
  let s := { s with st := { s.st with phase := p, phaseTime := 0, restTwo := if p = 2 then decide (100000000 ≤ s.pw.rest) else s.st.restTwo } }
  (s.putBit Obj.DOMAIN_STATUS 1 (p == 1 || p == 2)).putBit Obj.DOMAIN_STATUS 3 (p == 2)
/-- The entries of the self-test record. -/
def recordKeys : List Nat :=
  [Obj.SST_STATUS, Obj.SST_KEEP_EPOCH, Obj.SST_AON_SECONDS, Obj.SST_GLOBAL_TIME, Obj.SST_COUNT] ++ (List.range 6).map Obj.SST_PHASE
/-- R121, R102: the record is opened as incomplete and phase 1 runs. [log 150 DEDUCED] -/
def State.recordOpen (s : State) : State :=
  let s := { s with st := { s.st with recordBefore := recordKeys.map fun k => (k, s.get k), slotBefore := s.st.sstSlot
                                      sstSlot := s.nat Obj.SLOT_ACTIVE, tested := true } }.phaseBegin 1
  let s := ((s.putN Obj.SST_STATUS 3).putN Obj.SST_KEEP_EPOCH (s.n Obj.KEEP_EPOCH)).putN Obj.SST_AON_SECONDS (s.n Obj.AON_SECONDS)
  let s := (s.putN Obj.SST_GLOBAL_TIME s.stamp).count Obj.SST_COUNT 32
  s.each 6 fun s p => s.clear (Obj.SST_PHASE p)
/-- The record, and PD_MEAS, as they stood before the entry: it ended before its step 3. [log 150 DEDUCED] -/
def State.recordRestore (s : State) : State :=
  let s := (s.st.recordBefore.foldl (fun (s : State) e => s.put e.1 e.2) s).phaseBegin 0
  { s with st := { s.st with sstSlot := s.st.slotBefore, phase := 0, tested := false, recordBefore := [] } }
/-- R124: a phase entry of the record. -/
def State.phaseEntry (s : State) (verdict : Nat) (r : SstResult) : List Byte :=
  le 1 verdict ++ le 1 r.covA.toNat ++ le 1 r.covB.toNat ++ le 1 r.temp.toNat ++ le 2 r.ms.toNat ++ le 2 r.src.toNat ++ le 8 s.stamp
/-- R118, R119, R177: does a phase reach its coverage, points or outputs tested and none failed, addresses or logic in 0.5 %
steps? [log 133 DEDUCED] -/
def coverageOk (phase : Nat) (r : SstResult) : Bool :=
  if phase = 1 then r.covA.toNat == 5 && r.covB.toNat == 0
  else if phase = 2 then r.covA.toNat == 56 && r.covB.toNat == 0
  else if phase = 5 then decide (200 ≤ r.covA.toNat) && r.covB.toNat == 0
  else decide (192 ≤ r.covA.toNat ∧ 170 ≤ r.covB.toNat)
/-- R121: SST_STATUS of a finished record. [log 151 DEDUCED] -/
def State.recordVerdict (s : State) : Nat :=
  let l := [1, 2, 3, 4, 5, 6].map s.sstVerdict
  if l.any (· == 2) then 2 else if l.all (· == 1) then 1 else 3
/-- SST_PHASE_END (R118–R122): a phase of the test ends and its entry is written; before the sixth LEAD_OUT
is low and the watchdog pauses (R120, R381), and after it the keeper writes the status and the fault log. [log 133 DEDUCED] -/
def runSstPhaseEnd (r : SstResult) (s : State) : Res :=
  let p := s.st.phase
  if s.pw.entry = 2 ∧ p ≠ 0 then
    let r := sstCounted r p
    let skip : Bool := p == 2 && !s.st.restTwo
    let verdict : Nat := if skip then 3 else if r.passed && coverageOk p r then 1 else 2
    let s := s.put (Obj.SST_PHASE (p - 1)) (.oct (s.phaseEntry verdict r))
    let s := if p = 5 then { s.takeAbandon.leadDown with ch.wdg := false } else s
    let s := { s with st.found := if p = 5 then s.st.found ++ r.units.map (fun (u : Fin 11 × BitVec 32) => (u.1.val, u.2.toNat)) else s.st.found }
    let s := ({ s with ch.scanTest := p == 5 }.phaseBegin (if p = 6 then 0 else p + 1)).ebUpdate
    .next (if p = 6 then
      let s := s.putN Obj.SST_STATUS s.recordVerdict
      { s with st := { s.st with barred := s.st.barred && s.recordVerdict != 1 } }.logCommit
    else s)
  else .next s
/-- R87, R124: a wake stops the test: the running phase's entry reads stopped, with the time it ran and the main die's
temperature, and the record stays incomplete. [log 133 DEDUCED] -/
def State.testStop (s : State) : State :=
  let temp : Byte := .ofInt 8 (s.n Obj.TJ_MAIN)
  let ran : BitVec 16 := .ofNat 16 (s.st.phaseTime / 100000)
  let stopped : List Byte := s.phaseEntry 4 { passed := false, covA := 0, covB := 0, src := 0xFFFF, ms := ran, temp := temp, units := [], lin := [] }
  let s := s.put (Obj.SST_PHASE (s.st.phase - 1)) (.oct stopped)
  ({ s with ch.scanTest := false }.phaseBegin 0).ebUpdate

/-! ### Domains drop and rise (R77–R79, R84–R87). -/

/-- R79, R80: PD_POWER drops: a lead that stands down drops LEAD_OUT and becomes a follow without rank; any other lead gives up
lead. -/
def State.dropPower (s : State) : State :=
  let s := if s.ld.leading && s.ld.standing then { s.armDropAll.leadRelease with ld.leading := false, ld.rank := 0, ld.cutIn := none }
    else s.giveUp 4 0 0 true
  (s.armDropAll.putBit Obj.DOMAIN_STATUS 3 false).transition
/-- R79, R176: PD_MEAS drops: factors return to their defaults. -/
def State.dropMeas (s : State) : State := ({ s.measDrop with pw.recal := true, pw.recalDue := false }.putBit Obj.DOMAIN_STATUS 1 false).transition
/-- PD_DRAM drops, and the recorder's ring is lost. [log 152 DEDUCED] -/
def State.dropDram (s : State) : State := (s.ringLost.putBit Obj.DOMAIN_STATUS 2 false).transition
/-- R84, R86, R87, R99, R115, R117: PD_MAIN's hold-off has run out: entry to DOZE where a core holds KEEP, else entry to PARKED,
which flushes pending commits and runs the shutdown self-test when enabled. [log 123 DEDUCED] -/
def State.beginEntry (s : State) : State :=
  if s.votes.testBit 4 ∧ s.nat Obj.PARK_MODE = 1 then s.pwMod fun x => { x with entry := 1, expired := 0, cueErrors := .replicate 2 0 }
  else
    let s := (s.pwMod fun x => { x with entry := 2, expired := 0 }).flush.putN Obj.RECOVERY_COUNT 0
    let s := { s with st.tested := false, st.phase := 0 }
    s.when (s.on Obj.SST_ENABLE) (·.recordOpen)
/-- R78, R85: the expired domains drop in their order, each once every domain that needs it has dropped; PD_DRAM waits for a
PD_MEAS and a PD_POWER that are to drop too. A voted domain stays, and a rise in progress runs to its commit point first. [log
202 DEDUCED] -/
def State.dropChain (s : State) : State :=
  let may := fun (s : State) (d : Nat) => s.pw.expired.testBit d && s.domainUp d && !s.wanted.testBit d && s.pw.rising == 0
  let goes := fun (s : State) (d : Nat) => s.domainUp d && !s.wanted.testBit d
  let s := s.when (may s 3) (·.dropPower)
  let s := s.when (may s 1 && !s.domainUp 3) (·.dropMeas)
  let s := s.when (may s 2 && !goes s 1 && !goes s 3) (·.dropDram)
  s.when (may s 0 && !s.domainUp 1 && !s.domainUp 2 && !s.domainUp 3) (·.beginEntry)
/-- HOLDOFF_EXPIRY (R78, R79, R84): the hold-off of a domain that no vote wants has run out. [log 16 DEDUCED] -/
def runHoldoffExpiry (d : Fin 4) (s : State) : Res :=
  if s.awake ∧ s.domainUp d ∧ !s.wanted.testBit d then
    .next ((s.pwMod fun x => { x with expired := x.expired ||| 2 ^ d.val }).dropChain)
  else .next s
/-- DOMAIN_POWER_GOOD (R78, R84–R86, R176): a domain the votes want, or whose rise had begun, is powered after those it needs,
PD_DRAM before PD_MEAS. [log 22, 202 DEDUCED] -/
def runDomainPowerGood (d : Fin 4) (s : State) : Res :=
  let dram : Bool := s.domainUp 2 || !(s.wanted.testBit 2 || s.pw.rising.testBit 2)
  let need : Bool := d.val != 0 && s.domainUp 0 && (d.val != 3 || s.domainUp 1) && (d.val == 2 || dram)
  if s.awake ∧ (!s.domainUp d) ∧ (s.wanted.testBit d ∨ s.pw.rising.testBit d) ∧ need then
    let s := (s.putBit Obj.DOMAIN_STATUS d true).transition
    let s := s.pwMod fun x => { x with rising := if x.rising.testBit d then x.rising - 2 ^ d.val else x.rising }
    .next (if d.val = 1 ∧ s.pw.recalDue then { s.calBegin with pw.recal := false, pw.recalDue := false } else s).dropChain
  else .next s
/-- R75: the votes of clients in a dropped domain are cleared, but KEEP in DOZE. -/
def State.clearVotes (s : State) (keep : Bool) : State :=
  let s := s.each 5 fun s c => s.putN (Obj.VOTE_MASK c) (if keep then s.nat (Obj.VOTE_MASK c) / 16 % 2 * 16 else 0 : Nat)
  s.pwMod fun x => { x with linger := false, ports := 0, partners := 0, rising := 0 }
/-- What stops with PD_MAIN: ticks and cells (R227), the stream link (R470, R481), and the lane's hold on global time. -/
def State.mainStops (s : State) : State :=
  let s := s.linkEnd
  { ((s.putN Obj.DOMAIN_STATUS 0).putN Obj.STREAM_STATE 0).putN Obj.LINK_STATUS 0 with link.forced := false, clk := { now := s.clk.now }, lp.running := false }
/-- DOZE_COMMIT (R86, R115, R526): PD_MAIN is at keep level. -/
def runDozeCommit (s : State) : Res :=
  if s.pw.entry = 1 then
    let s := (s.logCommit.flush.clearVotes true).mainStops.transition
    .next (s.pwMod fun x => { x with sleep := 1, entry := 0 })
  else .next s
/-- PARKED_COMMIT (R87, R83, R75, R526): the fault log is written, the notice sent, and every domain switched off; HOLD is
released. [log 154 DESIGN CHOICE] -/
def runParkedCommit (s : State) : Res :=
  if s.pw.entry = 2 ∧ s.st.phase = 0 then
    let s := s.logCommit.flush
    let s := [0, 1].foldl (fun s p => s.when (s.portUp p) (·.emit (.parkedNotice p))) s
    let s := ((s.clearVotes false).mainStops).transition
    .next (s.pwMod fun x => { x with sleep := 2, entry := 0, waking := false })
  else .next s
/-- DOZE_MAX_EXPIRY (R84, R87, R99, R114): the keep level is removed. [log 21 DEDUCED] -/
def runDozeMaxExpiry (s : State) : Res :=
  if s.pw.sleep = 1 ∧ s.on Obj.DOZE_MAX then
    let s := ((s.clearVotes false).putN Obj.RECOVERY_COUNT 0).transition
    let lost (key : Nat) : Bool := match rowOf key with
      | some r => r.persist == Persist.keepRegion
      | none => false
    let s := { s with dict := s.dict.filter fun e => !lost e.1 }
    .next (s.pwMod fun x => { x with sleep := 2 })
  else .next s

/-! ### Votes (R75–R82). -/

/-- VOTE_CHANGE (R75–R78): the keeper or an application core votes. [log 189 DEDUCED] -/
def runVoteChange (client : Fin 5) (mask : BitVec 5) (s : State) : Res :=
  .next (if s.pw.sleep = 0 then
    let s := (s.putN (Obj.VOTE_MASK client) mask.toNat).holdoffCancel
    s.when s.awake (·.dropChain)
  else s)
/-- HOLD_READBACK_CHANGE (R54, R76): the HOLD net takes a level; a vote that arrives cancels a running hold-off. -/
def runHoldReadbackChange (level : Bool) (s : State) : Res :=
  .next (({ s with pw.holdNet := level } : State).when (s.pw.sleep == 0) (·.holdoffCancel))
/-- WAKE_LINGER_EXPIRY (R81): WAKE_LINGER has run out. [log 120 DEDUCED] -/
def runWakeLingerExpiry (s : State) : Res := .next (s.pwMod fun x => { x with linger := false })
/-- PORT_ACTIVITY_LAPSE (R76): no valid frame on a port within PORT_ACT_REELS reels. -/
def runPortActivityLapse (p : Fin 4) (s : State) : Res :=
  .next (s.pwMod fun x => { x with ports := if x.ports.testBit p then x.ports - 2 ^ p.val else x.ports })
/-- PARTNER_VOTE_LAPSE (R76): no vote of a partner within 2 reels. -/
def runPartnerVoteLapse (p : Fin 2) (s : State) : Res :=
  .next (s.pwMod fun x => { x with partners := if x.partners.testBit p then x.partners - 2 ^ p.val else x.partners })
/-- HEALTH_BLOCK (R370, R419, R76, R82, R364): a partner's lane health block: its health word, its votes and what it saw of the
line test's pulses. [log 122 DEDUCED] -/
def runHealthBlock (p : Fin 2) (word : Word) (votes obs : Byte) (s : State) : Res :=
  if s.peerLane p = 0 then .next s
  else
    let s := s.wordTaken p word.toNat obs.toNat
    .next (if votes.toNat = 0 then s else (s.pwMod fun x => { x with partners := x.partners ||| 2 ^ p.val }).holdoffCancel)

/-! ### Wake (R81, R85–R95). -/

/-- R62, R90: the column in which the lane now stands: 1 DOZE, 2 PARKED or a logic without VBAT, 3 an entry to DOZE, 4 an
entry to PARKED, 0 awake. [log 203 DEDUCED] -/
def State.wakePlace (s : State) : Nat :=
  if s.pw.sleep ≠ 0 then s.pw.sleep else if !s.supplyPresent 0 then 2 else if s.pw.entry ≠ 0 then s.pw.entry + 2 else 0
/-- R94: the wake is one of a record written within the same tick. [log 155 DEDUCED] -/
def State.sameTick (s : State) (tick : Nat) : Bool :=
  s.pw.wokeTick == some tick
/-- R94: a further source of the same tick joins the record. [log 155 DEDUCED] -/
def State.wakeJoin (s : State) (code : Nat) : State :=
  (s.putN Obj.WAKE_SOURCES (s.nat Obj.WAKE_SOURCES ||| 2 ^ code : Nat)).putN Obj.WAKE_CODE (min (s.nat Obj.WAKE_CODE) code : Nat)
/-- R94, R95: the record of a wake by a source. -/
def State.wakeRecord (s : State) (code : Nat) (w : WakeAt) : State :=
  let known : Bool := s.pw.sleep == 0 && s.clk.joined
  let s := ((s.putN Obj.WAKE_CODE code).putN Obj.WAKE_SOURCES (2 ^ code : Nat)).putN Obj.WAKE_TICK (w.tick % 2 ^ 32 : Nat)
  let s := (s.putN Obj.WAKE_GLOBAL_TIME (if known then w.now % 2 ^ 64 else 2 ^ 64 - 1 : Nat)).putN Obj.WAKE_TIME_STATUS (b2n known)
  let s := (s.count Obj.WAKE_COUNT 32).aonTo w.tick
  { s.when (s.nat Obj.WAKE_COUNT == 0) (·.count Obj.WAKE_COUNT_WRAPS 16) with pw.estimate := !known, pw.wokeFrom := s.wakePlace, pw.wokeTick := some w.tick }
/-- R95: on rejoining global time the keeper estimates the time of the last wake. -/
def State.wakeEstimate (s : State) : State :=
  if s.pw.estimate ∧ s.clk.joined then
    let ticks := (s.pw.tick + 2 ^ 32 - s.nat Obj.WAKE_TICK) % 2 ^ 32
    let t : Nat := s.clk.now - Config.roundQuot (100000000 * ticks : Nat) 32768 |>.toNat
    { (s.putN Obj.WAKE_GLOBAL_TIME (t % 2 ^ 64 : Nat)).putN Obj.WAKE_TIME_STATUS 2 with pw.estimate := false }
  else s
/-- R86, R176: a wake that returns the lane to READY reruns calibration if PD_MEAS had dropped, once it is up. -/
def State.recalAsk (s : State) : State :=
  if !s.pw.recal then s else if s.domainUp 1 then { s.calBegin with pw.recal := false } else { s with pw.recalDue := true }
/-- R81, R85, R86: a wake ends an entry with the lane in READY. -/
def State.entryEnd (s : State) : State := (s.pwMod fun x => { x with entry := 0, linger := true }).recalAsk
/-- R85, R86, R176: a wake before step 4 of an entry to DOZE returns the lane to READY. [log 120 DEDUCED] -/
def State.dozeAbort (s : State) : State := s.entryEnd
/-- R85, R87, R176: a wake in an entry to PARKED: before the test an application restart, in or after it a keeper lane reset. -/
def State.parkedAbort (s : State) (w : WakeAt) : State :=
  if w.step.val ≤ 2 then ((s.when s.st.tested (·.recordRestore)).entryEnd.appRestart 4)
  else if s.st.tested then (if s.st.phase = 0 then s.logCommit else s.testStop).keeperReset w.tick
  else s.entryEnd.appRestart 4
/-- R64, R88, R97: a wake in PARKED: straps are sampled, and the start waits for VBAT. -/
def State.parkedExit (s : State) (w : WakeAt) : State :=
  let s := s.waltzOver.strapsAtStart w.straps w.again (s.chapState == 4)
  if s.supplyPresent 0 then { s.resetTo 7 w.tick with pw.waking := true }
  else s.pwMod fun x => { x with waking := true, vbatWait := true }
/-- R85–R90, R94: a source wakes the lane. In PARKED, while VBAT is awaited after a wake, a source at another tick does
nothing: it neither writes a record nor renews the 2 s. [log 201 DESIGN CHOICE] -/
def State.wake (s : State) (code : Nat) (w : WakeAt) : State :=
  if s.sameTick w.tick then s.wakeJoin code
  else if s.pw.sleep = 1 then (s.wakeRecord code w).resetTo 6 w.tick
  else if s.pw.sleep = 2 then (if s.pw.waking then s else (s.wakeRecord code w).parkedExit w)
  else if !s.supplyPresent 0 then
    (if s.pw.waking then s else (s.wakeRecord code w).pwMod fun x => { x with waking := true, vbatWait := true })
  else if s.pw.entry = 0 then s
  else
    let s := (s.wakeRecord code w).count Obj.ENTRIES_ABORTED 32
    if s.pw.entry = 2 then s.parkedAbort w
    else if w.step.val < 4 then s.dozeAbort else s.resetTo 6 w.tick
/-- R90, R94: the column of R90's table that judges a wake: the lane's own, or in the tick of the last record that record's. -/
def State.wakeFrom (s : State) (w : WakeAt) : Nat := if s.wakePlace = 0 ∧ s.sameTick w.tick then s.pw.wokeFrom else s.wakePlace
/-- R90: may a source wake the lane: in DOZE, in PARKED or in an entry, as the source's row says? -/
def State.wakes (s : State) (w : WakeAt) (inEntry : Bool) : Bool :=
  s.wakeFrom w == 1 || s.wakeFrom w == 2 || (inEntry && s.wakeFrom w != 0)
/-- KEY_CHANGE (R90, R93, R76, R99): KEY changes after its filter. -/
def runKeyChange (level : Bool) (w : WakeAt) (s : State) : Res :=
  let rising := level && !s.pw.key
  let s := (s.pwMod fun x => { x with key := level }).when (!level) (·.putN Obj.RECOVERY_COUNT 0)
  if rising && s.wakes w true then .next (s.wake 1 w) else .next (s.when (s.pw.sleep == 0) (·.holdoffCancel))
/-- WAKE_PIN_EDGE (R90, R93): an edge of WAKE after its filter. -/
def runWakePinEdge (rising : Bool) (w : WakeAt) (s : State) : Res :=
  let e := s.nat Obj.WAKE_EDGE
  if (e = 2 ∨ (e = 0 ∧ rising) ∨ (e = 1 ∧ !rising)) ∧ s.wakes w true then .next (s.wake 2 w) else .next s
/-- R91: the wake mode of port A or B. -/
def State.wakeMode (s : State) (p : Nat) : Nat := s.nat (if p = 0 then Obj.PORT_A_WAKE else Obj.PORT_B_WAKE)
/-- R92: does a frame match the cue? -/
def State.cueMatches (s : State) (f : CueFrame) : Bool :=
  let want := s.nat Obj.CUE_ID
  let mask := s.nat Obj.CUE_ID_MASK % 2 ^ 29
  let n := s.nat Obj.CUE_DLC
  f.extended == want.testBit 31 && decide (f.id.toNat &&& mask = want % 2 ^ 29 &&& mask) && f.dlc.val == n &&
    (List.range n).all fun i =>
      let at' (l : List Byte) : Byte := (l[i]?).getD 0
      (at' f.data) &&& (at' (s.oct Obj.CUE_DATA_MASK)) == (at' (s.oct Obj.CUE_DATA)) &&& (at' (s.oct Obj.CUE_DATA_MASK))
/-- CUE_FRAME (R91, R92): the cue decoder of port A or B has seen a frame. -/
def runCueFrame (p : Fin 2) (f : CueFrame) (w : WakeAt) (s : State) : Res :=
  if s.wakeMode p ≠ 3 ∨ f.foreign ∨ !(s.wakeFrom w == 1 || s.wakeFrom w == 3) then .next s
  else if f.good then
    let s := s.pwMod fun x => { x with cueErrors := vmod x.cueErrors p (· - 1) }
    .next (if s.cueMatches f then s.wake (3 + p) w else s)
  else
    let s := s.pwMod fun x => { x with cueErrors := vmod x.cueErrors p (· + 1) }
    .next (if 32 ≤ vget s.pw.cueErrors p then s.wake (5 + p) w else s)
/-- WAKE_UP_PATTERN (R91): the wake-up pattern on port A or B. -/
def runWakeUpPattern (p : Fin 2) (w : WakeAt) (s : State) : Res :=
  let mode := s.wakeMode p
  if s.wakes w true ∧ (mode = 2 ∨ (mode = 3 ∧ s.wakeFrom w ≠ 1)) then .next (s.wake (5 + p) w) else .next s
/-- DOMINANT_ACTIVITY (R91): a dominant phase on port A or B, its length in ns; between 0.5 and 1.0 µs it may count. [log 156
DESIGN CHOICE] -/
def runDominantActivity (p : Fin 2) (width : Nat) (taken : Bool) (w : WakeAt) (s : State) : Res :=
  if s.wakes w true ∧ s.wakeMode p = 1 ∧ (1000 ≤ width ∨ (500 ≤ width ∧ taken)) then .next (s.wake (7 + p) w) else .next s
/-- AON_TIMER_WAKE (R90, R93): TIMER_WAKE ticks after the commit point of an entry. -/
def runAonTimerWake (w : WakeAt) (s : State) : Res :=
  if s.wakes w false ∧ s.on Obj.TIMER_WAKE then .next (s.wake 9 w) else .next s
/-- STREAM_SIGNAL_DETECT (R90, R93): a toggling forwarded clock on SRX_CK in DOZE. -/
def runStreamSignalDetect (w : WakeAt) (s : State) : Res :=
  if s.wakeFrom w = 1 ∧ s.on Obj.STREAM_WAKE then .next (s.wake 10 w) else .next s
/-- VBAT_ARRIVAL (R62, R88, R90): VBAT returns: no wake of itself; a recorded wake that waits for it starts the lane. -/
def runVbatArrival (tick : Nat) (s : State) : Res :=
  let s := (s.supplyLow 0 false).aonTo tick
  .next (if !s.pw.vbatWait then s
    else if s.pw.sleep = 0 then s.pwMod fun x => { x with vbatWait := false }
    else { s.resetTo 7 tick with pw.waking := true })
/-- VBAT_WAIT_TIMEOUT (R62, R71, R75, R88): VBAT is still absent 2 s after a wake: HOLD is released and the lane is PARKED,
with no vote and no domain, a start that was due with it. [log 203 DEDUCED] -/
def runVbatWaitTimeout (s : State) : Res :=
  .next (if s.pw.vbatWait ∧ !s.supplyPresent 0 then
    let s := (s.clearVotes false).putN Obj.DOMAIN_STATUS 0
    { s.pwMod (fun x => { x with vbatWait := false, waking := false, sleep := 2 }) with st := { s.st with due := none } }
  else s)

/-! ### Stand-down (R80, R120) at a beat boundary. -/

/-- R120: the time for which the rest condition has held without a break, in 10 ns counts, at most 1 s; R124: the time of the
running phase. A time has passed in which the lane's speeds stood as they are. [log 168 DEDUCED] -/
def State.restAfter (s : State) (counts : Nat) : State :=
  { s with pw := { s.pw with rest := if s.atRest then min 100000000 (s.pw.rest + counts) else 0 }
           st := { s.st with phaseTime := s.st.phaseTime + counts } }
/-- R80: no client but the loop engine holds a PD_POWER vote. -/
def State.powerUnwanted (s : State) : Bool := !(s.voteOr ((List.range 15).filter (· != 5))).testBit 3
/-- R80: the lane stands down: requests for power-arm and EB release, or EB release and permission, are withdrawn. -/
def State.standDown (s : State) : State :=
  let s := { s with ld.standing := true }.ebAsk false
  if s.ld.leading then { s with ch.request := 0 }.armDropAll else s.permit none
/-- R80: the stand-down ends: a lead that still asserts LEAD_OUT requests power-arm again; EB release is requested again. -/
def State.standUp (s : State) : State :=
  let s := { s with ld.standing := false }
  let s := s.when (decide (12 ≤ s.nat Obj.START_STEP) && (s.role == 1 || s.role == 2)) (·.ebAsk true)
  if s.ld.leading && s.ch.leadOut then { s with ch.request := s.requestMask }.each 26 fun s b => s.armRaise b else s
/-- R80 at a beat boundary; hold-offs that expired and wait, and rises that the votes want, are looked at first (R78, R85).
[log 64 DEDUCED] -/
def State.standBeat (s : State) : State :=
  let s := s.riseBegin
  let s := s.when s.awake (·.dropChain)
  let now := s.powerUnwanted && s.atRest
  if now && !s.ld.standing then s.standDown else if !now && s.ld.standing then s.standUp else s

/-- POWER_STATE (R84, R96, R107): 0 ACTIVE, 1 READY, 2 entering DOZE, 3 entering PARKED, 4 starting, until step 12, or step 9
on a lane whose sealed set was never confirmed. [log 253 DEDUCED] -/
def State.powerState (s : State) : Nat :=
  if s.pw.entry ≠ 0 then s.pw.entry + 1
  else if s.nat Obj.START_STEP < (if s.nat Obj.SIG_STATE = 0 then 9 else 12) then 4
  else if s.domainUp 3 then 0 else 1

end Sys2Proof.Machine
end

