-- ==== Sys2Proof/Machine/Thermal.lean ====
section
/-!
DEFINITION. Machine/Thermal.lean: the thermal governor (R542–R547).
-/
namespace Sys2Proof.Machine

/-- Change the governor. -/
def State.thMod (s : State) (f : Thermal → Thermal) : State := { s with th := f s.th }
/-- R543: a qualifier is raised when its condition comes, and again only after it has gone. The bit: THERMAL_WARN q in q − 1,
THERMAL_LIMIT q in q + 2. [log 159 DEDUCED] -/
def State.thermalRaise (s : State) (bit : Nat) (come gone : Bool) (temp : Int) : State :=
  if come && !s.th.raised.testBit bit then
    (s.thMod fun x => { x with raised := x.raised + 2 ^ bit }).raise Src.thermal (if bit < 3 then Kind.THERMAL_WARN else Kind.THERMAL_LIMIT)
      (bit % 3 + 1) (some temp)
  else if gone && s.th.raised.testBit bit then s.thMod fun x => { x with raised := x.raised - 2 ^ bit }
  else s
/-- R542: the level for a reading, from the level before. -/
def govLevel (before : Nat) (t : Int) : Nat :=
  if 145 ≤ t ∨ (140 ≤ t ∧ before = 2) then 2 else if 140 ≤ t ∨ (135 ≤ t ∧ 1 ≤ before) then 1 else 0
/-- R547: whole seconds at a level. -/
def State.govTime (s : State) (key : Nat) : State := s.putStored key (.nat ((s.nat key + 1) % 2 ^ 32))
/-- R547: 1 ms passes at the present level. -/
def State.govClock (s : State) : State :=
  let l := s.nat Obj.GOV_LEVEL
  let p1 := s.th.part1 + b2n (1 ≤ l)
  let p2 := s.th.part2 + b2n (l == 2)
  let s := s.thMod fun x => { x with part1 := p1 % 1000, part2 := p2 % 1000 }
  (s.when (1000 ≤ p1) (·.govTime Obj.GOV_TIME_L1)).when (1000 ≤ p2) (·.govTime Obj.GOV_TIME_L2)
/-- R544: the integrated stages are switched off, or may conduct again at their next arming. [log 158 DEDUCED] -/
def State.stagesOff (s : State) : State :=
  let s := (s.each 4 fun s k => s.vsOff k).each 16 fun s m => s.solOff m
  { s with vs := s.vs.map fun (x : Stepper) => { x with granted := false }, sol := s.sol.map fun (x : Solenoid) => { x with granted := false } }
/-- R544: 160 °C at a sensor shuts the integrated stages down. [log 158 DEDUCED] -/
def State.stageShut (s : State) (t : Int) : State :=
  if s.th.shut ∨ t < 160 then s
  else ((s.stagesOff.thMod fun x => { x with shut := true }).count Obj.STAGE_SHUTDOWNS 32).thermalRaise 5 true false t
/-- GOVERNOR_SAMPLE (R542–R544, R547): the two sensors, in °C, 1 ms after the sample before. [log 158, 159 DEDUCED] -/
def runGovernorSample (t1 t2 : BitVec 16) (s : State) : Res :=
  let t := max t1.toInt t2.toInt
  let apart := (t1.toInt - t2.toInt).natAbs
  let s := s.govClock
  let s := (s.putN Obj.TJ_POWER t).putN Obj.TJ_POWER_PEAK (max (s.n Obj.TJ_POWER_PEAK) t)
  let s := s.thMod fun x => { x with coming := govLevel x.coming t }
  let s := s.thermalRaise 0 (140 ≤ t) (t < 135) t
  let s := s.thermalRaise 2 (10 < apart) (apart < 5) t
  let s := s.thermalRaise 3 (150 ≤ t) (t < 145) t
  let s := s.thermalRaise 5 false (t < 155) t
  .next (if s.th.shut ∧ t < 140 then s.stagesOff.thMod fun x => { x with shut := false } else s.stageShut t)
/-- STAGE_SHUTDOWN (R544): 160 °C at a sensor. -/
def runStageShutdown (t : BitVec 16) (s : State) : Res :=
  .next (s.stageShut t.toInt)
/-- HOURLY_COMMIT (R508, R547): OPERATING_SECONDS and the governor times reach flash. -/
def runHourlyCommit (s : State) : Res :=
  .next (((s.commit Obj.OPERATING_SECONDS).commit Obj.GOV_TIME_L1).commit Obj.GOV_TIME_L2)
/-- R547: TJ_POWER_PEAK restarts from the present reading. -/
def State.peakClear (s : State) : State := s.putN Obj.TJ_POWER_PEAK (s.n Obj.TJ_POWER)
/-- R542: at a tick edge the level takes effect. -/
def State.govTick (s : State) : State :=
  if s.n Obj.GOV_LEVEL = s.th.coming then s else s.putN Obj.GOV_LEVEL s.th.coming
/-- R543: the main-die temperature of channel 58, in °C. -/
def State.mainThermal (s : State) (t : Int) : State :=
  ((s.putN Obj.TJ_MAIN t).thermalRaise 1 (128 ≤ t) (t < 123) t).thermalRaise 4 (135 ≤ t) (t < 130) t

end Sys2Proof.Machine
end

