-- ==== Sys2Proof/Machine/Stream.lean ====
section
/-!
DEFINITION. Machine/Stream.lean: the stream port (R467–R483): its link, its frames and credits, image loads and downloads. A
dictionary request that a DICT frame carries is a command of its own.
-/
namespace Sys2Proof.Machine

/-- STREAM_STATE (R483): 0 off, 1 awaiting clock, 2 training, 3 up. -/
def State.streamState (s : State) : Nat := s.nat Obj.STREAM_STATE

/-! ### Training and link loss (R469, R470). -/

/-- R469, step 1: the port trains, and sends TS1. -/
def State.trainBegin (s : State) : State := (s.putN Obj.STREAM_STATE 2).emit .ts1
/-- STREAM_CLOCK_DETECT (R469): a toggling SRX_CK starts training. -/
def runStreamClockDetect (s : State) : Res :=
  .next (if s.on Obj.STREAM_ENABLE ∧ s.domainUp 0 ∧ s.streamState = 1 then s.trainBegin else s)
/-- STREAM_TS_RECEIVED (R468, R469, R475): the training sets are exchanged: the partner's credits, the skews found, and the
time taken in µs. The lane sends TS2 with its own credits; the link is up, and a CREDIT column of each class is sent. [log 257
DESIGN CHOICE] -/
def runStreamTsReceived (credits0 credits1 : BitVec 16) (ts : TsSeen) (micros : BitVec 32) (s : State) : Res :=
  if s.streamState = 2 ∧ !s.sp.idle ∧ ts.version = 1 ∧ ts.role = 2 then
    let s := ((s.emit (.ts2 512 1024 1 1)).putN Obj.STREAM_STATE 3).putN Obj.STREAM_PARTNER_CREDITS (credits1.toNat * 65536 + credits0.toNat : Nat)
    let s := (s.putN Obj.STREAM_DESKEW ts.skew.toNat).putN Obj.STREAM_TRAIN_TIME micros.toNat
    .next ({ s.holdoffCancel with sp := { gap := s.sp.gap } }.emit (.credit 0 0) |>.emit (.credit 1 0))
  else .next s
/-- STREAM_TRAINING_TIMEOUT (R469, R482): training has not completed in 2 ms; the lanes concerned; IDLE columns follow. -/
def runStreamTrainingTimeout (lanes : BitVec 4) (s : State) : Res :=
  if s.streamState = 2 ∧ !s.sp.idle then
    let first := !s.sp.failed
    let s := (s.spMod fun x => { x with idle := true, failed := true }).emit .idle
    .next (s.when first (·.raise Src.stream Kind.STREAM_LINK_DOWN 4 (some (lanes.toNat : Int))))
  else .next s
/-- STREAM_IDLE_END (R469): 10 ms of IDLE columns have been sent: training restarts. -/
def runStreamIdleEnd (s : State) : Res :=
  .next (if s.streamState = 2 ∧ s.sp.idle then (s.spMod fun x => { x with idle := false }).trainBegin else s)
/-- STREAM_LINK_LOSS (R470, R482): 1 clock lost, 2 code errors, 3 alignment lost, 5 a TS set received; the lanes concerned and
the code errors met. [log 163 DEDUCED] -/
def runStreamLinkLoss (qual : Fin 6) (lanes : BitVec 4) (errors : Nat) (s : State) : Res :=
  if s.streamState = 3 ∧ (qual.val = 1 ∨ qual.val = 2 ∨ qual.val = 3 ∨ qual.val = 5) then
    let s := if qual.val = 1 then s.linkEnd.putN Obj.STREAM_STATE 1 else s.linkEnd.trainBegin
    let s := (s.count Obj.STREAM_LINK_DOWNS 32).putN Obj.STREAM_CODE_ERRORS ((s.nat Obj.STREAM_CODE_ERRORS + errors) % 2 ^ 32 : Nat)
    .next (s.raise Src.stream Kind.STREAM_LINK_DOWN qual (some (lanes.toNat : Int)))
  else .next s
/-- R470: STREAM_ENABLE is written: the port trains, or its link goes down without a fault. [log 230 DEDUCED] -/
def State.streamEnable (s : State) (on : Bool) : State :=
  let s := s.putStored Obj.STREAM_ENABLE (.nat (b2n on))
  if on then (if s.streamState = 0 ∧ s.domainUp 0 then s.putN Obj.STREAM_STATE 1 else s)
  else (s.linkEnd.spMod fun x => { x with failed := false }).putN Obj.STREAM_STATE 0

/-! ### Frames (R471, R472). -/

/-- R471: the CRC of a frame, over its header and its payload. -/
def streamCrc (type flags seq offset : Nat) (payload : List Byte) : Nat :=
  crc32c (le 1 type ++ le 1 flags ++ le 2 seq ++ le 4 payload.length ++ le 4 offset ++ payload)
/-- R473: a received frame came whole and its CRC holds. [log 232 DEDUCED] -/
def streamGood (f : StreamFrame) : Bool :=
  f.whole && f.crc.toNat == streamCrc f.type.toNat f.flags.toNat f.seq.toNat f.offset.toNat f.payload

/-! ### Credits (R475). -/

/-- R472: the class of a type. -/
def streamClass (type : Nat) : Nat := if type ≤ 3 then 0 else 1
/-- R475: the credits a frame uses. -/
def streamCredits (length : Nat) : Nat := (16 + length + 255) / 256
/-- R475: credits of a class that the transmitter may still use. -/
def State.creditsLeft (s : State) (cls : Nat) : Nat :=
  (s.nat Obj.STREAM_PARTNER_CREDITS / 65536 ^ cls % 65536 + vget s.sp.returned cls + 65536 - vget s.sp.used cls) % 65536
/-- CREDIT_COLUMN (R468, R475): the partner returns credits of a class, as a cumulative number. -/
def runCreditColumn (cls : Fin 2) (count : BitVec 16) (s : State) : Res :=
  .next (if s.streamState = 3 then s.spMod fun x => { x with returned := vset x.returned cls count.toNat } else s)
/-- CREDIT_COLUMN_SEND (R468, R475): the lane returns the credits it has freed in a class. -/
def runCreditColumnSend (cls : Fin 2) (s : State) : Res :=
  .next (if s.streamState = 3 then s.emit (.credit cls (vget s.sp.freed cls)) else s)

/-! ### Sending (R471–R479). -/

/-- R476: the payload of a TIME frame whose SOF leaves at a time. -/
def State.timePayload (s : State) (now : Nat) : List Byte :=
  le 8 now ++ le 4 s.beat32 ++ le 2 (s.nat Obj.BEAT_LENGTH) ++ le 1 (s.nat Obj.TICKS_PER_BEAT) ++ le 1 (b2n s.clk.joined)
/-- R479: the live samples of the oldest beat that the next TRACE frame takes, at most 1,022. [log 167 DEDUCED] -/
def State.traceNext (s : State) : List TraceSample :=
  let live := s.lp.fifo.filter (·.live)
  match live with
  | [] => []
  | x :: _ => (live.takeWhile fun y => y.beat == x.beat).take 1022
/-- R479: the payload of a TRACE frame. [log 167 DEDUCED] -/
def State.tracePayload (s : State) (l : List TraceSample) : List Byte :=
  let x := l.headD ⟨0, 0, 0, 0, 0, false, false, false⟩
  le 8 (x.time / s.beatCounts * s.beatCounts) ++ le 4 x.beat ++ le 2 l.length ++ zeros 2 ++
    l.flatMap fun y => le 1 y.ch ++ le 1 y.tick ++ le 1 (b2n y.gap) ++ zeros 1 ++ le 4 y.value.toNat
/-- R243: the first `n` live samples have been taken by the live stream. -/
def takeLive : Nat → List TraceSample → List TraceSample
  | _, [] => []
  | n, x :: l =>
    if x.live ∧ 0 < n then (if x.recorder then { x with live := false } :: takeLive (n - 1) l else takeLive (n - 1) l)
    else x :: takeLive n l
/-- R505: the next bytes of the running download, their offset, and whether they end it. -/
def State.recordNext (s : State) : Option (List Byte × Nat × Bool) :=
  match s.rc.download with
  | none => none
  | some (slot, sent) =>
    let rows := vget s.rc.slots slot
    if s.rc.cut then some ([], 128 * sent, true)
    else some ((((rows.drop sent).take 64).flatMap fun r => r.flatMap fun w => le 4 w.toNat), 128 * sent, decide (rows.length ≤ sent + 64))
/-- A frame that waits: its type, flags, offset and payload. -/
structure Outgoing where
  type : Nat
  flags : Nat
  offset : Nat
  payload : List Byte
  deriving DecidableEq, Repr
/-- R474: the first waiting frame of each type, in the order in which the transmitter takes them. [log 162 DEDUCED] -/
def State.waitingFrames (s : State) (now : Nat) : List Outgoing :=
  (if s.sp.time then [⟨1, 0, 0, s.timePayload now⟩] else []) ++
    ((s.sp.azsin.take 1).map fun b => ⟨2, 0, 0, b⟩) ++ ((s.sp.dict.take 1).map fun b => ⟨3, 0, 0, b⟩) ++
    ((s.sp.image.take 1).map fun b => ⟨4, 0, 0, b⟩) ++
    (match s.recordNext with
      | some (b, off, last) => [⟨6, b2n last, off, b⟩]
      | none => []) ++
    (if s.traceNext.isEmpty then [] else [⟨5, 2 * b2n s.sp.gap, 0, s.tracePayload s.traceNext⟩])
/-- R475: the frames of a class that wait. -/
def State.classWaiting (s : State) (cls : Nat) : Nat :=
  if cls = 0 then b2n s.sp.time + s.sp.azsin.length + s.sp.dict.length
  else s.sp.image.length + b2n s.rc.download.isSome + b2n (!s.traceNext.isEmpty)
/-- A frame leaves its queue. -/
def State.frameTaken (s : State) (f : Outgoing) : State :=
  match f.type with
  | 1 => s.spMod fun x => { x with time := false }
  | 2 => s.spMod fun x => { x with azsin := x.azsin.drop 1 }
  | 3 => s.spMod fun x => { x with dict := x.dict.drop 1 }
  | 4 => s.spMod fun x => { x with image := x.image.drop 1 }
  | 6 =>
    if f.flags = 1 then s.recMod fun r => { r with download := none, cut := false }
    else s.recMod fun r => { r with download := r.download.map fun d => (d.1, d.2 + 64) }
  | _ => { s with sp.gap := false, lp.fifo := takeLive s.traceNext.length s.lp.fifo }
/-- R110, R478: the recovery loader has sent its last answer and resets the lane. -/
def State.loaderDone (s : State) : State := if s.sp.reboot ∧ s.sp.image.isEmpty then s.resetTo 4 s.pw.tick else s
/-- STREAM_FRAME_SEND (R468, R471, R474, R475): the transmitter is free at a time: the first waiting frame with credits
starts, or IDLE columns go out. [log 162 DEDUCED] -/
def runStreamFrameSend (now : Nat) (s : State) : Res :=
  if s.streamState ≠ 3 then .next s
  else
    match (s.waitingFrames now).find? fun f => decide (streamCredits f.payload.length ≤ s.creditsLeft (streamClass f.type)) with
    | none => .next (s.emit .idle)
    | some f =>
      let cls := streamClass f.type
      let seq := vget s.sp.seqTx (f.type - 1)
      let s := (s.frameTaken f).count Obj.STREAM_FRAMES_TX 32
      let s := s.spMod fun x => { x with used := vmod x.used cls fun u => (u + streamCredits f.payload.length) % 65536
                                         seqTx := vset x.seqTx (f.type - 1) ((seq + 1) % 65536) }
      .next (s.emit (.stream f.type f.flags seq f.offset f.payload (streamCrc f.type f.flags seq f.offset f.payload))).loaderDone
/-- STREAM_CREDIT_TIMEOUT (R475): a class has had a frame waiting without enough credits for STREAM_CREDIT_TIMEOUT. -/
def runStreamCreditTimeout (cls : Fin 2) (s : State) : Res :=
  let mine := (s.waitingFrames s.clk.now).filter fun f => streamClass f.type == cls.val
  if s.streamState = 3 ∧ mine.any (fun f => decide (s.creditsLeft cls < streamCredits f.payload.length)) then
    .next (s.raise Src.stream Kind.STREAM_CREDIT_TIMEOUT (cls + 1) (some (s.classWaiting cls : Int)))
  else .next s
/-- STREAM_AZSIN_LATCH (R474, R447): 20 µs before a boundary the Azsin messages for the port are latched. -/
def runStreamAzsinLatch (now : Nat) (s : State) : Res :=
  if s.streamState = 3 ∧ !s.col.failSilent ∧ !s.appStopped ∧ s.nat Obj.STREAM_NETWORK ≠ 0xFF then
    let r := s.azCollect 4 8192 (fun _ => true) now
    .next (r.2.spMod fun x => { x with latched := r.1 })
  else .next s
/-- R474, R476: at a beat boundary the TIME frame and the latched messages are queued. -/
def State.streamBeat (s : State) : State :=
  if s.streamState = 3 then
    s.spMod fun x => { x with time := s.clk.joined && !s.st.loader, azsin := if x.latched.isEmpty then x.azsin else x.azsin ++ [x.latched]
                              latched := [] }
  else s

/-! ### Receiving (R473, R478). -/

/-- R472: may a partner send a frame of this type, length and flag? -/
def streamValid (type length : Nat) (last : Bool) : Bool :=
  match type with
  | 2 => decide (8 ≤ length ∧ length ≤ 8192)
  | 3 => decide (10 ≤ length ∧ length ≤ 65546)
  | 4 => decide (length ≤ 8192) && (length != 0 || last)
  | _ => false
/-- R478: the answer to an IMAGE frame. -/
def State.imageAnswer (s : State) (accepted status : Nat) : State :=
  s.spMod fun x => { x with image := x.image ++ [le 4 accepted ++ le 1 status ++ zeros 3] }
/-- R478, R110: the slot a load writes. -/
def State.loadSlot (s : State) : Nat := if s.st.loader then 0 else 1 - s.nat Obj.SLOT_ACTIVE % 2
/-- R478, R108, R110, R111: the final frame of an image has been written. [log 165 DEDUCED; log 166 DESIGN CHOICE] -/
def State.imageDone (s : State) (total : Nat) (f : StreamFrame) : State :=
  let k := s.loadSlot
  let s := s.spMod fun x => { x with load := none }
  if f.verified ∧ s.nat Obj.FUSE_SECVER ≤ f.secver.toNat then
    let s := ((s.putN (slotStateKey k) 1).putN (slotVersionKey k) f.version.toNat).putN (slotSecKey k) f.secver.toNat
    let s := s.imageAnswer total 1
    if s.st.loader then (s.putN Obj.FORCE_FULL 1).spMod fun x => { x with reboot := true } else s
  else s.imageAnswer total 2
/-- R478: an IMAGE frame: only in a session of SERVICE or above that the port owns, or to the recovery loader; offsets run on
from 0, and a frame at offset 0 restarts the load. [log 164 DEDUCED] -/
def State.imageFrame (s : State) (f : StreamFrame) : State :=
  let accepted := s.sp.load.getD 0
  if !s.st.loader ∧ (s.nat Obj.SESSION_CURRENT = 0 ∨ s.se.owner ≠ some .stream) then s.imageAnswer accepted 4
  else if f.offset.toNat ≠ 0 ∧ s.sp.load ≠ some f.offset.toNat then s.imageAnswer accepted 3
  else
    let total := f.offset.toNat + f.payload.length
    let s := (s.putN (slotStateKey s.loadSlot) 4).spMod fun x => { x with load := some total }
    if f.flags.toNat.testBit 0 then s.imageDone total f else s.imageAnswer total 0
/-- R473: the sequence of a type: missing frames are counted. [log 160 DEDUCED] -/
def State.streamSeq (s : State) (type seq : Nat) : State :=
  let gap := match vget s.sp.seqRx (type - 1) with
    | some want => (seq + 65536 - want) % 65536
    | none => 0
  let s := s.spMod fun x => { x with seqRx := vset x.seqRx (type - 1) (some ((seq + 1) % 65536)) }
  s.putN Obj.STREAM_SEQ_GAPS ((s.nat Obj.STREAM_SEQ_GAPS + gap) % 2 ^ 32 : Nat)
/-- STREAM_FRAME_RECEIVED (R471–R473, R475, R477, R478): a frame arrives at a time. A broken one is counted and discarded; its
buffer is freed in either case. [log 161 DEDUCED] -/
def runStreamFrameReceived (f : StreamFrame) (now : Nat) (s : State) : Res :=
  if s.streamState ≠ 3 then .next s
  else
    let type := f.type.toNat
    let s := s.putN Obj.STREAM_CODE_ERRORS ((s.nat Obj.STREAM_CODE_ERRORS + f.codeErrors) % 2 ^ 32 : Nat)
    let s := s.spMod fun x => { x with freed := vmod x.freed (streamClass type) fun u => (u + streamCredits f.payload.length) % 65536 }
    if !streamGood f ∨ !streamValid type f.payload.length (f.flags.toNat.testBit 0) then .next (s.count Obj.STREAM_CRC_ERRORS 32)
    else
      let s := (s.count Obj.STREAM_FRAMES_RX 32).streamSeq type f.seq.toNat
      if type = 2 then .next (s.azReceive 4 now f.payload)
      else if type = 4 then .next (s.imageFrame f)
      else .next s
/-- IMAGE_LOAD_IDLE (R478): a load left without frames for 2 s is discarded; its slot stays invalid. -/
def runImageLoadIdle (s : State) : Res := .next (s.spMod fun x => { x with load := none })

end Sys2Proof.Machine
end

