-- ==== Sys2Proof/Machine/Live.lean ====
section
/-!
DEFINITION. Machine/Live.lean: what a read of the dictionary finds (R126, R128, R144, R148): the entry a unit shows of its
own state, the value the owner of a COMMISSION session has staged, and everything else as the dictionary holds it.
-/
namespace Sys2Proof.Machine

/-- Does a key lie in the records of the units 0 to `count` − 1 that start at `base`, every `stride` keys? -/
def unitOf (key base stride count : Nat) : Option Nat :=
  if base ≤ key ∧ (key - base) % stride = 0 ∧ (key - base) / stride < count then some ((key - base) / stride) else none

/-- R182: the node that a converter's or channel's result, status or conduction entry mirrors, and whether it is signed. -/
def mirrorNode (key : Nat) : Option (Nat × Bool) :=
  let at' (base count node : Nat) (signed : Bool) : Option (Nat × Bool) := (unitOf key base 256 count).map fun n => (node + n, signed)
  (at' (Obj.IC_RESULT 0) 18 64 true).or ((at' (Obj.IC_STATUS 0) 18 192 false).or ((at' (Obj.IC_COND 0) 18 256 false).or
    ((at' (Obj.SC_RESULT 0) 16 96 true).or ((at' (Obj.SC_STATUS 0) 16 224 false).or ((at' (Obj.SC_COND 0) 16 288 false).or
      ((at' (Obj.CH_RESULT 0) 60 320 true).or (at' (Obj.CH_STATUS 0) 60 384 false)))))))

/-- R250: the node an index of the node entries names. -/
def nodeOfKey (key : Nat) : Option Nat :=
  let idx := key / 256
  if 0x5400 ≤ idx ∧ idx ≤ 0x541F ∧ 1 ≤ key % 256 ∧ key % 256 ≤ 128 then some (128 * (idx - 0x5400) + key % 256 - 1) else none

/-- R248: a field of a running row. -/
def CellRow.entry (r : CellRow) (sub : Nat) : Val :=
  match sub with
  | 0x01 => .nat r.law
  | 0x02 => .nat r.group
  | 0x03 => .nat r.phase
  | 0x04 => .nat (r.inA + r.inB * 2 ^ 16 + r.inC * 2 ^ 32 + r.inD * 2 ^ 48)
  | 0x05 => .nat r.out
  | 0x06 => .fx r.k0.1 r.k0.2
  | 0x07 => .fx r.k1.1 r.k1.2
  | 0x08 => .fx r.k2.1 r.k2.2
  | 0x09 => .fx r.k3.1 r.k3.2
  | 0x0A => .num r.p0
  | 0x0B => .num r.p1
  | _ => .num r.p2
/-- R248: what a cell's entry shows of the running engine: its state words, its status, and in basic mode the allocated row
of a cell that is not overridden. -/
def State.cellEntry (s : State) (n sub : Nat) : Option Val :=
  if sub = 0x0E then some (.num (vget s.lp.cells n).s0)
  else if sub = 0x0F then some (.num (vget s.lp.cells n).s1)
  else if sub = 0x10 then some (.nat (s.cellStatus n))
  else if 1 ≤ sub ∧ sub ≤ 0x0C ∧ s.nat Obj.LOOP_ALLOC_MODE = 0 ∧ n < 192 ∧ s.n (Obj.CELL_OVERRIDE n) = 0 ∧ s.lp.running then
    some ((vget s.lp.cells n).row.entry sub)
  else none

/-- R251: words allocated to capture rings. -/
def captureUsed (get : Nat → Nat) : Nat :=
  (List.range 32).foldl (fun x c => if (get (Obj.TRACE_DEST c)).testBit 0 then x + get (Obj.TRACE_LENGTH c) else x) 0
/-- R464: the consumers that are not in RUN, one bit each. -/
def State.azSafeMap (s : State) : Nat :=
  s.azConsumers.foldl (fun m c => if s.nat (Obj.AZ_STATE c) = 2 then m else m ||| 2 ^ c) 0
/-- R380, R404: CHAP_ARM: the arm signals, and the axes whose active short circuit a chaperone out of its reset grants. -/
def State.chapArm (s : State) : Nat :=
  s.ch.armed + (List.range 6).foldl (fun m n => if s.chapState ≠ 0 ∧ s.ascMay n then m + 2 ^ (26 + n) else m) 0

/-- R42: the entries that show the straps. -/
def State.strapEntry (s : State) (key : Nat) : Option Val :=
  if key = Obj.LANE_NUMBER then some (.nat s.laneNo)
  else if key = Obj.SET_SIZE then some (.nat (if s.threeLane then 3 else 2))
  else if key = Obj.FUNC then some (.nat s.funcNo)
  else if key = Obj.UNIT then some (.nat s.unitNo)
  else if key = Obj.NODE_ADDRESS then some (.nat s.nodeAddr)
  else if key = Obj.MASTER_ENABLE then some (.nat (b2n s.masterEn))
  else if key = Obj.CFG_SEAL then some (.nat (b2n s.sealMode))
  else none
/-- R68, R96, R114: the entries that show the supplies, the power states and the votes; those of the power states stand at their
defaults until a start that is due has begun. -/
def State.powerEntry (s : State) (key : Nat) : Option Val :=
  if key = Obj.AON_SOURCE then some (.nat (b2n s.aonFromVbat))
  else if key = Obj.POWER_STATE then (if s.st.due.isSome then none else some (.nat s.powerState))
  else if key = Obj.VOTE_CLOSED then (if s.st.due.isSome then none else some (.nat s.votes))
  else if key = Obj.AON_TICK then some (.nat (s.pw.tick % 2 ^ 32))
  else (unitOf key (Obj.VOTE_MASK 0) 1 15).map fun c => .nat (s.voteMask c)
/-- R404: CHAP_BANK_USED: bytes of the active serialisation; 0 while no set has been confirmed. [log 25 DESIGN CHOICE] -/
def State.bankUsed (s : State) : Nat := if s.nat Obj.SIG_STATE = 0 then 0 else (serialisation s.get).length
/-- R152: the entries of sessions and signature. -/
def State.sessionEntry (s : State) (key : Nat) : Option Val :=
  if key = Obj.LOCKOUT_REMAIN then some (.nat ((s.se.lockout + 99999999) / 100000000))
  else if key = Obj.TRANSFERS_OPEN then some (.nat s.se.transfers.length)
  else if key = Obj.SIG_COMPUTED then some (.nat s.sigComputed)
  else if key = Obj.SIG_STATE then some (.nat s.sigState)
  else if key = Obj.SEALED_ENTRIES then some (.nat sealedKeys.length)
  else if key = Obj.CHAP_BANK_USED then some (.nat s.bankUsed)
  else none
/-- R251, R253, R280, R293: the entries of trace, of dither, of the cells an axis uses and of a generator's status. -/
def State.loopEntry (s : State) (key : Nat) : Option Val :=
  let axis (base : Nat → Nat) (sub : Nat) : Option Val :=
    (unitOf key (base 0) 65536 6).map fun n => .nat (s.axCell (base n) n sub)
  if key = Obj.TRACE_CAPTURE_USED then some (.nat (captureUsed s.nat))
  else if (unitOf key (Obj.MX_STATUS 0) 16384 12).isSome then some (.nat (s.genStatus ((key - Obj.MX_STATUS 0) / 16384)))
  else if key = Obj.DITHER_SPAN then
    some (.nat (ditherSpan (tickBase (s.nat Obj.BEAT_LENGTH) (s.nat Obj.TICKS_PER_BEAT)) (s.nat Obj.DITHER_PCT)))
  else match unitOf key (Obj.TRACE_BUFFER 0) 256 32 with
    | some c => some (.oct ((vget s.lp.trace c).ring.flatMap fun w => le 4 w.toNat))
    | none => (axis Obj.AX_PI_D_CELL 1).or ((axis Obj.AX_PI_Q_CELL 3).or (axis Obj.AX_RATE_CELL 7))
/-- R375, R404, R439: the entries of the lane's role and partners, the chaperone and the ports. -/
def State.laneEntry (s : State) (key : Nat) : Option Val :=
  if key = Obj.LANE_ROLE then some (.nat s.role)
  else if key = Obj.CHAP_ARM then some (.nat s.chapArm)
  else match unitOf key (Obj.PEER_LANE 0) 256 2 with
    | some p => some (.nat (s.peerLane p))
    | none => match unitOf key (Obj.PORT_NETWORK 0) 256 4 with
      | some p => some (.nat (s.portNet p))
      | none => (unitOf key (Obj.PORT_ADDRESS 0) 256 4).map fun p => .nat (s.portAddr p)
/-- R464, R509, R528: the entries of the Azsin summary, the recorder and the fault collector. -/
def State.sumEntry (s : State) (key : Nat) : Option Val :=
  if key = Obj.AZ_USED then some (.nat s.azConns.length)
  else if key = Obj.AZ_SAFE_COUNT then
    some (.nat (countOf (s.azConsumers.map fun c => s.nat (Obj.AZ_STATE c) == 1 || s.nat (Obj.AZ_STATE c) == 3)))
  else if key = Obj.AZ_SAFE_MAP then some (.oct (le 128 s.azSafeMap))
  else if key = Obj.ACTIVE_COUNT then some (.nat s.col.rows.length)
  else if key = Obj.RECORD_STATE then some (.nat s.recordState)
  else if key = Obj.FAULT_STATUS then some (.nat s.faultStatus)
  else if key = Obj.ACTIVE_TABLE then some (.oct (s.col.rows.flatMap FaultRow.bytes))
  else if key = Obj.LOG_WINDOW then some (.oct s.logWindow)
  else none

/-- R250, R182, R248: the entries that show nodes and cells. -/
def State.engineEntry (s : State) (key : Nat) : Option Val :=
  match nodeOfKey key, mirrorNode key with
  | some n, _ => some (.num (s.node n))
  | none, some (n, signed) => some (if signed then .num (s.node n) else .nat (s.nodeU n))
  | none, none => if 0x5100 ≤ key / 256 ∧ key / 256 ≤ 0x51FF then s.cellEntry (key / 256 - 0x5100) (key % 256) else none

/-- What an entry shows to a reader that owns no COMMISSION session. -/
def State.live (s : State) (key : Nat) : Val :=
  ((s.engineEntry key).or ((s.strapEntry key).or ((s.powerEntry key).or ((s.sessionEntry key).or ((s.loopEntry key).or
    ((s.laneEntry key).or (s.sumEntry key))))))).getD (s.get key)

/-- R135, R148: does a client own a COMMISSION session? -/
def State.ownsSession (s : State) (c : Client) (level : Nat) : Bool := s.se.owner == some c && decide (level ≤ s.nat Obj.SESSION_CURRENT)
/-- R148: the owner of a COMMISSION session reads staged values. [log 15, 119 DEDUCED] -/
def State.shown (s : State) (c : Client) (key : Nat) : Val :=
  if s.ownsSession c 3 ∧ isSealed key ∧ s.stagedGet key ≠ s.get key then s.stagedGet key else s.live key
/-- R144: the bytes a read of an entry returns; TJ_CHAP reads a sensor of the chaperone die, whose value the manual does not
give a lane. [log 15 DEDUCED; log 178 DESIGN CHOICE] -/
def State.readBytes (s : State) (c : Client) (key : Nat) : List Byte × State :=
  if key = Obj.TJ_CHAP then (leInt 2 (s.draw.1.setWidth 16).toInt, s.draw.2) else (entryBytes key (s.shown c key), s)

end Sys2Proof.Machine
end

