-- ==== Sys2Proof/Machine/Checks.lean ====
section
/-!
DEFINITION. Machine/Checks.lean: the checks that a confirmation judges the staged set by, in the order of R149, and the
rest a write of an RWR entry needs (R128).
-/
namespace Sys2Proof.Machine

/-- R149: the sealed set with its staged edits, as the next start would run it. [log 175 DEDUCED] -/
def State.stagedSet (s : State) : Sparse Val :=
  s.staged.foldl (fun l e => Sparse.set defaultOf l e.1 e.2) (if s.nat Obj.SIG_STATE = 2 then s.confirmed else s.sealedSet)
/-- R149: the lane with its staged set in place of its active one; the checks read it and nothing else. -/
def State.asStaged (s : State) : State :=
  s.loadFrom s.stagedSet

/-! ### R230, R281, R284, R299, R313. -/

/-- R230: the first check of the cell table that fails and the cell it names; a coefficient the allocation cannot hold
breaks a law's limits. -/
def State.tableFails (t : State) : Option (Nat × Nat) :=
  let rows := tableRows t.get
  let limits := rows.map fun (r : CellRow) => if r.overflows then { r with law := 10 } else r
  admitTable limits (t.nat Obj.BEAT_LENGTH) (t.nat Obj.TICKS_PER_BEAT) (t.nat Obj.LOOP_MARGIN)
/-- R281: no two generators name the same target. -/
def State.assignOk (t : State) : Bool :=
  decide (((List.range 12).map fun m => t.nat (Obj.MX_ASSIGN m)).filter (· ≠ 0xFF)).Nodup
/-- R284: a step pair's pulses fit its highest rate. -/
def State.pulsesOk (t : State) : Bool :=
  (List.range 12).all fun m => t.nat (Obj.MX_ASSIGN m) / 16 != 2 || decide (t.nat (Obj.MX_VMAX m) * 2 * t.nat (Obj.MX_STEP_PULSE m) ≤ 1000000000)
/-- R299: GEAR_BAND_DOWN lies below GEAR_BAND_UP. -/
def State.bandsOk (t : State) : Bool := (List.range 12).all fun m => decide (t.nat (Obj.GEAR_BAND_DOWN m) < t.nat (Obj.GEAR_BAND_UP m))
/-- R313: the sine tables keep their steppers within 1,500 mA. -/
def State.sinesOk (t : State) : Bool := (List.range 4).all fun k => sineTableOk (t.nat (Obj.VS_I_RUN k)) (t.oct (Obj.VS_SINE_TABLE k))

/-! ### R348, R383, R387, R395. -/

/-- The sum of numbers. -/
def total (l : List Nat) : Nat := l.foldl (· + ·) 0
/-- R348: the shares of an axle with a non-zero share: it has a friction output and its fractions sum to 1,000. -/
def State.axleOk (t : State) (a : Nat) : Bool :=
  let fric := (List.range 8).filter fun i => t.nat (Obj.FRIC_AXLE i) = a
  t.nat (Obj.AXLE_SHARE a) == 0 || (!fric.isEmpty && total (fric.map fun i => t.nat (Obj.FRIC_FRACTION i)) == 1000)
/-- R348: a named node is one that firmware may read or write. -/
def blendNode (n : Nat) : Bool := n == 0xFFFF || (3072 ≤ n && n ≤ 4095)
/-- R348: every node that blending names. -/
def State.blendNodes (t : State) : List Nat :=
  ([Obj.VEH_MASS_NODE, Obj.AUTO_DEMAND_NODE, Obj.VEH_SPEED_NODE, Obj.HV_REPORT_NODE, Obj.HV_ACCEPT_NODE, Obj.GRID_AVAIL_NODE] ++
    (List.range 8).map Obj.INV_AVAIL_NODE).map t.nat
/-- R348, R333. -/
def State.blendOk (t : State) : Bool :=
  (t.nat Obj.BLEND_ENABLE == 0 || total ((List.range 4).map fun a => t.nat (Obj.AXLE_SHARE a)) == 1000) &&
    ((List.range 4).all t.axleOk) && t.blendNodes.all blendNode &&
    ((List.range 8).all fun w => let n := t.nat (Obj.WHEEL_SRC w); blendNode n || (560 ≤ n && n ≤ 571)) && pedalMapOk (pedalRows (t.oct Obj.PEDAL_MAP)) &&
    decide (t.nat Obj.REGEN_FADE_LO < t.nat Obj.REGEN_FADE_HI) &&
    ((List.range 4).all fun a => decide (t.nat (Obj.SLIP_HYST a) ≤ t.nat (Obj.SLIP_THRESH a))) &&
    decide (2 ≤ t.nat Obj.BLEND_TICK ∧ t.nat Obj.BLEND_TICK < t.nat Obj.TICKS_PER_BEAT)
/-- R383: the rate curve of a lane whose chaperone judges steering axes. -/
def State.curveOk (t : State) : Bool := t.nat Obj.CH_STEER_AXES == 0 || rateCurveOk (rateRows (t.oct Obj.CH_RATE_CURVE))
/-- R387: does a sealed entry count against the bank? Those of an unused connection do not (DESIGN CHOICE, log 12: with them the
set of an untouched lane would already exceed 64 KB). [log 12 DESIGN CHOICE] -/
def banked (get : Nat → Val) (key : Nat) : Bool :=
  !(0xB000 ≤ key / 256 && key / 256 < 0xB400) || getNat get (Obj.AZ_ROLE (key / 256 - 0xB000)) != 0
/-- R387: the serialisation fits the chaperone's bank of 64 KB. [log 12 DESIGN CHOICE] -/
def State.bankOk (t : State) : Bool :=
  decide (total ((sealedKeys.filter (banked t.get)).map fun k => (sealedBytes k (t.get k)).length) ≤ 65536)
/-- R395: the last waltz waits longer than a lease. -/
def State.waltzOk (t : State) : Bool := decide (t.nat Obj.CARD_LEASE + 5 ≤ t.nat Obj.WALTZ_WAIT)

/-! ### R415: schedules. -/

/-- What a schedule is judged by: whether it is port C's, the beat in 10 ns counts, BEATS_PER_REEL, and the arbitration and
data rates in kbit/s. -/
structure SchedCtx where
  portC : Bool
  beat : Nat
  reel : Nat
  arb : Nat
  data : Nat
  deriving DecidableEq, Repr

/-- The numbers of the rows that a test finds. -/
def rowsWhere (rows : List SchedRow) (p : SchedRow → Bool) : List Nat := (rows.zipIdx.filter fun x => p x.1).map (·.2)
/-- R412: the windows present in a beat of the reel, by start. -/
def presentRows (rows : List SchedRow) (i : Nat) : List (SchedRow × Nat) :=
  (rows.zipIdx.filter fun x => x.1.present i).insertionSort fun a b => a.1.start ≤ b.1.start
/-- R415, check 1. -/
def SchedCtx.fieldBad (x : SchedCtx) (r : SchedRow) : Bool :=
  decide (23 < r.window ∨ 2 ^ r.rep ≤ r.base ∨ x.reel < 2 ^ r.rep ∨ 2048 < r.length ∨ x.beat ≤ r.start) || (r.fd && r.type != 2)
/-- R415, check 2; R411: an ARBITRATING row has 0 above its rights mask. -/
def SchedCtx.ownerBad (x : SchedCtx) (r : SchedRow) : Bool :=
  if r.type = 1 then r.owner != 0x7F && !decide (1 ≤ r.owner ∧ r.owner ≤ (if x.portC then 3 else 126))
  else if r.type = 2 then decide (16 ≤ r.owner) else r.owner != 0
/-- R415, check 3 in one beat. -/
def numbersBad (l : List (SchedRow × Nat)) : List Nat :=
  ((l.zip (l.drop 1)).filter fun p => decide (p.2.1.window ≤ p.1.1.window)).map (·.2.2) ++ (l.drop 24).map (·.2)
/-- R413: E of a row. -/
def SchedCtx.closes (x : SchedCtx) (r : SchedRow) : Nat := r.start + 200 + frameBudget x.arb x.data r.fd r.length
/-- R415, check 4 in one beat. -/
def SchedCtx.spacingBad (x : SchedCtx) (l : List (SchedRow × Nat)) : List Nat :=
  ((l.zip (l.drop 1)).filter fun p => decide (p.2.1.start < x.closes p.1.1 + 400)).map (·.2.2) ++
    ((l.getLast?.toList.filter fun p => decide (x.beat < x.closes p.1 + 400)).map (·.2))
/-- R415, check 5 in one beat: window 0. -/
def zeroBad (spares : Nat) (l : List (SchedRow × Nat)) : List Nat :=
  let zero := l.filter fun p => p.1.window == 0
  if zero.isEmpty then [0]
  else (zero.filter fun p => !(p.1.start == 0 && p.1.type == 1 && p.1.owner == 0x7F && decide (36 + 2 * spares ≤ p.1.length))).map (·.2)
/-- R415: the rows of a schedule that fail a check. -/
def SchedCtx.fails (x : SchedCtx) (rows : List SchedRow) (check : Nat) : List Nat :=
  let beats (f : List (SchedRow × Nat) → List Nat) : List Nat := (List.range x.reel).flatMap fun i => f (presentRows rows i)
  let spares := rowsWhere rows fun r => r.type == 3
  if rows.isEmpty then []
  else match check with
    | 1 => rowsWhere rows x.fieldBad
    | 2 => rowsWhere rows x.ownerBad
    | 3 => beats numbersBad
    | 4 => beats x.spacingBad
    | 5 => if x.portC then [] else rowsWhere rows (fun r => r.window != 0 && r.type == 1 && r.owner == 0x7F) ++ beats (zeroBad spares.length)
    | _ => if x.portC then spares else spares.drop 32
/-- What the schedule of a port is judged by. -/
def State.schedCtx (t : State) (p : Nat) : SchedCtx :=
  { portC := p == 2, beat := t.nat Obj.BEAT_LENGTH * 100, reel := t.nat Obj.BEATS_PER_REEL,
    arb := t.nat (Obj.PORT_ARB_RATE p), data := t.nat (Obj.PORT_DATA_RATE p) }
/-- R415: the rows of a table that fail a check; SCHED_AB is judged at the rates of A and of B. -/
def State.schedFails (t : State) (check table : Nat) : List Nat :=
  let port (p : Nat) : List Nat := (t.schedCtx p).fails (schedRows (t.oct (schedKey p))) check
  if table = 0 then port 0 ++ port 1 else port (table + 1)
/-- R415: the first check that fails, with the table and its lowest failing row, as SCHED_REJECT shows them. -/
def State.schedReject (t : State) : Option Nat :=
  let find := (List.range 6).flatMap fun k => (List.range 3).filterMap fun table =>
    (t.schedFails (k + 1) table).min?.map fun row => (k + 1) * 2 ^ 24 + table * 2 ^ 16 + row
  if find.isEmpty ∧ t.nat (Obj.PORT_UPLINK 0) = 3 ∧ t.nat (Obj.PORT_UPLINK 3) = 0 then some (7 * 2 ^ 24) else find.head?

/-! ### R455, R460. -/

/-- R447, R455: the longest window of a port in which the lane may send a message of a class, 0 for none: an arbitrating one
with events for class 1, an own or a spare one for class 0. -/
def State.longestWindow (t : State) (p cls : Nat) : Nat :=
  let may (r : SchedRow) : Bool :=
    if cls = 1 then r.type == 2 && r.owner.testBit 1 else (r.type == 1 && r.owner == t.portAddr p) || r.type == 3
  ((schedRows (t.oct (schedKey p))).filter may).foldl (fun m r => max m r.length) 0
/-- R455: a producer's message fits its windows on each egress port; the stream port has none. [log 179 DEDUCED] -/
def State.producerFits (t : State) (c egress : Nat) : Bool :=
  [0, 1, 3].all fun p => !egress.testBit p || decide (t.nat (Obj.AZ_LENGTH c) + 22 ≤ t.longestWindow p (t.nat (Obj.AZ_CLASS c)))
/-- R455: the map of a connection. -/
def State.mapOk (t : State) (c : Nat) : Bool :=
  let rows := t.azMap c
  let consumer := t.nat (Obj.AZ_ROLE c) == 2
  (rows.all fun r => (r.width == 1 || r.width == 2 || r.width == 4) && decide (r.offset + r.width ≤ t.nat (Obj.AZ_LENGTH c)) &&
    (!consumer || decide (3136 ≤ r.node ∧ r.node ≤ 3583))) && (rows.isEmpty || t.nat (Obj.AZ_LENGTH c) != 0)
/-- R455: one connection. -/
def State.connOk (t : State) (c : Nat) : Bool :=
  let id := t.nat (Obj.AZ_ID c)
  id != 0 && id != 0xFFFF && decide (t.nat (Obj.AZ_MISS_MAX c) ≤ 7) && decide (t.nat (Obj.AZ_PHASE c) < t.nat (Obj.AZ_PERIOD c)) &&
    t.mapOk c && (t.nat (Obj.AZ_ROLE c) != 1 || match t.azEgress (field (t.nat (Obj.AZ_PEER c)) 11 8) with
      | some e => t.producerFits c e
      | none => false)
/-- R455: the lane as a route's lead-only rows see it: every row counts. -/
def State.asLead (t : State) : State := { t with ch.leadOut := true }
/-- R455. -/
def State.azOk (t : State) : Bool :=
  let t := t.asLead
  (t.azConns.all t.connOk) && decide (t.azProducers.map t.azId).Nodup && decide (t.azConsumers.map fun c => t.nat (Obj.AZ_ID c)).Nodup &&
    decide (t.azConsumers.flatMap fun c => (t.azMap c).map (·.node)).Nodup
/-- R460: the route table. -/
def State.routesOk (t : State) : Bool :=
  (routeRows (t.oct Obj.ROUTE_TABLE)).all fun r => decide (r.egress ≤ 4) && (r.egress != 3 || t.nat (Obj.PORT_ROLE 3) != 0)

/-! ### R500, R551. -/

/-- R500: the event store holds an event of the settings. -/
def State.rowsOk (t : State) : Bool := decide (t.rowsIn (t.nat Obj.RECORD_PRE) + t.rowsIn (t.nat Obj.RECORD_POST) ≤ 262080)
/-- R551, R29: the nominal tick is at least 31.25 µs. -/
def State.tickOk (t : State) : Bool := decide (125 * t.nat Obj.TICKS_PER_BEAT ≤ 4 * t.nat Obj.BEAT_LENGTH)
/-- R551, R278: peak currents are at most three times the rated ones. -/
def State.peaksOk (t : State) (n : Nat) : Bool :=
  decide (t.nat (Obj.AX_I_PEAK n) ≤ 3 * t.nat (Obj.AX_I_RATED n)) && decide (t.nat (Obj.AX_BR_I_PEAK n) ≤ 3 * t.nat (Obj.AX_BR_I_RATED n))
/-- R551: the dependencies between sealed entries. [log 176 DEDUCED] -/
def State.dependsOk (t : State) : Bool :=
  t.tickOk && decide (2 * t.nat Obj.CARD_RENEW ≤ t.nat Obj.CARD_LEASE) && decide (t.nat Obj.SHADOW_TICK < t.nat Obj.TICKS_PER_BEAT) &&
    decide (t.nat Obj.WDG_OPEN + 10 ≤ t.nat Obj.WDG_CLOSE) &&
    ((List.range 6).all fun n => decide (t.nat (Obj.AX_FW_THRESH n) ≤ t.nat (Obj.AX_M_MAX n)) && t.peaksOk n) &&
    ((List.range 4).all fun k => decide (t.nat (Obj.VS_I_HOLD k) ≤ t.nat (Obj.VS_I_RUN k))) &&
    ((List.range 16).all fun m => decide (t.nat (Obj.SOL_PULLIN_MIN m) ≤ t.nat (Obj.SOL_PULLIN_TIME m))) &&
    (List.range 12).all fun m => decide (t.nat (Obj.MX_V_MIN m) ≤ t.nat (Obj.MX_VMAX m))

/-! ### Confirmation (R149). -/

/-- R149, step 4: the checks after R230 and before R415; those after R415. -/
def State.checksBefore (t : State) : Bool :=
  t.assignOk && t.pulsesOk && t.bandsOk && t.sinesOk && t.blendOk && t.curveOk && t.bankOk && t.waltzOk
def State.checksAfter (t : State) : Bool := t.azOk && t.routesOk && t.rowsOk && t.dependsOk
/-- R149, step 5: the staged set goes to flash and to the chaperone. -/
def State.confirmStaged (s : State) (v : Nat) : State :=
  { ((s.putN Obj.SIG_STAGED v).putN Obj.SIG_STATE 2).putN Obj.SIG_CONFIRM_TIME s.stamp with
    confirmed := s.stagedSet, staged := [], ch.staged := s.stagedSet }
/-- R149, R146: SIG_CONFIRM is written: the state, and the abort code of a rejection; `flash` is false where the flash does not
take the set. [log 208 DEDUCED] -/
def State.sigConfirm (s : State) (v : Nat) (flash : Bool) : State × AbortCode :=
  let t := s.asStaged
  if v ≠ s.sigComputed then (s, 0x06080001)
  else if s.staged.isEmpty ∧ s.nat Obj.SIG_STATE ≠ 0 then (s, 0x06080002)
  else match t.tableFails with
    | some (k, cell) => (s.putN Obj.LOOP_REJECT (k * 65536 + cell : Nat), 0x06050004)
    | none =>
      if !t.checksBefore then (s, 0x06050004)
      else match t.schedReject with
        | some r => (s.putN Obj.SCHED_REJECT r, 0x06050004)
        | none => if !t.checksAfter then (s, 0x06050004) else if flash then (s.confirmStaged v, 0) else (s, 0x060A0001)

/-! ### Rest (R128, R216, R245, R286). -/

/-- R216: do the axes or the gearing in motion use an observer? -/
def State.axesUse (s : State) (o : Nat) : Bool :=
  (List.range 6).any fun n => s.axState n == 2 &&
    (s.nat (Obj.AX_ANGLE_SRC1 n) == o || s.nat (Obj.AX_ANGLE_SRC2 n) == o || s.nat (Obj.AX_POS_SRC n) == o)
/-- R216: a gearing that runs follows a master of this code: a generator in MODE 3, or one that a STOP still brings to rest
from it (R290, R294). -/
def State.gearsUse (s : State) (code : Nat) : Bool := (List.range 12).any fun m => s.genMode m == 3 && s.nat (Obj.GEAR_MASTER m) == code

end Sys2Proof.Machine
end

