-- ==== Sys2Proof/Machine/Dictionary.lean ====
section
/-!
DEFINITION. Machine/Dictionary.lean: the judgement of a write and what it does (R126–R134, R148–R153, R551), and the
commands that are writes of one entry.
-/
namespace Sys2Proof.Machine

/-! ### Who may write (R128, R130, R133, R134, R143). -/

/-- R135: the session level of a client: 0 OPERATE, 1 SERVICE, 2 EXPERT, 3 COMMISSION. -/
def State.level (s : State) (c : Client) : Nat := if s.se.owner = some c then s.nat Obj.SESSION_CURRENT else 0
/-- R143, R20, R23, R110: the dictionary service runs and serves a client: from step 5 of a start, not in an application
restart or the recovery loader, and over the stream port only in a fail-silent lane. [log 180 DEDUCED] -/
def State.serves (s : State) (c : Client) : Bool :=
  s.appRuns && s.pw.sleep == 0 && (!s.col.failSilent || c == .stream)
/-- R134, R139, R149, R277: the session that an entry's meaning names. -/
def namedLevel (key : Nat) (bytes : List Byte) : Nat :=
  if [Obj.SIG_CONFIRM, Obj.KEY_SERVICE, Obj.KEY_EXPERT, Obj.KEY_COMMISSION].contains key ∨ (unitOf key (Obj.AX_IDENTIFY 0) 65536 6).isSome then 3
  else if [Obj.SLOT_PREFERRED, Obj.SLOT_CONFIRM, Obj.RESET_REQUEST, Obj.LEAD_REQUEST, Obj.MASTER_PRIORITY, Obj.FAULT_CLEAR].contains key then 1
  else if key = Obj.RECORD_COMMAND ∧ bytes = [0x45#8] then 1 else 0
/-- R133: the least session that may write an entry by its level and persistence. -/
def writeNeed (r : ObjRow) : Nat :=
  if r.level = .expert then 2 else if r.persist = .stored ∨ r.persist = .sealed then 1 else 0

/-! ### The value (R127, R551). -/

/-- The integer of a value. -/
def valInt : Val → Int
  | .num n => n
  | .fx k _ => k
  | .oct _ => 0
/-- R167: may a row stand in a scan table? -/
def scanRowOk (w : Nat) : Bool :=
  let ch := scanCh w
  let code := field w 25 23
  decide (ch ≤ 59) && (48 ≤ ch || (code != 2 && code != 3)) && w % 16 == 0 && decide (5 ≤ field w 11 4 ∧ field w 11 4 ≤ 200) &&
    decide (1 ≤ field w 21 12 ∧ field w 21 12 ≤ if w.testBit 22 then 16 else 400)
/-- The tables with a greatest number of rows: first key, stride, count, row size and rows. -/
def rowLimits : List (Nat × Nat × Nat × Nat × Nat) :=
  [(Obj.PEDAL_MAP, 1, 1, 4, 8), (Obj.GEAR_TABLE0 0, 256, 12, 12, 16), (Obj.GEAR_TABLE1 0, 256, 12, 12, 16), (Obj.SCHED_AB, 1, 3, 8, 256),
   (Obj.ROUTE_TABLE, 1, 1, 4, 64), (Obj.AZ_MAP 0, 256, 1024, 12, 32), (Obj.GC_SCAN 0, 256, 4, 4, 32)]
/-- R153, R167, R295, R313, R336, R383: a table's own limits: how many rows, and what a row may hold; 0 when it may stand.
An empty CH_RATE_CURVE has a wrong length. [log 209 DESIGN CHOICE] -/
def tableJudge (key : Nat) (b : List Byte) : AbortCode :=
  let scan := (unitOf key (Obj.GC_SCAN 0) 256 4).isSome
  if (scan ∨ key = Obj.PEDAL_MAP) ∧ b.isEmpty then 0x06090001
  else if (unitOf key (Obj.VS_SINE_TABLE 0) 8192 4).isSome ∧ b.length ≠ 1024 then 0x06040001
  else if key = Obj.CH_RATE_CURVE ∧ b.length ≠ 32 then 0x06040001
  else if rowLimits.any fun (k, stride, count, size, most) => (unitOf key k stride count).isSome && decide (size * most < b.length) then 0x06040002
  else if scan ∧ !(scanRows b).all scanRowOk then 0x06040002
  else if ((unitOf key (Obj.GEAR_TABLE0 0) 256 12).isSome ∨ (unitOf key (Obj.GEAR_TABLE1 0) 256 12).isSome) ∧ !gearRowsOk (gearRows b) then 0x06040002
  else if (unitOf key (Obj.VS_SINE_TABLE 0) 8192 4).isSome ∧ (rowsOf 2 b).any fun x => decide (0x8000 < leNat x) then 0x06040002
  else 0
/-- R551: an entry's own range, set or limits; 0 when the value may stand. [log 35, 137 DEDUCED] -/
def valueJudge (r : ObjRow) (key : Nat) (v : Val) : AbortCode :=
  match v with
  | .num n => (r.chk.judge n).getD 0
  | .fx _ _ => 0
  | .oct b => tableJudge key b
/-- R551, R128, R131, R133, R134, R150: a write as far as it is judged by itself: existence, access, session, type and
length, range and set. [log 171 DEDUCED] -/
def State.writeJudge (s : State) (c : Client) (key : Nat) (bytes : List Byte) : Except AbortCode (ObjRow × Val) :=
  match rowOf key with
  | none => .error (if indexExists (key / 256) then 0x06010002 else 0x06010001)
  | some r =>
    if r.acc = .ro then .error 0x06020001
    else if r.acc = .rwc ∧ s.level c < 3 then .error 0x06050002
    else if s.level c < max (writeNeed r) (namedLevel key bytes) then .error 0x06030001
    else if r.persist = .sealed ∧ s.sealMode then .error 0x06050003
    else match r.ty.decode bytes with
      | .error e => .error e
      | .ok v => if valueJudge r key v = 0 then .ok (r, v) else .error (valueJudge r key v)

/-! ### Rest (R128, R182, R216, R245, R286). -/

/-- R216: an axis that is armed uses an observer. -/
def State.obsArmed (s : State) (o : Nat) : Bool :=
  s.axesUse o || (List.range 6).any fun n => s.ch.armed.testBit n && decide (s.axState n ≤ 1) &&
    (s.nat (Obj.AX_ANGLE_SRC1 n) == o || s.nat (Obj.AX_ANGLE_SRC2 n) == o || s.nat (Obj.AX_POS_SRC n) == o)
/-- R216, R208, R294: a source is used, through an observer of an armed axis (by its code in OB_SOURCE) or as a running
gearing's master (by its code in GEAR_MASTER, which a hall set has none of). -/
def State.sourceUsed (s : State) (codes masters : List Nat) : Bool :=
  ((List.range 12).any fun o => codes.contains (s.nat (Obj.OB_SOURCE o)) && s.obsArmed o) || masters.any s.gearsUse
/-- R128: is the unit that owns an RWR entry at rest? -/
def State.unitRest (s : State) (key : Nat) : Bool :=
  let idx := key / 256
  if key = Obj.IC_REF ∨ key = Obj.IC_BLANK then s.ms.calRun == 0 && (List.range 6).all fun n => s.axState n == 0
  else if key = Obj.SC_REF then s.ms.calRun == 0 && (List.range 16).all fun m => (s.soln m).sw == .off
  else if 0x4000 ≤ idx ∧ idx < 0x4300 then !s.sourceUsed [(idx - 0x4000) / 64] [(idx - 0x4000) / 64]
  else if 0x4300 ≤ idx ∧ idx < 0x4306 then !s.sourceUsed [0x20 + (idx - 0x4300)] []
  else if 0x4400 ≤ idx ∧ idx < 0x4500 then !s.sourceUsed [0x10 + (idx - 0x4400) / 32, 0x18 + (idx - 0x4400) / 32] [0x10 + (idx - 0x4400) / 32, 0x18 + (idx - 0x4400) / 32]
  else if 0x4600 ≤ idx ∧ idx < 0x4780 then !s.obsArmed ((idx - 0x4600) / 32) && !s.gearsUse (0x20 + (idx - 0x4600) / 32)
  else if 0x5800 ≤ idx ∧ idx < 0x5840 then s.nat Obj.TRACE_STATE == 0 || s.nat Obj.TRACE_STATE == 3
  else if 0x7000 ≤ idx ∧ idx < 0x7300 then s.genAtRest ((idx - 0x7000) / 64)
  else true
/-- R286: a write rejected because its unit is not at rest; a generator reports it. -/
def State.restRejected (s : State) (key : Nat) : State :=
  let idx := key / 256
  s.when (0x7000 ≤ idx && idx < 0x7300) fun s => s.moveRejected ((idx - 0x7000) / 64) key (moveQual ((idx - 0x7000) / 64) key)

/-! ### Dependencies judged at a write (R551). -/

/-- R210: an observer's bandwidth under a beat length and ticks per beat. -/
def bwBad (bw beat ticks : Nat) : Bool := decide (40000 * ticks < bw * beat)
/-- R29, R210, R230: a staged tick or beat that makes a nominal tick below 31.25 µs, or that an enabled observer's bandwidth
or the active table's cost does not allow. -/
def State.tickBreaks (s : State) (key : Nat) (v : Int) : Bool :=
  let beat := if key = Obj.BEAT_LENGTH then v.toNat else (valInt (s.stagedGet Obj.BEAT_LENGTH)).toNat
  let ticks := if key = Obj.TICKS_PER_BEAT then v.toNat else (valInt (s.stagedGet Obj.TICKS_PER_BEAT)).toNat
  decide (4 * beat < 125 * ticks) || ((List.range 12).any fun o => s.nat (Obj.OB_SOURCE o) != 0xFF && bwBad (s.nat (Obj.OB_BW o)) beat ticks) ||
    (costOver (tableRows s.get) beat ticks (s.nat Obj.LOOP_MARGIN)).isSome
/-- R201, R219: the settings of a SENT channel, as they would stand. [log 34 DEDUCED] -/
def State.sentDepends (t : State) (n key : Nat) : AbortCode :=
  if (key = Obj.SN_FORMAT n ∨ key = Obj.SN_NIBBLES n) ∧ t.nat (Obj.SN_FORMAT n) = 1 ∧ t.nat (Obj.SN_NIBBLES n) ≠ 6 then
    (if key = Obj.SN_FORMAT n then 0x06040002 else 0x06050004)
  else if [Obj.SN_NIBBLES n, Obj.SN_PAUSE n, Obj.SN_FRAME_TICKS n].contains key ∧ t.nat (Obj.SN_PAUSE n) = 2 ∧
      t.nat (Obj.SN_FRAME_TICKS n) ≤ 56 + 27 * (2 + t.nat (Obj.SN_NIBBLES n)) then 0x06050004
  else 0
/-- R497: the capture area in words: 4,096 fewer for each trace SRAM unit without a spare. -/
def State.captureArea (s : State) : Nat :=
  196608 - 4096 * ((retireRows (s.oct Obj.RETIRE_LIST)).filter fun x => x.2.1 == 7 && x.2.2.2 == 0xFF).length
/-- R243, R251: the settings of a trace channel, as they would stand. -/
def State.traceDepends (t : State) (c key : Nat) : AbortCode :=
  if key = Obj.TRACE_PHASE c ∧ 2 ^ t.nat (Obj.TRACE_GROUP c) ≤ t.nat (Obj.TRACE_PHASE c) then 0x06040002
  else if key = Obj.TRACE_GROUP c ∧ 2 ^ t.nat (Obj.TRACE_GROUP c) ≤ t.nat (Obj.TRACE_PHASE c) then 0x06050004
  else if key = Obj.TRACE_POST c ∧ t.nat (Obj.TRACE_LENGTH c) < t.nat (Obj.TRACE_POST c) then 0x06040002
  else if key = Obj.TRACE_LENGTH c ∧ t.nat (Obj.TRACE_LENGTH c) < t.nat (Obj.TRACE_POST c) then 0x06050004
  else if (key = Obj.TRACE_LENGTH c ∨ key = Obj.TRACE_DEST c) ∧ t.captureArea < captureUsed t.nat then 0x06050004
  else 0
/-- R551: a dependency on another entry's present value; 0 when it holds. [log 34, 171 DEDUCED] -/
def State.depends (s : State) (key : Nat) (v : Val) : AbortCode :=
  let idx := key / 256
  let t := s.put key v
  if key = Obj.TICKS_PER_BEAT ∨ key = Obj.BEAT_LENGTH then (if s.tickBreaks key (valInt v) then 0x06050004 else 0)
  else if 0x4400 ≤ idx ∧ idx < 0x4500 then t.sentDepends ((idx - 0x4400) / 32) key
  else if 0x4600 ≤ idx ∧ idx < 0x4780 then
    (if key % 256 = 4 ∧ bwBad (valInt v).toNat (s.nat Obj.BEAT_LENGTH) (s.nat Obj.TICKS_PER_BEAT) then 0x06050004 else 0)
  else if 0x5820 ≤ idx ∧ idx < 0x5840 then t.traceDepends (idx - 0x5820) key
  else if 0x7000 ≤ idx ∧ idx < 0x7300 ∧ key % 256 = 0x0F then
    (if (valInt v).natAbs ≤ s.nat (Obj.MX_VMAX ((idx - 0x7000) / 64)) then 0 else 0x06040002)
  else if 0x7000 ≤ idx ∧ idx < 0x7300 ∧ key % 256 = 0x03 then
    (if s.n (Obj.MX_TARGET_SPEED ((idx - 0x7000) / 64)) |>.natAbs |> (· ≤ (valInt v).natAbs) then 0 else 0x06050004)
  else if 0x6000 ≤ idx ∧ idx < 0x6600 ∧ [0x0C, 0x0D, 0x0F, 0x10].contains (key % 256) then
    (if (s.asStaged.put key v).peaksOk ((idx - 0x6000) / 256) then 0 else 0x06040002)
  else if key = Obj.RECORD_PRE ∨ key = Obj.RECORD_POST then (if t.rowsOk then 0 else 0x06050004)
  else 0

/-! ### What a write does. -/

/-- The answer of a write that is carried out. -/
abbrev Wrote := State × AbortCode
/-- A rejection leaves everything unchanged (R146). -/
def State.orReject (s : State) : Except AbortCode State → Wrote
  | .ok t => (t, 0)
  | .error e => (s, e)

/-- R148, R240: a sealed entry is staged; a row field staged in basic mode stages its cell's override too. [log 18 DESIGN
CHOICE] -/
def State.stageWrite (s : State) (key : Nat) (v : Val) : State :=
  let n := key / 256 - 0x5100
  let rowField : Bool := 0x5100 ≤ key / 256 && n < 192 && 1 ≤ key % 256 && key % 256 ≤ 0x0C
  let s := s.stage key v
  s.when (rowField && valInt (s.stagedGet Obj.LOOP_ALLOC_MODE) == 0) (·.stage (Obj.CELL_OVERRIDE n) (.num 1))
/-- R129: an entry with no behaviour of its own takes its value; a WO entry keeps none. [log 19 DEDUCED] -/
def State.store (s : State) (r : ObjRow) (key : Nat) (v : Val) : State :=
  if r.acc = .wo then s else if r.persist = .stored then s.putStored key v else s.put key v

/-- R139, R152: a session key is written; 16 zero bytes return it to unprovisioned. [log 125 DEDUCED] -/
def State.keyWrite (s : State) (k : Nat) (v : Val) : State :=
  (s.putStored (Obj.KEY_SERVICE + k) v).keyShow
/-- R441: a new claim request starts afresh. [log 177 DEDUCED] -/
def State.claimWrite (s : State) (n : Nat) (v : Val) : State :=
  ((s.putStored (Obj.CLAIM_REQ n) v).claimMod n fun _ => {}).claimByte n 0
/-- R499, R502: RECORD_COMMAND. -/
def State.recordCommand (s : State) (x : Int) : State := if x = 0x54 then s.recTrigger 3 0 else s.recErase
/-- R505: RECORD_DOWNLOAD, which Ralune does not carry. -/
def State.recordDownload (s : State) (c : Client) (n : Nat) : Wrote :=
  if c = .stream then s.orReject (s.downloadStart n) else (s, 0x05010004)
/-- R245: TRACE_COMMAND. -/
def State.traceCommand (s : State) (x : Int) : State := if x = 0x41 then s.traceArm else if x = 0x54 then s.traceForce else s.traceFreeze
/-- Writes with a behaviour of their own, outside the records of units. -/
def State.laneWrite (s : State) (w : Writer) (r : ObjRow) (key : Nat) (v : Val) : Wrote :=
  let x := valInt v
  if key = Obj.RESET_REQUEST then (s.keeperReset w.tick, 0)
  else if key = Obj.SLOT_PREFERRED then (s.slotPrefer x.toNat, 0)
  else if key = Obj.SLOT_CONFIRM then s.orReject s.slotConfirm
  else if key = Obj.SIG_CONFIRM then s.sigConfirm x.toNat w.flash
  else if key = Obj.KEY_SERVICE then (s.keyWrite 0 v, 0)
  else if key = Obj.KEY_EXPERT then (s.keyWrite 1 v, 0)
  else if key = Obj.KEY_COMMISSION then (s.keyWrite 2 v, 0)
  else if key = Obj.LEAD_REQUEST then s.orReject (s.leadRequest x.toNat w.now)
  else if key = Obj.TJ_POWER_PEAK then (s.peakClear, 0)
  else if key = Obj.STREAM_ENABLE then (s.streamEnable (x != 0), 0)
  else if key = Obj.RECORD_COMMAND then (s.recordCommand x, 0)
  else if key = Obj.RECORD_DOWNLOAD then s.recordDownload w.client x.toNat
  else if key = Obj.FAULT_CLEAR then s.orReject (s.faultClear x.toNat)
  else if key = Obj.CAL_START then s.orReject s.calStart
  else if key = Obj.SUP_RESTART then (s.supRestart, 0)
  else if key = Obj.TRACE_COMMAND then (s.traceCommand x, 0)
  else if 0x2050 ≤ key / 256 ∧ key / 256 ≤ 0x2052 then ((s.store r key v).holdoffCancel, 0)
  else if key = Obj.IC_REF ∨ key = Obj.SC_REF then ((s.store r key v).refChange key (s.nat key), 0)
  else match unitOf key (Obj.CLAIM_REQ 0) 1 4 with
    | some n => (s.claimWrite n v, 0)
    | none => (s.store r key v, 0)

/-- R302: CMPu_POSITION is written; an enabled unit arms. -/
def State.cmpPosition (s : State) (n u : Nat) (v : Val) : State :=
  (s.put (Obj.CMP_POSITION n u) v).when (s.bit (Obj.CMP_CONTROL n u) 7) (·.cmpArm n u)
/-- R302: CMPu_CONTROL is written; enable arms the unit, its absence disarms it. -/
def State.cmpControl (s : State) (n u : Nat) (v : Val) : State :=
  let s := s.put (Obj.CMP_CONTROL n u) v
  if s.bit (Obj.CMP_CONTROL n u) 7 then s.cmpArm n u else s.putBit (Obj.CMP_STATUS n u) 0 false
/-- R197, R198: LATCH_COMMAND. -/
def State.latchCommand (s : State) (n : Nat) (x : Int) (now : Nat) : State :=
  if x = 0x4C then s.latchTrigger n 3 now now else s.latchRearm n
/-- Writes to an FB channel's record (R190–R198, R216, R302); a rebase makes the source of a gearing good again (R301). -/
def State.fbWrite (s : State) (w : Writer) (n : Nat) (r : ObjRow) (key : Nat) (v : Val) : State :=
  let x := valInt v
  let sub := key % 256
  if key = Obj.FB_EXT_REBASE n then (s.fbExtRebase n x).gearsFollow n
  else if key = Obj.SLIP_COUNT n then s.slipClear n
  else if key = Obj.FB_COUNTER n then s.fbPreset n x
  else if key = Obj.FB_CLASS n then (s.putStored key v).fbClassWrite n x
  else if key = Obj.INDEX_CPR n then (s.putStored key v).indexCprWrite n x
  else if key = Obj.LATCH_COMMAND n then s.latchCommand n x w.now
  else if 0x30 ≤ sub ∧ sub % 4 = 0 then s.cmpPosition n ((sub - 0x30) / 4) v
  else if 0x31 ≤ sub ∧ sub % 4 = 1 then s.cmpControl n ((sub - 0x30) / 4) v
  else s.store r key v
/-- Writes to an observer's record (R211, R220). -/
def State.obWrite (s : State) (o : Nat) (r : ObjRow) (key : Nat) (v : Val) : State :=
  if key = Obj.OB_COMMAND o then s.obsInit o
  else (s.store r key v).when (key == Obj.OB_SOURCE o) (·.obsInit o)
/-- Writes to a cell's volatile entries (R237, R249). -/
def State.cellWrite (s : State) (n : Nat) (key : Nat) (v : Val) : State :=
  if key = Obj.CELL_STATE0 n then s.cellStateWrite n true (valInt v)
  else if key = Obj.CELL_STATE1 n then s.cellStateWrite n false (valInt v)
  else s.cellStatusClear n
/-- R287, R290, R318: MX_COMMAND; an accepted GO clears STALLED of the generator's stepper. -/
def State.mxCommand (s : State) (m : Nat) (x : Int) : Wrote :=
  if x = 0x47 then ((s.mxGo m).2.when (s.mxGo m).1.isNone (·.vsGo m), (s.mxGo m).1.getD 0) else (s.mxStop m, 0)
/-- Writes to a generator's record (R285–R290). -/
def State.mxWrite (s : State) (m : Nat) (r : ObjRow) (key : Nat) (v : Val) : Wrote :=
  if key = Obj.MX_COMMAND m then s.mxCommand m (valInt v)
  else if key = Obj.MX_MODE m then (s.mxModeWrite m (valInt v), 0)
  else (s.store r key v, 0)
/-- Writes to the records of units, by index; the rest are the lane's own. [log 171 DEDUCED] -/
def State.effect (s : State) (w : Writer) (r : ObjRow) (key : Nat) (v : Val) : Wrote :=
  let idx := key / 256
  if key = Obj.LOOP_LOAD_PEAK then (s.putN key 0, 0)
  else if 0x4000 ≤ idx ∧ idx < 0x4300 then (s.fbWrite w ((idx - 0x4000) / 64) r key v, 0)
  else if 0x4600 ≤ idx ∧ idx < 0x4780 then (s.obWrite ((idx - 0x4600) / 32) r key v, 0)
  else if 0x5100 ≤ idx ∧ idx < 0x5200 then (s.cellWrite (idx - 0x5100) key v, 0)
  else if 0x5400 ≤ idx ∧ idx < 0x5420 then (s.writeNode (128 * (idx - 0x5400) + key % 256 - 1) (valInt v), 0)
  else if 0x6000 ≤ idx ∧ idx < 0x6600 then
    (if key = Obj.AX_IDENTIFY ((idx - 0x6000) / 256) then s.orReject (s.axIdentify ((idx - 0x6000) / 256)) else (s.store r key v, 0))
  else if 0x7000 ≤ idx ∧ idx < 0x7300 then s.mxWrite ((idx - 0x7000) / 64) r key v
  else if 0x7400 ≤ idx ∧ idx < 0x740C then
    (if key = Obj.GEAR_TABLE_REQUEST (idx - 0x7400) then s.gearRequest (idx - 0x7400) (valInt v) else s.store r key v, 0)
  else if 0x7800 ≤ idx ∧ idx < 0x7880 then
    (if key = Obj.VS_COMMAND ((idx - 0x7800) / 32) then s.vsClearShort ((idx - 0x7800) / 32) else s.store r key v, 0)
  else if 0x7880 ≤ idx ∧ idx < 0x7890 then (if key = Obj.SOL_COMMAND (idx - 0x7880) then s.solClear (idx - 0x7880) else s.store r key v, 0)
  else if 0xB000 ≤ idx ∧ idx < 0xB400 then (if key = Obj.AZ_COMMAND (idx - 0xB000) then s.azRecover (idx - 0xB000) else s.store r key v, 0)
  else s.laneWrite w r key v
/-- R551, R128, R129, R148: a write is judged whole and carried out, or rejected with its abort code. -/
def State.dictWrite (s : State) (w : Writer) (key : Nat) (bytes : List Byte) : Wrote :=
  match s.writeJudge w.client key bytes with
  | .error e => (s, e)
  | .ok (r, v) =>
    if r.acc = .rwr ∧ !s.unitRest key then (s.restRejected key, 0x06050001)
    else if s.depends key v ≠ 0 then (s, s.depends key v)
    else if r.persist = .sealed then (s.stageWrite key v, 0)
    else s.effect w r key v

/-! ### The commands that are a completed write of one entry. -/

/-- What a completed write of an entry leaves: nothing changes at a lane whose dictionary does not serve the client. -/
def State.clientWrite (s : State) (w : Writer) (key : Nat) (bytes : List Byte) : Res :=
  .next (if s.serves w.client then (s.dictWrite w key bytes).1 else s)
/-- REGISTER_WRITE (R551): any entry, by its key, and the bytes written. [log 189 DEDUCED] -/
def runRegisterWrite (w : Writer) (key : BitVec 24) (bytes : List Byte) (s : State) : Res := s.clientWrite w key.toNat bytes
/-- SEALED_ENTRY_WRITE (R148, R150): a sealed entry. -/
def runSealedEntryWrite (w : Writer) (key : BitVec 24) (bytes : List Byte) (s : State) : Res :=
  if isSealed key.toNat then s.clientWrite w key.toNat bytes else .next s
/-- RESET_REQUEST (R100): 0x5A. -/
def runResetRequest (w : Writer) (s : State) : Res := s.clientWrite w Obj.RESET_REQUEST [0x5A]
/-- SLOT_PREFERRED_WRITE (R111). -/
def runSlotPreferredWrite (w : Writer) (slot : Byte) (s : State) : Res := s.clientWrite w Obj.SLOT_PREFERRED [slot]
/-- SLOT_CONFIRM (R111): 0xA5. -/
def runSlotConfirm (w : Writer) (s : State) : Res := s.clientWrite w Obj.SLOT_CONFIRM [0xA5]
/-- SIG_CONFIRM (R149). -/
def runSigConfirm (w : Writer) (crc : Word) (s : State) : Res := s.clientWrite w Obj.SIG_CONFIRM (le 4 crc.toNat)
/-- KEY_ENTRY_WRITE (R139): 0 SERVICE, 1 EXPERT, 2 COMMISSION. -/
def runKeyEntryWrite (w : Writer) (k : Fin 3) (bytes : List Byte) (s : State) : Res := s.clientWrite w (Obj.KEY_SERVICE + k) bytes
/-- CAL_START (R173): 0xC5. -/
def runCalStart (w : Writer) (s : State) : Res := s.clientWrite w Obj.CAL_START [0xC5]
/-- CALIBRATION_COMPLETE (R173, R174): a run of 24 ms has ended, with what it measured of each converter in it. -/
def runCalibrationComplete (res : List CalResult) (s : State) : Res :=
  .next (if s.ms.calRun = 0 then s else (s.calEnd res).1)
/-- SUP_RESTART (R181): 0x5A. -/
def runSupRestart (w : Writer) (s : State) : Res := s.clientWrite w Obj.SUP_RESTART [0x5A]
/-- FB_EXT_REBASE (R190). -/
def runFbExtRebase (w : Writer) (n : Fin 12) (v : BitVec 64) (s : State) : Res := s.clientWrite w (Obj.FB_EXT_REBASE n) (le 8 v.toNat)
/-- SLIP_COUNT_CLEAR (R194): 0. -/
def runSlipCountClear (w : Writer) (n : Fin 12) (s : State) : Res := s.clientWrite w (Obj.SLIP_COUNT n) [0]
/-- FB_COUNTER_PRESET (R195). -/
def runFbCounterPreset (w : Writer) (n : Fin 12) (v : Word) (s : State) : Res := s.clientWrite w (Obj.FB_COUNTER n) (le 4 v.toNat)
/-- FB_CLASS_WRITE (R216). -/
def runFbClassWrite (w : Writer) (n : Fin 12) (v : Byte) (s : State) : Res := s.clientWrite w (Obj.FB_CLASS n) [v]
/-- INDEX_CPR_WRITE (R192). -/
def runIndexCprWrite (w : Writer) (n : Fin 12) (v : Word) (s : State) : Res := s.clientWrite w (Obj.INDEX_CPR n) (le 4 v.toNat)
/-- LATCH_COMMAND_LATCH (R197): 0x4C. -/
def runLatchCommandLatch (w : Writer) (n : Fin 12) (s : State) : Res := s.clientWrite w (Obj.LATCH_COMMAND n) [0x4C]
/-- LATCH_REARM (R198): 0x41. -/
def runLatchRearm (w : Writer) (n : Fin 12) (s : State) : Res := s.clientWrite w (Obj.LATCH_COMMAND n) [0x41]
/-- OB_COMMAND (R211): 0x49. -/
def runObCommand (w : Writer) (o : Fin 12) (s : State) : Res := s.clientWrite w (Obj.OB_COMMAND o) [0x49]
/-- CELL_STATE_WRITE (R237): CELL_STATE0 or, with `second`, CELL_STATE1. -/
def runCellStateWrite (w : Writer) (n : Fin 256) (second : Bool) (v : Word) (s : State) : Res :=
  s.clientWrite w (if second then Obj.CELL_STATE1 n else Obj.CELL_STATE0 n) (le 4 v.toNat)
/-- CELL_STATUS_CLEAR (R248): 0. -/
def runCellStatusClear (w : Writer) (n : Fin 256) (s : State) : Res := s.clientWrite w (Obj.CELL_STATUS n) (zeros 4)
/-- LOOP_LOAD_PEAK_CLEAR (R247): 0. -/
def runLoopLoadPeakClear (w : Writer) (s : State) : Res := s.clientWrite w Obj.LOOP_LOAD_PEAK (zeros 4)
/-- TRACE_ARM (R245): 0x41. -/
def runTraceArm (w : Writer) (s : State) : Res := s.clientWrite w Obj.TRACE_COMMAND [0x41]
/-- TRACE_FORCE_TRIGGER (R245): 0x54. -/
def runTraceForceTrigger (w : Writer) (s : State) : Res := s.clientWrite w Obj.TRACE_COMMAND [0x54]
/-- TRACE_FREEZE (R245): 0x53. -/
def runTraceFreeze (w : Writer) (s : State) : Res := s.clientWrite w Obj.TRACE_COMMAND [0x53]
/-- EMF_COMPARATOR_CROSSING (R276): the zero or the threshold comparator of an axis, at a count clock. -/
def runEmfComparatorCrossing (n : Fin 6) (thresh : Bool) (clock : Nat) (s : State) : Res := .next (s.emfCrossing n thresh clock)
/-- AX_IDENTIFY (R277): 0x52. -/
def runAxIdentify (w : Writer) (n : Fin 6) (s : State) : Res := s.clientWrite w (Obj.AX_IDENTIFY n) [0x52]
/-- MX_GO (R287): 0x47. -/
def runMxGo (w : Writer) (m : Fin 12) (s : State) : Res := s.clientWrite w (Obj.MX_COMMAND m) [0x47]
/-- MX_STOP (R290): 0x53. [log 48 DEDUCED] -/
def runMxStop (w : Writer) (m : Fin 12) (s : State) : Res := s.clientWrite w (Obj.MX_COMMAND m) [0x53]
/-- MX_MODE_WRITE (R285, R297). -/
def runMxModeWrite (w : Writer) (m : Fin 12) (v : Byte) (s : State) : Res := s.clientWrite w (Obj.MX_MODE m) [v]
/-- GEAR_TABLE_REQUEST_WRITE (R299). -/
def runGearTableRequestWrite (w : Writer) (m : Fin 12) (v : Byte) (s : State) : Res := s.clientWrite w (Obj.GEAR_TABLE_REQUEST m) [v]
/-- CMP_POSITION_WRITE (R302). -/
def runCmpPositionWrite (w : Writer) (n : Fin 12) (u : Fin 4) (v : Word) (s : State) : Res :=
  s.clientWrite w (Obj.CMP_POSITION n u) (le 4 v.toNat)
/-- CMP_CONTROL_WRITE (R302). -/
def runCmpControlWrite (w : Writer) (n : Fin 12) (u : Fin 4) (v : Byte) (s : State) : Res := s.clientWrite w (Obj.CMP_CONTROL n u) [v]
/-- VS_CLEAR_SHORT (R319): 0x52. -/
def runVsClearShort (w : Writer) (k : Fin 4) (s : State) : Res := s.clientWrite w (Obj.VS_COMMAND k) [0x52]
/-- SOL_CLEAR_FAULTS (R324): 0x52. -/
def runSolClearFaults (w : Writer) (m : Fin 16) (s : State) : Res := s.clientWrite w (Obj.SOL_COMMAND m) [0x52]
/-- LEAD_REQUEST_GIVE_UP (R356): 0x47. -/
def runLeadRequestGiveUp (w : Writer) (s : State) : Res := s.clientWrite w Obj.LEAD_REQUEST [0x47]
/-- LEAD_REQUEST_LINE_TEST (R364): 0x54. -/
def runLeadRequestLineTest (w : Writer) (s : State) : Res := s.clientWrite w Obj.LEAD_REQUEST [0x54]
/-- AZ_COMMAND_RECOVER (R453): 0x52. -/
def runAzCommandRecover (w : Writer) (c : Fin 1024) (s : State) : Res := s.clientWrite w (Obj.AZ_COMMAND c) [0x52]
/-- STREAM_ENABLE_WRITE (R470). -/
def runStreamEnableWrite (w : Writer) (on : Bool) (s : State) : Res := s.clientWrite w Obj.STREAM_ENABLE (le 1 (b2n on))
/-- RECORD_TRIGGER_COMMAND (R499): 0x54. -/
def runRecordTriggerCommand (w : Writer) (s : State) : Res := s.clientWrite w Obj.RECORD_COMMAND [0x54]
/-- RECORD_ERASE (R502): 0x45. -/
def runRecordErase (w : Writer) (s : State) : Res := s.clientWrite w Obj.RECORD_COMMAND [0x45]
/-- RECORD_DOWNLOAD (R505). -/
def runRecordDownload (w : Writer) (slot : Byte) (s : State) : Res := s.clientWrite w Obj.RECORD_DOWNLOAD [slot]
/-- FAULT_CLEAR_WRITE (R521). -/
def runFaultClearWrite (w : Writer) (v : Word) (s : State) : Res := s.clientWrite w Obj.FAULT_CLEAR (le 4 v.toNat)
/-- TJ_POWER_PEAK_CLEAR (R547): 0. -/
def runTjPowerPeakClear (w : Writer) (s : State) : Res := s.clientWrite w Obj.TJ_POWER_PEAK (zeros 2)

end Sys2Proof.Machine
end

