-- ==== Sys2Proof/Machine/Hash.lean ====
section
/-!
DEFINITION. Machine/Hash.lean: SHA-256 (FIPS 180-4) and HMAC-SHA-256 (FIPS 198-1), which R137 names.
-/
namespace Sys2Proof

/-- A number below 312 with no divisor from 2 to 17 but itself. -/
def smallPrime (p : Nat) : Bool := decide (2 ≤ p) && (List.range 16).all fun d => p == d + 2 || p % (d + 2) != 0
/-- The first 64 prime numbers. -/
def shaPrimes : List Nat := (List.range 312).filter smallPrime
/-- The largest r with r ^ e ≤ n, found bit by bit from bit `k` − 1 down, above a part `r` found so far. -/
def powerRoot (e n : Nat) : Nat → Nat → Nat
  | 0, r => r
  | k + 1, r => powerRoot e n k (if (r + 2 ^ k) ^ e ≤ n then r + 2 ^ k else r)
/-- FIPS 180-4, 4.2.2, 5.3.3: the first 32 bits of the fractional part of the e-th root of a prime. -/
def rootWord (e p : Nat) : Word := BitVec.ofNat 32 (powerRoot e (p * 2 ^ (32 * e)) 37 0)
/-- FIPS 180-4, 5.3.3: the initial hash value, from the square roots of the first 8 primes. -/
def shaInit : List Word := (shaPrimes.take 8).map (rootWord 2)
/-- FIPS 180-4, 4.2.2: the 64 constants, from the cube roots of the first 64 primes. -/
def shaConstants : List Word := shaPrimes.map (rootWord 3)
/-- A 32-bit word, most significant byte first. -/
def beWord (b : List Byte) : Word := BitVec.ofNat 32 (leNat b.reverse)
/-- A number in `n` bytes, most significant byte first. -/
def be (n v : Nat) : List Byte := (le n v).reverse
/-- The message padded to whole blocks of 64 bytes. -/
def shaPad (m : List Byte) : List Byte :=
  m ++ 0x80#8 :: zeros ((119 - m.length % 64) % 64) ++ be 8 (8 * m.length)
/-- One word of the message schedule from the sixteen before it, oldest first. -/
def shaWord (w : List Word) : Word :=
  let x := w.getD 1 0
  let y := w.getD 14 0
  let s0 := x.rotateRight 7 ^^^ x.rotateRight 18 ^^^ x >>> 3
  let s1 := y.rotateRight 17 ^^^ y.rotateRight 19 ^^^ y >>> 10
  w.getD 0 0 + s0 + w.getD 9 0 + s1
/-- One round: the working variables a to h, and the next schedule word. -/
def shaRound (h : List Word) (k w : Word) : List Word :=
  let a := h.getD 0 0
  let e := h.getD 4 0
  let s1 := e.rotateRight 6 ^^^ e.rotateRight 11 ^^^ e.rotateRight 25
  let ch := (e &&& h.getD 5 0) ^^^ (~~~e &&& h.getD 6 0)
  let t1 := h.getD 7 0 + s1 + ch + k + w
  let s0 := a.rotateRight 2 ^^^ a.rotateRight 13 ^^^ a.rotateRight 22
  let maj := (a &&& h.getD 1 0) ^^^ (a &&& h.getD 2 0) ^^^ (h.getD 1 0 &&& h.getD 2 0)
  [t1 + (s0 + maj), a, h.getD 1 0, h.getD 2 0, h.getD 3 0 + t1, e, h.getD 5 0, h.getD 6 0]
/-- One block: the rounds of the constants left, on the sixteen schedule words to come. -/
def shaRounds : List Word → List Word → List Word → List Word
  | [], h, _ => h
  | k :: ks, h, w => shaRounds ks (shaRound h k (w.getD 0 0)) (w.drop 1 ++ [shaWord w])
/-- One block taken into the hash. -/
def shaBlock (h : List Word) (block : List Byte) : List Word :=
  List.zipWith (· + ·) h (shaRounds shaConstants h ((rowsOf 4 block).map beWord))
/-- SHA-256. -/
def sha256 (m : List Byte) : List Byte := ((rowsOf 64 (shaPad m)).foldl shaBlock shaInit).flatMap fun w => be 4 w.toNat
/-- HMAC-SHA-256 under a key of at most 64 bytes. -/
def hmac (key m : List Byte) : List Byte :=
  let k := key ++ zeros (64 - key.length)
  sha256 (k.map (· ^^^ 0x5c#8) ++ sha256 (k.map (· ^^^ 0x36#8) ++ m))

end Sys2Proof
end

