-- ==== Sys2Proof/Machine/Sessions.lean ====
section
/-!
DEFINITION. Machine/Sessions.lean: the services of the dictionary (R140–R146): transfers, and the opening and closing of
sessions (R135–R139).
-/
namespace Sys2Proof.Machine

/-! ### Service messages (R140–R142). -/

/-- R142: the segment data limit. -/
def segLimit : Via → Nat
  | .fd _ => 50
  | .xl _ => 1024
  | .stream => 65536
/-- R142: a request by ports A, B or D from a Ralune client, or by the stream port from its own. [log 184 DEDUCED] -/
def pduCarried (p : Pdu) : Bool :=
  match p.via, p.writer.client with
  | .stream, .stream => true
  | .fd q, .ralune _ _ => q.val != 2
  | .xl q, .ralune _ _ => q.val != 2
  | _, _ => false
/-- R126: the entry a message names. -/
def pduKey (p : Pdu) : Nat := 256 * p.index.toNat + p.sub.toNat
/-- R140: flag [0], the last segment. -/
def pduLast (p : Pdu) : Bool := p.flags.toNat.testBit 0
/-- R140: the bytes of a message. -/
def pduBytes (code tag key flags word : Nat) (data : List Byte) : List Byte :=
  le 1 code ++ le 1 tag ++ le 2 (key / 256) ++ le 1 (key % 256) ++ le 1 flags ++ le 4 word ++ data
/-- R142, R145, R474: an answer waits for an arbitrating window of its port, or for the stream port. -/
def State.sendPdu (s : State) (v : Via) (bytes : List Byte) : State :=
  match v with
  | .stream => s.spMod fun x => { x with dict := x.dict ++ [bytes] }
  | .fd p => s.queueFrame p 4 (s.header p 3 0 ++ bytes)
  | .xl p => s.queueFrame p 4 (s.header p 3 0 ++ bytes)
/-- R141: a request is answered; a lane that has ceased to serve the client answers nothing (R144). [log 172 DEDUCED] -/
def State.answer (s : State) (p : Pdu) (code flags word : Nat) (data : List Byte) : State :=
  s.when (s.serves p.writer.client) (·.sendPdu p.via (pduBytes code p.tag.toNat (pduKey p) flags word data))
/-- R141: a request is answered by an ABORT. -/
def State.abort (s : State) (p : Pdu) (code : AbortCode) : State := s.answer p 0x7F 0 code []
/-- A request reaches the dictionary service. -/
def State.reaches (s : State) (p : Pdu) : Bool := pduCarried p && s.serves p.writer.client

/-! ### Transfers (R141, R143, R144). -/

/-- The transfer that an INIT opens. -/
def newTransfer (p : Pdu) (write : Bool) (data : List Byte) (size sent : Nat) (session : Bool) : Transfer :=
  { client := p.writer.client, via := p.via, tag := p.tag.toNat, write := write, key := pduKey p, data := data, total := size
    sent := sent, session := session, closed := false }
/-- Is this the transfer of a client under a tag? -/
def Transfer.is (t : Transfer) (c : Client) (tag : Nat) : Bool := t.client == c && t.tag == tag
/-- The open transfer of a client under a tag. -/
def State.transfer (s : State) (c : Client) (tag : Nat) : Option Transfer := s.se.transfers.find? fun t => t.is c tag
/-- A transfer ends; its data is discarded. -/
def State.endTransfer (s : State) (c : Client) (tag : Nat) : State :=
  { s with se := { s.se with transfers := s.se.transfers.filter fun t => !t.is c tag } }
/-- A transfer opens, or takes the place of the one under its tag. -/
def State.putTransfer (s : State) (t : Transfer) : State :=
  let s := s.endTransfer t.client t.tag
  { s with se := { s.se with transfers := s.se.transfers ++ [t] } }
/-- A request of a transfer is rejected, and the transfer ends. [log 173 DEDUCED] -/
def State.breakTransfer (s : State) (p : Pdu) (code : AbortCode) : State := (s.endTransfer p.writer.client p.tag.toNat).abort p code
/-- R143: may an INIT open a transfer? 0 if it may. [log 173 DEDUCED] -/
def State.initJudge (s : State) (p : Pdu) : AbortCode :=
  if (s.transfer p.writer.client p.tag.toNat).isSome then 0x05010001
  else if 8 ≤ s.se.transfers.length ∨ 2 ≤ (s.se.transfers.filter fun t => t.client == p.writer.client).length then 0x05010003
  else 0
/-- R128, R131: may an entry be read? 0 if it may. -/
def readJudge (key : Nat) : AbortCode :=
  match rowOf key with
  | none => if indexExists (key / 256) then 0x06010002 else 0x06010001
  | some r => if r.acc = .wo then 0x06020002 else 0
/-- READ_INIT (R141, R144): the value as it stands now; what does not fit the answer waits for READ_SEG. [log 172 DEDUCED] -/
def runReadInit (p : Pdu) (s : State) : Res :=
  if !s.reaches p then .next s
  else if s.initJudge p ≠ 0 then .next (s.breakTransfer p (s.initJudge p))
  else if readJudge (pduKey p) ≠ 0 then .next (s.abort p (readJudge (pduKey p)))
  else
    let r := s.readBytes p.writer.client (pduKey p)
    let n := segLimit p.via
    let whole : Bool := r.1.length ≤ n
    .next ((if whole then r.2 else r.2.putTransfer (newTransfer p false r.1 r.1.length n false)).answer p 0x81 (b2n whole) r.1.length (r.1.take n))
/-- READ_SEG (R141, R143): the data from the offset on; a read whose end is reached closes. -/
def runReadSeg (p : Pdu) (s : State) : Res :=
  let offset := p.word.toNat
  if !s.reaches p then .next s
  else match s.transfer p.writer.client p.tag.toNat with
    | none => .next (s.abort p 0x05010001)
    | some t =>
      if t.write then .next (s.breakTransfer p 0x05010001)
      else if t.total < offset then .next (s.breakTransfer p 0x06040004)
      else if offset ≠ t.sent then .next (s.breakTransfer p 0x05010001)
      else
        let n := segLimit p.via
        let last : Bool := t.total ≤ offset + n
        let s := if last then s.endTransfer t.client t.tag else s.putTransfer { t with sent := offset + n }
        .next (s.answer p 0x82 (b2n last) offset ((t.data.drop offset).take n))
/-- R144: a write needs a session by its entry. [log 183 DEDUCED] -/
def needsSession (key : Nat) (bytes : List Byte) : Bool :=
  match rowOf key with
  | none => false
  | some r => r.acc == .rwc || decide (0 < max (writeNeed r) (namedLevel key bytes))
/-- R143: does a write's segment keep to its length? -/
def segOk (p : Pdu) (before total : Nat) : Bool :=
  decide (p.data.length ≤ segLimit p.via ∧ before + p.data.length ≤ total) && pduLast p == decide (before + p.data.length = total)
/-- R144: the last byte of a write has arrived: it is judged and carried out, and answered with its response code and word. -/
def State.writeDone (s : State) (p : Pdu) (key : Nat) (bytes : List Byte) (code word : Nat) : State :=
  let r := s.dictWrite p.writer key bytes
  if r.2 = 0 then r.1.answer p code 0 word [] else r.1.abort p r.2
/-- WRITE_INIT (R141, R143): a write opens with its total length and first data. [log 172 DEDUCED] -/
def runWriteInit (p : Pdu) (s : State) : Res :=
  let total := p.word.toNat
  if !s.reaches p then .next s
  else if s.initJudge p ≠ 0 then .next (s.breakTransfer p (s.initJudge p))
  else if !segOk p 0 total then .next (s.abort p 0x06040001)
  else if pduLast p then .next (s.writeDone p (pduKey p) p.data 0x83 p.data.length)
  else
    .next ((s.putTransfer (newTransfer p true p.data total 0 (needsSession (pduKey p) p.data))).answer p 0x83 0 p.data.length [])
/-- WRITE_SEG (R141, R143, R144): further data of a write. [log 172 DEDUCED] -/
def runWriteSeg (p : Pdu) (s : State) : Res :=
  if !s.reaches p then .next s
  else match s.transfer p.writer.client p.tag.toNat with
    | none => .next (s.abort p 0x05010001)
    | some t =>
      if !t.write then .next (s.breakTransfer p 0x05010001)
      else if t.closed ∧ t.session then .next (s.breakTransfer p 0x06030001)
      else if p.word.toNat ≠ t.data.length then .next (s.breakTransfer p 0x05010001)
      else if !segOk p t.data.length t.total then .next (s.breakTransfer p 0x06040001)
      else if pduLast p then .next ((s.endTransfer t.client t.tag).writeDone p t.key (t.data ++ p.data) 0x84 p.word.toNat)
      else .next ((s.putTransfer { t with data := t.data ++ p.data }).answer p 0x84 0 p.word.toNat [])
/-- ABORT (R141): the client ends its transfer; nothing is answered. -/
def runAbort (p : Pdu) (s : State) : Res :=
  .next (if s.reaches p then s.endTransfer p.writer.client p.tag.toNat else s)
/-- UNKNOWN_SERVICE (R141): a service code that is no request's, or a service its transport does not carry. -/
def runUnknownService (p : Pdu) (s : State) : Res := .next (if s.reaches p then s.abort p 0x05010004 else s)
/-- SEG_TIMEOUT (R143): a transfer has had no request for SEG_TIMEOUT. -/
def runSegTimeout (c : Client) (tag : Byte) (s : State) : Res :=
  match s.transfer c tag.toNat with
  | none => .next s
  | some t =>
    .next ((s.endTransfer c tag.toNat).when (s.serves c) (·.sendPdu t.via (pduBytes 0x7F t.tag t.key 0 0x05010002 [])))

/-! ### Sessions (R135–R139). -/

/-- R137: M, or with a fourth letter L M′: the letters QVDS or QVDL, the session code, SERIAL and the two nonces. [log 185
DEDUCED] -/
def challengeText (letter code : Nat) (lane client : List Byte) : List Byte :=
  bytesOf [0x51, 0x56, 0x44, letter, code] ++ le 8 Config.serial.toNat ++ lane ++ client
/-- R152: SESSION_OWNER. -/
def ownerWord : Client → Nat
  | .ralune net node => 0x01000000 + net.toNat * 256 + node.toNat
  | .stream => 0x10000000
/-- R135, R137: another client owns the session or the outstanding challenge. -/
def State.heldByOther (s : State) (c : Client) : Bool :=
  (match s.se.owner with | some o => o != c | none => false) || (match s.se.challenge with | some x => x.1 != c | none => false)
/-- R137: the challenge is gone. -/
def State.dropChallenge (s : State) : State := { s with se := { s.se with challenge := none } }
/-- R137, R138, R139, R136: may a session be opened now? 0 if it may. [log 125, 174 DEDUCED] -/
def State.openJudge (s : State) (code : Nat) : AbortCode :=
  if code < 1 ∨ 3 < code then 0x06040003
  else if !s.bit Obj.KEY_STATE (code - 1) then 0x06070001
  else if code = 3 ∧ (s.pw.rest < 100000000 ∨ !s.atRest) then 0x06060002
  else 0
/-- R137, step 2: the lane's nonce, and the challenge outstanding. -/
def State.challenge (s : State) (p : Pdu) (code : Nat) (nonce : List Byte) : State :=
  let a := s.draw
  let b := a.2.draw
  let lane := le 8 a.1.toNat ++ le 8 b.1.toNat
  { b.2 with se := { b.2.se with challenge := some (p.writer.client, code, lane, nonce) } }.answer p 0x90 0 0 lane
/-- SESSION_OPEN (R137, steps 1 and 2; R138, R139): a session code and a client nonce, its byte 0 least significant. -/
def runSessionOpen (p : Pdu) (code : Byte) (nonce : BitVec 128) (s : State) : Res :=
  if !s.reaches p then .next s
  else if 0 < s.se.lockout then .next (s.abort p 0x06070002)
  else if s.heldByOther p.writer.client then .next (s.abort p 0x06070003)
  else
    let s := (s.when s.se.owner.isSome (·.sessionEnd)).dropChallenge
    if s.openJudge code.toNat ≠ 0 then .next (s.abort p (s.openJudge code.toNat))
    else .next (s.challenge p code.toNat (le 16 nonce.toNat))
/-- R138: a failed verification. -/
def State.authFail (s : State) : State :=
  let s := (s.countHold Obj.AUTH_FAILS 255).dropChallenge
  { s with se := { s.se with lockout := lockoutOf (s.nat Obj.AUTH_FAILS) } }
/-- R137, R138: the session opens. -/
def State.sessionStart (s : State) (c : Client) (code : Nat) : State :=
  let s := (((s.putN Obj.SESSION_CURRENT code).putN Obj.SESSION_OWNER (ownerWord c)).putN Obj.AUTH_FAILS 0).dropChallenge
  { s with se := { s.se with owner := some c, lockout := 0 } }
/-- SESSION_RESPONSE (R137, steps 3 and 4; R138, R136): the client's HMAC, its byte 0 least significant. [log 181, 185, 204
DEDUCED] -/
def runSessionResponse (p : Pdu) (mac : BitVec 256) (s : State) : Res :=
  if !s.reaches p then .next s
  else match s.se.challenge with
    | none => .next (s.abort p 0x06070001)
    | some (c, code, lane, nonce) =>
      let key := s.oct (Obj.KEY_SERVICE + (code - 1))
      if c ≠ p.writer.client then .next (s.abort p 0x06070003)
      else if hmac key (challengeText 0x53 code lane nonce) ≠ le 32 mac.toNat then .next (s.authFail.abort p 0x06070001)
      else if s.openJudge code ≠ 0 then .next (s.dropChallenge.abort p (s.openJudge code))
      else
        .next ((s.sessionStart c code).answer p 0x91 0 0 ((hmac key (challengeText 0x4C code lane nonce)).take 16))
/-- SESSION_CLOSE (R141). -/
def runSessionClose (p : Pdu) (s : State) : Res :=
  if !s.reaches p then .next s
  else if s.se.owner = some p.writer.client then .next (s.sessionEnd.answer p 0x92 0 0 [])
  else if s.se.owner = none then .next (s.answer p 0x92 0 0 [])
  else .next (s.abort p 0x06070003)
/-- SESSION_IDLE_EXPIRY (R135): no request from the owner for SESSION_IDLE seconds. -/
def runSessionIdleExpiry (s : State) : Res := .next (s.when s.se.owner.isSome (·.sessionEnd))
/-- SESSION_OWNER_SILENCE (R135): no frame from a Ralune owner for 3 reels. -/
def runSessionOwnerSilence (s : State) : Res :=
  .next (match s.se.owner with
    | some (.ralune _ _) => s.sessionEnd
    | _ => s)
/-- CHALLENGE_LAPSE (R137): 2 s have passed without a response. -/
def runChallengeLapse (s : State) : Res := .next s.dropChallenge
/-- LOCKOUT_EXPIRY (R138): the lockout has run out. -/
def runLockoutExpiry (s : State) : Res := .next { s with se := { s.se with lockout := 0 } }

end Sys2Proof.Machine
end

