-- ==== Sys2Proof/Machine/Tick.lean ====
section
/-!
DEFINITION. Machine/Tick.lean: the two clocked commands, the tick edge and the beat boundary, which call every unit in the
order R225 and R27 give (R26–R32, R223–R227).
-/
namespace Sys2Proof.Machine

/-- The tick in progress ends: its cell window has closed, every step of it has been issued, and time goes on to its closing
edge (R27, R225, R282). [log 243 DEDUCED] -/
def State.tickEnd (s : State) : State :=
  let d := s.clk.tickLen / 2
  let s := ((s.when s.clk.windowOpen (·.windowClose)).motionDrain).restAfter d
  { s with lp.met := none, clk.now := s.clk.now + d, clk.ended := s.clk.tickLen, se.lockout := s.se.lockout - d }.elapse d
/-- R120, R136: the rest condition does not hold: its time starts again, and a COMMISSION session ends. [log 168 DEDUCED] -/
def State.restSession (s : State) : State :=
  if s.atRest then s else { s.when (s.nat Obj.SESSION_CURRENT == 3) (·.sessionEnd) with pw.rest := 0 }
/-- The tick that ends is the last of its beat, or the boundary cuts it (R27, R227). -/
def State.lastTick (s : State) : Bool := s.clk.lens.isEmpty || decide (s.clk.lens.length ≤ s.nat Obj.TICK_INDEX + 1)

/-! ### BEAT_BOUNDARY. -/

/-- R32, R227: the ordinal of the beat that opens: global time over the beat length; before the join, beats from 0. [log 17
DESIGN CHOICE] -/
def State.ordinal (s : State) : Nat :=
  if s.clk.joined then s.clk.now / s.beatCounts else if s.clk.lens.isEmpty then s.nat Obj.BEAT_NUMBER else s.nat Obj.BEAT_NUMBER + 1
/-- R165, R323: the beat results of the solenoid converters, while PD_MEAS is up. -/
def State.scResults (s : State) (sc : Vector Charge 16) : State :=
  if s.bit Obj.DOMAIN_STATUS 1 then
    s.each 16 fun s m => match sc[m]? with
      | some c => (s.scBeat m c).solBeat m (160 ≤ c.w && !s.calibrating (18 + m))
      | none => s
  else s
/-- Per-beat work before the lane's own decisions: converters, feedback, trace, memories and the rest condition. [log 241
DESIGN CHOICE] -/
def State.beatUnits (s : State) (sc : Vector Charge 16) : State :=
  let s := (((s.scResults sc).fbBeat).sentBeat).loopBeat
  let s := ((s.traceBeat).eccBeat).wakeEstimate
  s.restSession
/-- BEAT_BOUNDARY (R27, R32, R80, R223, R252): a beat opens in global time. `sc` are the solenoid converters' charges over
the ended beat; `late` says that the firmware will be late with the blending of the coming one (R334). [log 22 DEDUCED] -/
def runBeatBoundary (sc : Vector Charge 16) (late : Bool) (s : State) : Res :=
  if s.clk.running ∧ !s.clk.opened ∧ s.lastTick then
    let s := s.tickEnd
    let b := s.ordinal
    let s := s.putN Obj.BEAT_NUMBER (b % 2 ^ 64 : Nat)
    let s := { s with clk.lens := s.beatLens b, clk.opened := true, bl.due := !s.appStopped, bl.late := late }
    let s := (s.beatUnits sc).raluneBeat b
    let s := (s.azBeat b).standBeat
    .next (s.leadBeat (s.votes.testBit 3)).streamBeat
  else .next s

/-! ### TICK_EDGE. -/

/-- R26: node writes of the ended tick reach their nodes. [log 23 DESIGN CHOICE] -/
def State.nodesTake (s : State) : State :=
  s.nodeWrites.foldl (fun (s : State) e => s.setNodeW e.1 e.2) { s with nodeWrites := [] }
/-- R31: nodes 0 to 2 describe the tick that has ended. -/
def State.tickNodes (s : State) : State :=
  ((s.setNode 0 s.clk.ended).setNode 1 (s.n Obj.TICK_INDEX)).setNode 2 s.clk.tickBeat
/-- R168, R169, R171, R543: GC results reach their nodes, and windows of ticks open and close; channel 58 is the main die's
temperature. -/
def State.gcTick (s : State) : State :=
  let t := (s.ms.gcReady.filter fun e => e.1 == 58).getLast?
  let s := (s.gcWriteReady.refinJudge).gcEdge (s.clk.ended / 2)
  match t with
  | some e => s.mainThermal (Config.roundQuot e.2.1 32768)
  | none => s
/-- R225, step 2: everything that describes the tick just ended is written. [log 170 DEDUCED] -/
def State.tickDescribe (s : State) : State :=
  let clocks := s.clk.ended
  let first : Bool := s.clk.ticks == 0
  let s := if first then s else (s.tickNodes).ringRow (s.clk.now - clocks / 2)
  (((s.nodesTake.icClose).gcTick).govTick).feedbackTick clocks
/-- The tick that opens takes its number, its length and the arm signals of R241 (R27, R28, R32). [log 23 DESIGN CHOICE] -/
def State.tickOpen (s : State) : State :=
  let i : Nat := if s.clk.opened then 0 else s.nat Obj.TICK_INDEX + 1
  { s.putN Obj.TICK_INDEX i with
    clk.tickLen := s.clk.lens.getD i s.clk.tickLen, clk.tickBeat := s.nat Obj.BEAT_NUMBER, clk.opened := false
    clk.windowOpen := true, clk.ticks := s.clk.ticks + 1, lp.armed := s.ch.armed }
/-- R356, cause 3: both angle sources of an axis are lost; the fault that flagged the last one goes into the detail. -/
def State.rotorLost (s : State) (n : Nat) : State :=
  match s.axSource n (s.axis n).second with
  | some o => s.giveUp 3 (Src.ob o) (if (vget s.ob o).lost then Kind.OBS_LOST else Kind.ANGLE_DISAGREE) true
  | none => s.giveUp 3 0 0 true
/-- R225, step 3: the pre-cell stages; `clocks` is the tick that has ended. [log 23 DESIGN CHOICE] -/
def State.preCell (s : State) (clocks : Nat) : State :=
  let r := s.axesTick clocks
  let s := match r.2 with
    | some n => r.1.rotorLost n
    | none => r.1
  (s.cutInTick.armAgain.motionTick clocks).valvesTick clocks
/-- R299, R333, R334: what blending and the gear bands do at a tick edge; two late beats in a row are a missed heartbeat of
the application. [log 56 DEDUCED] -/
def State.blendTick (s : State) : State :=
  let i := s.nat Obj.TICK_INDEX
  let s := s.when (i == 0) (·.blendRead)
  s.when (i == s.nat Obj.BLEND_TICK) fun s => s.blendWrite.when (!s.appStopped) (·.gearBand)
/-- R334, R21: the second late beat in a row restarts the application partition. [log 169 DEDUCED] -/
def State.heartbeat (s : State) : State :=
  if s.bl.lateRun = 2 then { s with bl.lateRun := 0 }.appRestart 3 else s
/-- TICK_EDGE (R225–R228): a tick opens. `cycles` is how many engine cycles its cell window holds, `stalls` the ECC
corrections that stall it (R229), and `failed` names the axes whose last gate test pulse was not sensed as it should be. [log
22 DEDUCED; log 23 DESIGN CHOICE] -/
def runTickEdge (cycles stalls failed : Nat) (s : State) : Res :=
  if s.clk.running ∧ (s.clk.opened ∨ !s.lastTick) then
    let s := if s.clk.opened then s else s.tickEnd
    let clocks := s.clk.ended
    let s := s.tickDescribe.tickOpen
    let s := ((s.preCell clocks).blendTick).cellWindow cycles stalls
    let s := (s.shadowCapture.gateTests failed).icOpen
    .next s.restSession.heartbeat
  else .next s

end Sys2Proof.Machine
end

