-- ==== Sys2Proof/Machine/Commands.lean ====
section
/-!
DEFINITION. Machine/Commands.lean: the meaning of every command: its run, after which the chaperone's logic settles (R379,
R391). The run of a command stands in the file of its family.
-/
namespace Sys2Proof.Machine

/-- TICK_EDGE (R225). -/
def execTickEdge (cycles stalls failed : Nat) (s : State) : Res := settled (runTickEdge cycles stalls failed s)
/-- CELL_WINDOW_CLOSE (R225). -/
def execCellWindowClose (s : State) : Res := settled (runCellWindowClose s)
/-- BEAT_BOUNDARY (R27). -/
def execBeatBoundary (sc : Vector Charge 16) (late : Bool) (s : State) : Res := settled (runBeatBoundary sc late s)
/-- APP_PARTITION_RESTART (R22). -/
def execAppPartitionRestart (cause : Fin 5) (s : State) : Res := settled (runAppPartitionRestart cause s)
/-- APP_RESTART_COMPLETE (R22). -/
def execAppRestartComplete (s : State) : Res := settled (runAppRestartComplete s)
/-- KEEPER_FAULT (R24). -/
def execKeeperFault (s : State) : Res := settled (runKeeperFault s)
/-- CHAPERONE_RESET (R60). -/
def execChaperoneReset (s : State) : Res := settled (runChaperoneReset s)
/-- CHAPERONE_RESET_RELEASE (R64). -/
def execChaperoneResetRelease (first again : StrapReads) (tick : Nat) (s : State) : Res :=
  settled (runChaperoneResetRelease first again tick s)
/-- STRAP_SERVICE_READ (R67). -/
def execStrapServiceRead (word : BitVec 24) (s : State) : Res := settled (runStrapServiceRead word s)
/-- CHAP_CLOCK_FAIL (R18). -/
def execChapClockFail (s : State) : Res := settled (runChapClockFail s)
/-- SUPPLY_UNDERVOLTAGE (R60). -/
def execSupplyUndervoltage (k : Fin 5) (action : Bool) (tick : Nat) (s : State) : Res :=
  settled (runSupplyUndervoltage k action tick s)
/-- SUPPLY_OVERVOLTAGE (R60). -/
def execSupplyOvervoltage (k : Fin 5) (s : State) : Res := settled (runSupplyOvervoltage k s)
/-- SUPPLY_RECOVERY (R60). -/
def execSupplyRecovery (k : Fin 5) (level : Fin 3) (s : State) : Res := settled (runSupplyRecovery k level s)
/-- BROWN_OUT (R97). -/
def execBrownOut (tick : Nat) (s : State) : Res := settled (runBrownOut tick s)
/-- PIN_RESET (R55). -/
def execPinReset (width : Nat) (taken : Bool) (tick : Nat) (s : State) : Res := settled (runPinReset width taken tick s)
/-- BOUNDARY_SCAN_INSTRUCTION (R56). -/
def execBoundaryScanInstruction (extOrInt trst : Bool) (s : State) : Res := settled (runBoundaryScanInstruction extOrInt trst s)
/-- HOLD_READBACK_CHANGE (R54). -/
def execHoldReadbackChange (level : Bool) (s : State) : Res := settled (runHoldReadbackChange level s)
/-- PEER_LEAD_IN_CHANGE (R353). -/
def execPeerLeadInChange (p : Fin 2) (level : Bool) (now : Nat) (s : State) : Res := settled (runPeerLeadInChange p level now s)
/-- CLOCK_DEVIATION (R74). -/
def execClockDeviation (q : Fin 5) (ppm : Int) (s : State) : Res := settled (runClockDeviation q ppm s)
/-- TIMEBASE_START_TIMEOUT (R74). -/
def execTimebaseStartTimeout (s : State) : Res := settled (runTimebaseStartTimeout s)
/-- VOTE_CHANGE (R77). -/
def execVoteChange (client : Fin 5) (mask : BitVec 5) (s : State) : Res := settled (runVoteChange client mask s)
/-- HOLDOFF_EXPIRY (R78). -/
def execHoldoffExpiry (d : Fin 4) (s : State) : Res := settled (runHoldoffExpiry d s)
/-- DOMAIN_POWER_GOOD (R84). -/
def execDomainPowerGood (d : Fin 4) (s : State) : Res := settled (runDomainPowerGood d s)
/-- DOZE_COMMIT (R86). -/
def execDozeCommit (s : State) : Res := settled (runDozeCommit s)
/-- PARKED_COMMIT (R87). -/
def execParkedCommit (s : State) : Res := settled (runParkedCommit s)
/-- DOZE_MAX_EXPIRY (R84). -/
def execDozeMaxExpiry (s : State) : Res := settled (runDozeMaxExpiry s)
/-- WAKE_LINGER_EXPIRY (R81). -/
def execWakeLingerExpiry (s : State) : Res := settled (runWakeLingerExpiry s)
/-- PORT_ACTIVITY_LAPSE (R76). -/
def execPortActivityLapse (p : Fin 4) (s : State) : Res := settled (runPortActivityLapse p s)
/-- PARTNER_VOTE_LAPSE (R76). -/
def execPartnerVoteLapse (p : Fin 2) (s : State) : Res := settled (runPartnerVoteLapse p s)
/-- KEY_CHANGE (R93). -/
def execKeyChange (level : Bool) (w : WakeAt) (s : State) : Res := settled (runKeyChange level w s)
/-- WAKE_PIN_EDGE (R93). -/
def execWakePinEdge (rising : Bool) (w : WakeAt) (s : State) : Res := settled (runWakePinEdge rising w s)
/-- CUE_FRAME (R92). -/
def execCueFrame (p : Fin 2) (f : CueFrame) (w : WakeAt) (s : State) : Res := settled (runCueFrame p f w s)
/-- WAKE_UP_PATTERN (R91). -/
def execWakeUpPattern (p : Fin 2) (w : WakeAt) (s : State) : Res := settled (runWakeUpPattern p w s)
/-- DOMINANT_ACTIVITY (R91). -/
def execDominantActivity (p : Fin 2) (width : Nat) (taken : Bool) (w : WakeAt) (s : State) : Res :=
  settled (runDominantActivity p width taken w s)
/-- AON_TIMER_WAKE (R93). -/
def execAonTimerWake (w : WakeAt) (s : State) : Res := settled (runAonTimerWake w s)
/-- STREAM_SIGNAL_DETECT (R93). -/
def execStreamSignalDetect (w : WakeAt) (s : State) : Res := settled (runStreamSignalDetect w s)
/-- VBAT_ARRIVAL (R88). -/
def execVbatArrival (tick : Nat) (s : State) : Res := settled (runVbatArrival tick s)
/-- VBAT_WAIT_TIMEOUT (R88). -/
def execVbatWaitTimeout (s : State) : Res := settled (runVbatWaitTimeout s)
/-- START_SEQUENCE (R103). -/
def execStartSequence (x : StartInput) (s : State) : Res := settled (runStartSequence x s)
/-- BACKGROUND_INIT_DONE (R112). -/
def execBackgroundInitDone (s : State) : Res := settled (runBackgroundInitDone s)
/-- START_PARTNER_WAIT_EXPIRY (R106). -/
def execStartPartnerWaitExpiry (s : State) : Res := settled (runStartPartnerWaitExpiry s)
/-- START_CARD_RETRY (R363). -/
def execStartCardRetry (now : Nat) (s : State) : Res := settled (runStartCardRetry now s)
/-- START_SUPERVISION_TIMEOUT (R99). -/
def execStartSupervisionTimeout (tick : Nat) (s : State) : Res := settled (runStartSupervisionTimeout tick s)
/-- RECOVERY_DELAY_EXPIRY (R99). -/
def execRecoveryDelayExpiry (tick : Nat) (s : State) : Res := settled (runRecoveryDelayExpiry tick s)
/-- RESET_REQUEST (R100). -/
def execResetRequest (w : Writer) (s : State) : Res := settled (runResetRequest w s)
/-- SLOT_PREFERRED_WRITE (R111). -/
def execSlotPreferredWrite (w : Writer) (slot : Byte) (s : State) : Res := settled (runSlotPreferredWrite w slot s)
/-- SLOT_CONFIRM (R111). -/
def execSlotConfirm (w : Writer) (s : State) : Res := settled (runSlotConfirm w s)
/-- STORED_WRITE_COMMIT (R115). -/
def execStoredWriteCommit (key : BitVec 24) (s : State) : Res := settled (runStoredWriteCommit key s)
/-- SST_PHASE_END (R118). -/
def execSstPhaseEnd (r : SstResult) (s : State) : Res := settled (runSstPhaseEnd r s)
/-- READ_INIT (R141). -/
def execReadInit (p : Pdu) (s : State) : Res := settled (runReadInit p s)
/-- READ_SEG (R141). -/
def execReadSeg (p : Pdu) (s : State) : Res := settled (runReadSeg p s)
/-- WRITE_INIT (R143). -/
def execWriteInit (p : Pdu) (s : State) : Res := settled (runWriteInit p s)
/-- WRITE_SEG (R143). -/
def execWriteSeg (p : Pdu) (s : State) : Res := settled (runWriteSeg p s)
/-- ABORT (R141). -/
def execAbort (p : Pdu) (s : State) : Res := settled (runAbort p s)
/-- UNKNOWN_SERVICE (R141). -/
def execUnknownService (p : Pdu) (s : State) : Res := settled (runUnknownService p s)
/-- REGISTER_WRITE (R551). -/
def execRegisterWrite (w : Writer) (key : BitVec 24) (bytes : List Byte) (s : State) : Res :=
  settled (runRegisterWrite w key bytes s)
/-- SEALED_ENTRY_WRITE (R148). -/
def execSealedEntryWrite (w : Writer) (key : BitVec 24) (bytes : List Byte) (s : State) : Res :=
  settled (runSealedEntryWrite w key bytes s)
/-- SIG_CONFIRM (R149). -/
def execSigConfirm (w : Writer) (crc : Word) (s : State) : Res := settled (runSigConfirm w crc s)
/-- KEY_ENTRY_WRITE (R139). -/
def execKeyEntryWrite (w : Writer) (k : Fin 3) (bytes : List Byte) (s : State) : Res := settled (runKeyEntryWrite w k bytes s)
/-- SEG_TIMEOUT (R143). -/
def execSegTimeout (c : Client) (tag : Byte) (s : State) : Res := settled (runSegTimeout c tag s)
/-- SESSION_OPEN (R137). -/
def execSessionOpen (p : Pdu) (code : Byte) (nonce : BitVec 128) (s : State) : Res := settled (runSessionOpen p code nonce s)
/-- SESSION_RESPONSE (R137). -/
def execSessionResponse (p : Pdu) (mac : BitVec 256) (s : State) : Res := settled (runSessionResponse p mac s)
/-- SESSION_CLOSE (R141). -/
def execSessionClose (p : Pdu) (s : State) : Res := settled (runSessionClose p s)
/-- SESSION_IDLE_EXPIRY (R135). -/
def execSessionIdleExpiry (s : State) : Res := settled (runSessionIdleExpiry s)
/-- SESSION_OWNER_SILENCE (R135). -/
def execSessionOwnerSilence (s : State) : Res := settled (runSessionOwnerSilence s)
/-- CHALLENGE_LAPSE (R137). -/
def execChallengeLapse (s : State) : Res := settled (runChallengeLapse s)
/-- LOCKOUT_EXPIRY (R138). -/
def execLockoutExpiry (s : State) : Res := settled (runLockoutExpiry s)
/-- IC_INTEGRATION_START (R159). -/
def execIcIntegrationStart (n : Fin 18) (s : State) : Res := settled (runIcIntegrationStart n s)
/-- IC_INTEGRATION_END (R160). -/
def execIcIntegrationEnd (n : Fin 18) (c : Charge) (s : State) : Res := settled (runIcIntegrationEnd n c s)
/-- SHUNT_OFFSET_AVERAGE (R164). -/
def execShuntOffsetAverage (n : Fin 18) (s : State) : Res := settled (runShuntOffsetAverage n s)
/-- GC_SETTLE_END (R168). -/
def execGcSettleEnd (g : Fin 4) (s : State) : Res := settled (runGcSettleEnd g s)
/-- GC_WINDOW_END (R168). -/
def execGcWindowEnd (g : Fin 4) (c : Charge) (s : State) : Res := settled (runGcWindowEnd g c s)
/-- REF_SETTLED_SET (R171). -/
def execRefSettledSet (r : Ref) (s : State) : Res := settled (runRefSettledSet r s)
/-- REF_SETTLED_CLEAR (R171). -/
def execRefSettledClear (r : Ref) (s : State) : Res := settled (runRefSettledClear r s)
/-- REF_SETTLE_TIMEOUT (R107). -/
def execRefSettleTimeout (r : Ref) (s : State) : Res := settled (runRefSettleTimeout r s)
/-- CAL_START (R173). -/
def execCalStart (w : Writer) (s : State) : Res := settled (runCalStart w s)
/-- CALIBRATION_COMPLETE (R174). -/
def execCalibrationComplete (res : List CalResult) (s : State) : Res := settled (runCalibrationComplete res s)
/-- SUP_FAULT (R180). -/
def execSupFault (k : Fin 4) (high : Bool) (s : State) : Res := settled (runSupFault k high s)
/-- SUP_RETRY (R181). -/
def execSupRetry (k : Fin 4) (ok : Bool) (s : State) : Res := settled (runSupRetry k ok s)
/-- SUP_RESTART (R181). -/
def execSupRestart (w : Writer) (s : State) : Res := settled (runSupRestart w s)
/-- FB_INPUT_EDGE (R185). -/
def execFbInputEdge (n : Fin 12) (e : FbEvent) (clock : Nat) (s : State) : Res := settled (runFbInputEdge n e clock s)
/-- EXTENSION_READ (R189). -/
def execExtensionRead (n : Fin 12) (s : State) : Res := settled (runExtensionRead n s)
/-- FB_EXT_REBASE (R190). -/
def execFbExtRebase (w : Writer) (n : Fin 12) (v : BitVec 64) (s : State) : Res := settled (runFbExtRebase w n v s)
/-- INDEX_EVENT (R191). -/
def execIndexEvent (n : Fin 12) (clock : Nat) (s : State) : Res := settled (runIndexEvent n clock s)
/-- SLIP_COUNT_CLEAR (R194). -/
def execSlipCountClear (w : Writer) (n : Fin 12) (s : State) : Res := settled (runSlipCountClear w n s)
/-- FB_COUNTER_PRESET (R195). -/
def execFbCounterPreset (w : Writer) (n : Fin 12) (v : Word) (s : State) : Res := settled (runFbCounterPreset w n v s)
/-- FB_CLASS_WRITE (R216). -/
def execFbClassWrite (w : Writer) (n : Fin 12) (v : Byte) (s : State) : Res := settled (runFbClassWrite w n v s)
/-- INDEX_CPR_WRITE (R192). -/
def execIndexCprWrite (w : Writer) (n : Fin 12) (v : Word) (s : State) : Res := settled (runIndexCprWrite w n v s)
/-- LATCH_INPUT_EDGE (R199). -/
def execLatchInputEdge (k : Fin 4) (rising : Bool) (time : Nat) (s : State) : Res := settled (runLatchInputEdge k rising time s)
/-- LATCH_COMMAND_LATCH (R197). -/
def execLatchCommandLatch (w : Writer) (n : Fin 12) (s : State) : Res := settled (runLatchCommandLatch w n s)
/-- LATCH_REARM (R198). -/
def execLatchRearm (w : Writer) (n : Fin 12) (s : State) : Res := settled (runLatchRearm w n s)
/-- SENT_FRAME (R204). -/
def execSentFrame (n : Fin 8) (f : SentFrame) (s : State) : Res := settled (runSentFrame n f s)
/-- SENT_TIMEOUT (R203). -/
def execSentTimeout (n : Fin 8) (micros : Nat) (s : State) : Res := settled (runSentTimeout n micros s)
/-- HALL_EDGE (R206). -/
def execHallEdge (a : Fin 6) (code : Fin 8) (clock : HallAt) (s : State) : Res := settled (runHallEdge a code clock s)
/-- HALL_INVALID_CODE (R206). -/
def execHallInvalidCode (a : Fin 6) (s : State) : Res := settled (runHallInvalidCode a s)
/-- OBSERVER_COAST (R211). -/
def execObserverCoast (o : Fin 12) (s : State) : Res := settled (runObserverCoast o s)
/-- OB_COMMAND (R211). -/
def execObCommand (w : Writer) (o : Fin 12) (s : State) : Res := settled (runObCommand w o s)
/-- CELL_STATE_WRITE (R237). -/
def execCellStateWrite (w : Writer) (n : Fin 256) (second : Bool) (v : Word) (s : State) : Res :=
  settled (runCellStateWrite w n second v s)
/-- CELL_STATUS_CLEAR (R248). -/
def execCellStatusClear (w : Writer) (n : Fin 256) (s : State) : Res := settled (runCellStatusClear w n s)
/-- LOOP_LOAD_PEAK_CLEAR (R247). -/
def execLoopLoadPeakClear (w : Writer) (s : State) : Res := settled (runLoopLoadPeakClear w s)
/-- TRACE_ARM (R245). -/
def execTraceArm (w : Writer) (s : State) : Res := settled (runTraceArm w s)
/-- TRACE_FORCE_TRIGGER (R245). -/
def execTraceForceTrigger (w : Writer) (s : State) : Res := settled (runTraceForceTrigger w s)
/-- TRACE_FREEZE (R245). -/
def execTraceFreeze (w : Writer) (s : State) : Res := settled (runTraceFreeze w s)
/-- BOOTSTRAP_UNDERVOLTAGE (R254). -/
def execBootstrapUndervoltage (n : Fin 6) (leg : BootLeg) (s : State) : Res := settled (runBootstrapUndervoltage n leg s)
/-- GATE_STATE_MISMATCH (R257). -/
def execGateStateMismatch (n : Fin 6) (leg : Fin 3) (high on : Bool) (s : State) : Res :=
  settled (runGateStateMismatch n leg high on s)
/-- DESAT_TRIP (R258). -/
def execDesatTrip (n : Fin 6) (leg : Fin 3) (high : Bool) (s : State) : Res := settled (runDesatTrip n leg high s)
/-- SHUNT_OC_TRIP (R258). -/
def execShuntOcTrip (n : Fin 6) (leg : Fin 3) (s : State) : Res := settled (runShuntOcTrip n leg s)
/-- ASC_EXIT (R265). -/
def execAscExit (n : Fin 6) (s : State) : Res := settled (runAscExit n s)
/-- ARM_GRANT (R267). -/
def execArmGrant (bit : Fin 26) (s : State) : Res := settled (runArmGrant bit s)
/-- ARM_WITHDRAW (R261). -/
def execArmWithdraw (bit : Fin 26) (s : State) : Res := settled (runArmWithdraw bit s)
/-- EMF_COMPARATOR_CROSSING (R276). -/
def execEmfComparatorCrossing (n : Fin 6) (thresh : Bool) (clock : Nat) (s : State) : Res :=
  settled (runEmfComparatorCrossing n thresh clock s)
/-- AX_IDENTIFY (R277). -/
def execAxIdentify (w : Writer) (n : Fin 6) (s : State) : Res := settled (runAxIdentify w n s)
/-- AX_IDENTIFY_COMPLETE (R277). -/
def execAxIdentifyComplete (n : Fin 6) (s : State) : Res := settled (runAxIdentifyComplete n s)
/-- KE_TREND_APPEND (R277). -/
def execKeTrendAppend (n : Fin 6) (s : State) : Res := settled (runKeTrendAppend n s)
/-- LINK_GUARD_CROSSING (R274). -/
def execLinkGuardCrossing (mv : Nat) (s : State) : Res := settled (runLinkGuardCrossing mv s)
/-- DUMP_MAX_ON_EXPIRY (R275). -/
def execDumpMaxOnExpiry (s : State) : Res := settled (runDumpMaxOnExpiry s)
/-- GENERATOR_STEP (R282). -/
def execGeneratorStep (m : Fin 12) (s : State) : Res := settled (runGeneratorStep m s)
/-- MX_GO (R287). -/
def execMxGo (w : Writer) (m : Fin 12) (s : State) : Res := settled (runMxGo w m s)
/-- MX_STOP (R290). -/
def execMxStop (w : Writer) (m : Fin 12) (s : State) : Res := settled (runMxStop w m s)
/-- MX_MODE_WRITE (R297). -/
def execMxModeWrite (w : Writer) (m : Fin 12) (v : Byte) (s : State) : Res := settled (runMxModeWrite w m v s)
/-- GEAR_TABLE_REQUEST_WRITE (R299). -/
def execGearTableRequestWrite (w : Writer) (m : Fin 12) (v : Byte) (s : State) : Res :=
  settled (runGearTableRequestWrite w m v s)
/-- GEAR_TABLE_SWITCH (R299). -/
def execGearTableSwitch (m : Fin 12) (s : State) : Res := settled (runGearTableSwitch m s)
/-- CMP_POSITION_WRITE (R302). -/
def execCmpPositionWrite (w : Writer) (n : Fin 12) (u : Fin 4) (v : Word) (s : State) : Res :=
  settled (runCmpPositionWrite w n u v s)
/-- CMP_CONTROL_WRITE (R302). -/
def execCmpControlWrite (w : Writer) (n : Fin 12) (u : Fin 4) (v : Byte) (s : State) : Res :=
  settled (runCmpControlWrite w n u v s)
/-- CHOPPER_CURRENT_REACHED (R315). -/
def execChopperCurrentReached (k : Fin 4) (c : Fin 2) (s : State) : Res := settled (runChopperCurrentReached k c s)
/-- CHOPPER_TON_MAX (R315). -/
def execChopperTonMax (k : Fin 4) (c : Fin 2) (s : State) : Res := settled (runChopperTonMax k c s)
/-- FAST_DECAY_END (R315). -/
def execFastDecayEnd (k : Fin 4) (c : Fin 2) (i : Int) (s : State) : Res := settled (runFastDecayEnd k c i s)
/-- CHOPPER_OFFTIME_END (R315). -/
def execChopperOfftimeEnd (k : Fin 4) (c : Fin 2) (i : Int) (s : State) : Res := settled (runChopperOfftimeEnd k c i s)
/-- VS_OVERCURRENT (R319). -/
def execVsOvercurrent (k : Fin 4) (c : Fin 2) (qual : Fin 3) (s : State) : Res := settled (runVsOvercurrent k c qual s)
/-- VS_CLEAR_SHORT (R319). -/
def execVsClearShort (w : Writer) (k : Fin 4) (s : State) : Res := settled (runVsClearShort w k s)
/-- SOL_UPPER_CROSSING (R322). -/
def execSolUpperCrossing (m : Fin 16) (i : Nat) (s : State) : Res := settled (runSolUpperCrossing m i s)
/-- SOL_PROBE (R322). -/
def execSolProbe (m : Fin 16) (s : State) : Res := settled (runSolProbe m s)
/-- SOL_PROBE_END (R322). -/
def execSolProbeEnd (m : Fin 16) (i : Nat) (s : State) : Res := settled (runSolProbeEnd m i s)
/-- PULLIN_END (R321). -/
def execPullinEnd (m : Fin 16) (s : State) : Res := settled (runPullinEnd m s)
/-- SOL_OVERCURRENT (R324). -/
def execSolOvercurrent (m : Fin 16) (mv : Nat) (s : State) : Res := settled (runSolOvercurrent m mv s)
/-- SOL_SHORT_TO_SUPPLY (R324). -/
def execSolShortToSupply (m : Fin 16) (mv : Nat) (s : State) : Res := settled (runSolShortToSupply m mv s)
/-- SOL_OPEN_LOAD_ON (R324). -/
def execSolOpenLoadOn (m : Fin 16) (s : State) : Res := settled (runSolOpenLoadOn m s)
/-- SOL_OPEN_LOAD_OFF (R324). -/
def execSolOpenLoadOff (m : Fin 16) (mv : Nat) (s : State) : Res := settled (runSolOpenLoadOff m mv s)
/-- SOL_CLEAR_FAULTS (R324). -/
def execSolClearFaults (w : Writer) (m : Fin 16) (s : State) : Res := settled (runSolClearFaults w m s)
/-- PEDAL_DISAGREE_TIMEOUT (R337). -/
def execPedalDisagreeTimeout (s : State) : Res := settled (runPedalDisagreeTimeout s)
/-- PEER_LINES_QUIET (R354). -/
def execPeerLinesQuiet (s : State) : Res := settled (runPeerLinesQuiet s)
/-- RANK_DELAY_EXPIRY (R354). -/
def execRankDelayExpiry (s : State) : Res := settled (runRankDelayExpiry s)
/-- LEAD_RECHECK_END (R354). -/
def execLeadRecheckEnd (s : State) : Res := settled (runLeadRecheckEnd s)
/-- LEAD_REQUEST_GIVE_UP (R356). -/
def execLeadRequestGiveUp (w : Writer) (s : State) : Res := settled (runLeadRequestGiveUp w s)
/-- LEAD_REQUEST_LINE_TEST (R364). -/
def execLeadRequestLineTest (w : Writer) (s : State) : Res := settled (runLeadRequestLineTest w s)
/-- CARD_ISSUE_MESSAGE (R361). -/
def execCardIssueMessage (p : Fin 2) (m : Card) (now : Nat) (s : State) : Res := settled (runCardIssueMessage p m now s)
/-- CARD_RENEW_MESSAGE (R361). -/
def execCardRenewMessage (p : Fin 2) (m : Card) (s : State) : Res := settled (runCardRenewMessage p m s)
/-- CARD_PASS_MESSAGE (R361). -/
def execCardPassMessage (p : Fin 2) (m : Card) (s : State) : Res := settled (runCardPassMessage p m s)
/-- CARD_RELEASE_MESSAGE (R361). -/
def execCardReleaseMessage (p : Fin 2) (m : Card) (s : State) : Res := settled (runCardReleaseMessage p m s)
/-- CARD_RENEW_TIMER (R361). -/
def execCardRenewTimer (now : Nat) (s : State) : Res := settled (runCardRenewTimer now s)
/-- CARD_LEASE_EXPIRY (R361). -/
def execCardLeaseExpiry (s : State) : Res := settled (runCardLeaseExpiry s)
/-- CARD_HANDOVER_EDGE (R361). -/
def execCardHandoverEdge (s : State) : Res := settled (runCardHandoverEdge s)
/-- CARD_SUCCESSION_ISSUE (R362). -/
def execCardSuccessionIssue (now : Nat) (s : State) : Res := settled (runCardSuccessionIssue now s)
/-- LINE_TEST_PULSE (R364). -/
def execLineTestPulse (k : Fin 4) (seen : Bool) (s : State) : Res := settled (runLineTestPulse k seen s)
/-- LINE_TEST_EVALUATE (R364). -/
def execLineTestEvaluate (now : Nat) (s : State) : Res := settled (runLineTestEvaluate now s)
/-- LINE_TEST_PERIOD_EXPIRY (R364). -/
def execLineTestPeriodExpiry (now : Nat) (s : State) : Res := settled (runLineTestPeriodExpiry now s)
/-- LANE_ANNOUNCEMENT (R366). -/
def execLaneAnnouncement (p : Fin 2) (a : Announcement) (s : State) : Res := settled (runLaneAnnouncement p a s)
/-- SHADOW_RECORD (R368). -/
def execShadowRecord (r : ShadowRecord) (s : State) : Res := settled (runShadowRecord r s)
/-- HEALTH_BLOCK (R370). -/
def execHealthBlock (p : Fin 2) (word : Word) (votes obs : Byte) (s : State) : Res :=
  settled (runHealthBlock p word votes obs s)
/-- PEER_WORDS_TIMEOUT (R372). -/
def execPeerWordsTimeout (p : Fin 2) (s : State) : Res := settled (runPeerWordsTimeout p s)
/-- CHAP_REQUEST (R377). -/
def execChapRequest (r : Request) (s : State) : Res := settled (runChapRequest r s)
/-- SIDE_PATH_MESSAGE (R377). -/
def execSidePathMessage (good : Bool) (ebMv : SideRead) (s : State) : Res := settled (runSidePathMessage good ebMv s)
/-- STEER_RATE_TIMEOUT (R383). -/
def execSteerRateTimeout (n : AxisAt) (s : State) : Res := settled (runSteerRateTimeout n s)
/-- BRAKE_ENVELOPE_TIMEOUT (R384). -/
def execBrakeEnvelopeTimeout (high : Bool) (s : State) : Res := settled (runBrakeEnvelopeTimeout high s)
/-- CHAP_REFERENCE_OBSERVED (R378). -/
def execChapReferenceObserved (r : RefSeen) (s : State) : Res := settled (runChapReferenceObserved r s)
/-- GUARD_COAST_EXPIRY (R385). -/
def execGuardCoastExpiry (s : State) : Res := settled (runGuardCoastExpiry s)
/-- GUARDIAN_BLOCK (R386). -/
def execGuardianBlock (port : Fin 4) (window : BitVec 8) (s : State) : Res := settled (runGuardianBlock port window s)
/-- GUARDIAN_CUT (R386). -/
def execGuardianCut (port : Fin 4) (window : BitVec 8) (s : State) : Res := settled (runGuardianCut port window s)
/-- CHAP_CONFIG_RECHECK (R388). -/
def execChapConfigRecheck (found : Word) (s : State) : Res := settled (runChapConfigRecheck found s)
/-- WDG_PERIOD_START (R381). -/
def execWdgPeriodStart (s : State) : Res := settled (runWdgPeriodStart s)
/-- WDG_ANSWER (R381). -/
def execWdgAnswer (answer : Word) (micros : Nat) (eb : Bool) (s : State) : Res := settled (runWdgAnswer answer micros eb s)
/-- WDG_WINDOW_CLOSE (R381). -/
def execWdgWindowClose (s : State) : Res := settled (runWdgWindowClose s)
/-- ASC_GRANT_WITHDRAW (R380). -/
def execAscGrantWithdraw (n : AxisAt) (s : State) : Res := settled (runAscGrantWithdraw n s)
/-- EB_SILENT_RELEASE (R391). -/
def execEbSilentRelease (s : State) : Res := settled (runEbSilentRelease s)
/-- LADDER_WALTZ_DELAY_EXPIRY (R393). -/
def execLadderWaltzDelayExpiry (s : State) : Res := settled (runLadderWaltzDelayExpiry s)
/-- LADDER_REQUEST_CLEAR (R394). -/
def execLadderRequestClear (s : State) : Res := settled (runLadderRequestClear s)
/-- WALTZ_WAIT_EXPIRY (R395). -/
def execWaltzWaitExpiry (now : Nat) (s : State) : Res := settled (runWaltzWaitExpiry now s)
/-- WALTZ_RANK_DELAY (R397). -/
def execWaltzRankDelay (s : State) : Res := settled (runWaltzRankDelay s)
/-- WALTZ_RECHECK (R397). -/
def execWaltzRecheck (s : State) : Res := settled (runWaltzRecheck s)
/-- WALTZ_HOLD_END (R397). -/
def execWaltzHoldEnd (s : State) : Res := settled (runWaltzHoldEnd s)
/-- EB_RAMP_PERIOD (R400). -/
def execEbRampPeriod (now : Nat) (s : State) : Res := settled (runEbRampPeriod now s)
/-- EB_RAMP_END (R397). -/
def execEbRampEnd (s : State) : Res := settled (runEbRampEnd s)
/-- FRAME_LATCH (R420). -/
def execFrameLatch (p : Fin 4) (w : Fin 24) (now : Nat) (s : State) : Res := settled (runFrameLatch p w now s)
/-- WINDOW_TRANSMIT (R420). -/
def execWindowTransmit (p : Fin 4) (w : Fin 24) (now : Nat) (s : State) : Res := settled (runWindowTransmit p w now s)
/-- RALUNE_FRAME_RECEIVED (R421). -/
def execRaluneFrameReceived (p : Fin 4) (f : RxFrame) (now : Nat) (s : State) : Res :=
  settled (runRaluneFrameReceived p f now s)
/-- REFERENCE_FRAME (R423). -/
def execReferenceFrame (p : Fin 4) (f : RefFrame) (s : State) : Res := settled (runReferenceFrame p f s)
/-- SYNC_TIMEOUT (R425). -/
def execSyncTimeout (s : State) : Res := settled (runSyncTimeout s)
/-- PORT_DOWN (R409). -/
def execPortDown (p : Fin 4) (qual : Fin 5) (elapsed : Nat) (s : State) : Res := settled (runPortDown p qual elapsed s)
/-- COLD_START_SILENCE (R429). -/
def execColdStartSilence (p : Fin 4) (s : State) : Res := settled (runColdStartSilence p s)
/-- COLD_START_DELAY (R429). -/
def execColdStartDelay (p : Fin 4) (s : State) : Res := settled (runColdStartDelay p s)
/-- REFERENCE_COLLISION (R430). -/
def execReferenceCollision (p : Fin 4) (now : Nat) (s : State) : Res := settled (runReferenceCollision p now s)
/-- TIME_STEP_APPLY (R431). -/
def execTimeStepApply (s : State) : Res := settled (runTimeStepApply s)
/-- SPARE_SILENCE (R435). -/
def execSpareSilence (p : Fin 4) (idx : Fin 32) (s : State) : Res := settled (runSpareSilence p idx s)
/-- NETWORK_ANNOUNCEMENT (R458). -/
def execNetworkAnnouncement (p : Fin 4) (addr : BitVec 7) (content : BitVec 192) (now : Nat) (s : State) : Res :=
  settled (runNetworkAnnouncement p addr content now s)
/-- ANNOUNCE_REPEAT_TIMER (R458). -/
def execAnnounceRepeatTimer (s : State) : Res := settled (runAnnounceRepeatTimer s)
/-- AZSIN_TIMEOUT (R452). -/
def execAzsinTimeout (c : Fin 1024) (s : State) : Res := settled (runAzsinTimeout c s)
/-- AZ_COMMAND_RECOVER (R453). -/
def execAzCommandRecover (w : Writer) (c : Fin 1024) (s : State) : Res := settled (runAzCommandRecover w c s)
/-- ROUTE_WAIT_EXPIRY (R460). -/
def execRouteWaitExpiry (s : State) : Res := settled (runRouteWaitExpiry s)
/-- STREAM_CLOCK_DETECT (R469). -/
def execStreamClockDetect (s : State) : Res := settled (runStreamClockDetect s)
/-- STREAM_TS_RECEIVED (R469). -/
def execStreamTsReceived (credits0 credits1 : BitVec 16) (ts : TsSeen) (micros : BitVec 32) (s : State) : Res :=
  settled (runStreamTsReceived credits0 credits1 ts micros s)
/-- STREAM_TRAINING_TIMEOUT (R469). -/
def execStreamTrainingTimeout (lanes : BitVec 4) (s : State) : Res := settled (runStreamTrainingTimeout lanes s)
/-- STREAM_IDLE_END (R469). -/
def execStreamIdleEnd (s : State) : Res := settled (runStreamIdleEnd s)
/-- STREAM_LINK_LOSS (R470). -/
def execStreamLinkLoss (qual : Fin 6) (lanes : BitVec 4) (errors : Nat) (s : State) : Res :=
  settled (runStreamLinkLoss qual lanes errors s)
/-- STREAM_FRAME_RECEIVED (R473). -/
def execStreamFrameReceived (f : StreamFrame) (now : Nat) (s : State) : Res := settled (runStreamFrameReceived f now s)
/-- IMAGE_LOAD_IDLE (R478). -/
def execImageLoadIdle (s : State) : Res := settled (runImageLoadIdle s)
/-- CREDIT_COLUMN (R475). -/
def execCreditColumn (cls : Fin 2) (count : BitVec 16) (s : State) : Res := settled (runCreditColumn cls count s)
/-- STREAM_FRAME_SEND (R474). -/
def execStreamFrameSend (now : Nat) (s : State) : Res := settled (runStreamFrameSend now s)
/-- STREAM_CREDIT_TIMEOUT (R475). -/
def execStreamCreditTimeout (cls : Fin 2) (s : State) : Res := settled (runStreamCreditTimeout cls s)
/-- STREAM_ENABLE_WRITE (R470). -/
def execStreamEnableWrite (w : Writer) (on : Bool) (s : State) : Res := settled (runStreamEnableWrite w on s)
/-- ECC_ERROR (R489). -/
def execEccError (e : EccError) (s : State) : Res := settled (runEccError e s)
/-- REMAP_COPY_DONE (R495). -/
def execRemapCopyDone (m : Fin 11) (base : BitVec 32) (s : State) : Res := settled (runRemapCopyDone m base s)
/-- RETIREMENT_COMMIT (R495). -/
def execRetirementCommit (m : Fin 11) (base : BitVec 32) (s : State) : Res := settled (runRetirementCommit m base s)
/-- WATCH_ENTRY_AGE_OUT (R494). -/
def execWatchEntryAgeOut (m : Fin 11) (word : BitVec 32) (s : State) : Res := settled (runWatchEntryAgeOut m word s)
/-- SCRUB_LAP_END (R493). -/
def execScrubLapEnd (m : Fin 11) (ms : BitVec 32) (s : State) : Res := settled (runScrubLapEnd m ms s)
/-- SCRUB_LAP_LIMIT_EXPIRY (R493). -/
def execScrubLapLimitExpiry (m : Fin 11) (s : State) : Res := settled (runScrubLapLimitExpiry m s)
/-- DMA_DESCRIPTOR_WRITE (R491). -/
def execDmaDescriptorWrite (ch : Fin 16) (d : Descriptor) (s : State) : Res := settled (runDmaDescriptorWrite ch d s)
/-- DMA_COMPLETE (R491). -/
def execDmaComplete (ch : Fin 16) (s : State) : Res := settled (runDmaComplete ch s)
/-- RECORD_TRIGGER_COMMAND (R499). -/
def execRecordTriggerCommand (w : Writer) (s : State) : Res := settled (runRecordTriggerCommand w s)
/-- RECORD_ERASE (R502). -/
def execRecordErase (w : Writer) (s : State) : Res := settled (runRecordErase w s)
/-- RECORD_DOWNLOAD (R505). -/
def execRecordDownload (w : Writer) (slot : Byte) (s : State) : Res := settled (runRecordDownload w slot s)
/-- COMMIT_PAGE_WRITE (R501). -/
def execCommitPageWrite (bad : Option EccError) (s : State) : Res := settled (runCommitPageWrite bad s)
/-- RECORD_POST_END (R501). -/
def execRecordPostEnd (s : State) : Res := settled (runRecordPostEnd s)
/-- COMMIT_TRAILER_DONE (R501). -/
def execCommitTrailerDone (s : State) : Res := settled (runCommitTrailerDone s)
/-- SLOT_ERASE_DONE (R501). -/
def execSlotEraseDone (s : State) : Res := settled (runSlotEraseDone s)
/-- FAULT_MESSAGE (R518). -/
def execFaultMessage (s : State) : Res := settled (runFaultMessage s)
/-- CRITICAL_LINE (R516). -/
def execCriticalLine (s : State) : Res := settled (runCriticalLine s)
/-- FAULT_REACT_EXPIRY (R520). -/
def execFaultReactExpiry (src : BitVec 10) (kind : Byte) (s : State) : Res := settled (runFaultReactExpiry src kind s)
/-- FAULT_ACKNOWLEDGE (R520). -/
def execFaultAcknowledge (src : BitVec 10) (kind seq : Byte) (s : State) : Res := settled (runFaultAcknowledge src kind seq s)
/-- FAULT_ROW_CLEAR (R521). -/
def execFaultRowClear (src : BitVec 10) (kind : Byte) (s : State) : Res := settled (runFaultRowClear src kind s)
/-- FAULT_CLEAR_WRITE (R521). -/
def execFaultClearWrite (w : Writer) (v : Word) (s : State) : Res := settled (runFaultClearWrite w v s)
/-- FAULT_LOG_COMMIT (R526). -/
def execFaultLogCommit (s : State) : Res := settled (runFaultLogCommit s)
/-- GOVERNOR_SAMPLE (R542). -/
def execGovernorSample (t1 t2 : BitVec 16) (s : State) : Res := settled (runGovernorSample t1 t2 s)
/-- STAGE_SHUTDOWN (R544). -/
def execStageShutdown (t : BitVec 16) (s : State) : Res := settled (runStageShutdown t s)
/-- TJ_POWER_PEAK_CLEAR (R547). -/
def execTjPowerPeakClear (w : Writer) (s : State) : Res := settled (runTjPowerPeakClear w s)
/-- HOURLY_COMMIT (R508). -/
def execHourlyCommit (s : State) : Res := settled (runHourlyCommit s)
/-- POWER_ON (R97). -/
def execPowerOn (first again : StrapReads) (s : State) : Res := settled (runPowerOn first again s)
/-- DUMP_FORCED_OFF_END (R275). -/
def execDumpForcedOffEnd (s : State) : Res := settled (runDumpForcedOffEnd s)
/-- WALTZ_TOFF_END (R399). -/
def execWaltzToffEnd (n : Fin 6) (s : State) : Res := settled (runWaltzToffEnd n s)
/-- STEP_PULSE_END (R284). -/
def execStepPulseEnd (k : Fin 4) (s : State) : Res := settled (runStepPulseEnd k s)
/-- CHOPPER_BLANK_END (R315). -/
def execChopperBlankEnd (k : Fin 4) (c : Fin 2) (reached : Bool) (s : State) : Res := settled (runChopperBlankEnd k c reached s)
/-- SOL_MIN_ON_END (R322). -/
def execSolMinOnEnd (m : Fin 16) (i : Nat) (s : State) : Res := settled (runSolMinOnEnd m i s)
/-- VS_OPEN_LOAD_OFF (R324). -/
def execVsOpenLoadOff (k : Fin 4) (c : Fin 2) (s : State) : Res := settled (runVsOpenLoadOff k c s)
/-- BUS_OFF_RECOVERY (R409). -/
def execBusOffRecovery (p : Fin 4) (s : State) : Res := settled (runBusOffRecovery p s)
/-- CREDIT_COLUMN_SEND (R475). -/
def execCreditColumnSend (cls : Fin 2) (s : State) : Res := settled (runCreditColumnSend cls s)
/-- STREAM_AZSIN_LATCH (R474). -/
def execStreamAzsinLatch (now : Nat) (s : State) : Res := settled (runStreamAzsinLatch now s)
/-- SIDE_PATH_MISSING (R377). -/
def execSidePathMissing (s : State) : Res := settled (runSidePathMissing s)
/-- FRAME_TRANSMITTED (R420). -/
def execFrameTransmitted (p : Fin 4) (w : Fin 24) (own : Bool) (now : Nat) (s : State) : Res :=
  settled (runFrameTransmitted p w own now s)

end Sys2Proof.Machine
end

