-- ==== Sys2Proof/Machine/Dispatch.lean ====
section
/-!
DEFINITION. Machine/Dispatch.lean: one arm per command.
-/
namespace Sys2Proof.Machine

def exec (i : Instr) (s : State) : Host.Outcome State Fault Refusal :=
  match i with
  | .tickEdge cycles stalls failed => Sys2Proof.Machine.execTickEdge cycles stalls failed s
  | .cellWindowClose => Sys2Proof.Machine.execCellWindowClose s
  | .beatBoundary sc late => Sys2Proof.Machine.execBeatBoundary sc late s
  | .appPartitionRestart cause => Sys2Proof.Machine.execAppPartitionRestart cause s
  | .appRestartComplete => Sys2Proof.Machine.execAppRestartComplete s
  | .keeperFault => Sys2Proof.Machine.execKeeperFault s
  | .chaperoneReset => Sys2Proof.Machine.execChaperoneReset s
  | .chaperoneResetRelease first again tick => Sys2Proof.Machine.execChaperoneResetRelease first again tick s
  | .strapServiceRead word => Sys2Proof.Machine.execStrapServiceRead word s
  | .chapClockFail => Sys2Proof.Machine.execChapClockFail s
  | .supplyUndervoltage k action tick => Sys2Proof.Machine.execSupplyUndervoltage k action tick s
  | .supplyOvervoltage k => Sys2Proof.Machine.execSupplyOvervoltage k s
  | .supplyRecovery k level => Sys2Proof.Machine.execSupplyRecovery k level s
  | .brownOut tick => Sys2Proof.Machine.execBrownOut tick s
  | .pinReset width taken tick => Sys2Proof.Machine.execPinReset width taken tick s
  | .boundaryScanInstruction extOrInt trst => Sys2Proof.Machine.execBoundaryScanInstruction extOrInt trst s
  | .holdReadbackChange level => Sys2Proof.Machine.execHoldReadbackChange level s
  | .peerLeadInChange p level now => Sys2Proof.Machine.execPeerLeadInChange p level now s
  | .clockDeviation q ppm => Sys2Proof.Machine.execClockDeviation q ppm s
  | .timebaseStartTimeout => Sys2Proof.Machine.execTimebaseStartTimeout s
  | .voteChange client mask => Sys2Proof.Machine.execVoteChange client mask s
  | .holdoffExpiry d => Sys2Proof.Machine.execHoldoffExpiry d s
  | .domainPowerGood d => Sys2Proof.Machine.execDomainPowerGood d s
  | .dozeCommit => Sys2Proof.Machine.execDozeCommit s
  | .parkedCommit => Sys2Proof.Machine.execParkedCommit s
  | .dozeMaxExpiry => Sys2Proof.Machine.execDozeMaxExpiry s
  | .wakeLingerExpiry => Sys2Proof.Machine.execWakeLingerExpiry s
  | .portActivityLapse p => Sys2Proof.Machine.execPortActivityLapse p s
  | .partnerVoteLapse p => Sys2Proof.Machine.execPartnerVoteLapse p s
  | .keyChange level w => Sys2Proof.Machine.execKeyChange level w s
  | .wakePinEdge rising w => Sys2Proof.Machine.execWakePinEdge rising w s
  | .cueFrame p f w => Sys2Proof.Machine.execCueFrame p f w s
  | .wakeUpPattern p w => Sys2Proof.Machine.execWakeUpPattern p w s
  | .dominantActivity p width taken w => Sys2Proof.Machine.execDominantActivity p width taken w s
  | .aonTimerWake w => Sys2Proof.Machine.execAonTimerWake w s
  | .streamSignalDetect w => Sys2Proof.Machine.execStreamSignalDetect w s
  | .vbatArrival tick => Sys2Proof.Machine.execVbatArrival tick s
  | .vbatWaitTimeout => Sys2Proof.Machine.execVbatWaitTimeout s
  | .startSequence x => Sys2Proof.Machine.execStartSequence x s
  | .backgroundInitDone => Sys2Proof.Machine.execBackgroundInitDone s
  | .startPartnerWaitExpiry => Sys2Proof.Machine.execStartPartnerWaitExpiry s
  | .startCardRetry now => Sys2Proof.Machine.execStartCardRetry now s
  | .startSupervisionTimeout tick => Sys2Proof.Machine.execStartSupervisionTimeout tick s
  | .recoveryDelayExpiry tick => Sys2Proof.Machine.execRecoveryDelayExpiry tick s
  | .resetRequest w => Sys2Proof.Machine.execResetRequest w s
  | .slotPreferredWrite w slot => Sys2Proof.Machine.execSlotPreferredWrite w slot s
  | .slotConfirm w => Sys2Proof.Machine.execSlotConfirm w s
  | .storedWriteCommit key => Sys2Proof.Machine.execStoredWriteCommit key s
  | .sstPhaseEnd r => Sys2Proof.Machine.execSstPhaseEnd r s
  | .readInit p => Sys2Proof.Machine.execReadInit p s
  | .readSeg p => Sys2Proof.Machine.execReadSeg p s
  | .writeInit p => Sys2Proof.Machine.execWriteInit p s
  | .writeSeg p => Sys2Proof.Machine.execWriteSeg p s
  | .abort p => Sys2Proof.Machine.execAbort p s
  | .unknownService p => Sys2Proof.Machine.execUnknownService p s
  | .registerWrite w key bytes => Sys2Proof.Machine.execRegisterWrite w key bytes s
  | .sealedEntryWrite w key bytes => Sys2Proof.Machine.execSealedEntryWrite w key bytes s
  | .sigConfirm w crc => Sys2Proof.Machine.execSigConfirm w crc s
  | .keyEntryWrite w k bytes => Sys2Proof.Machine.execKeyEntryWrite w k bytes s
  | .segTimeout c tag => Sys2Proof.Machine.execSegTimeout c tag s
  | .sessionOpen p code nonce => Sys2Proof.Machine.execSessionOpen p code nonce s
  | .sessionResponse p mac => Sys2Proof.Machine.execSessionResponse p mac s
  | .sessionClose p => Sys2Proof.Machine.execSessionClose p s
  | .sessionIdleExpiry => Sys2Proof.Machine.execSessionIdleExpiry s
  | .sessionOwnerSilence => Sys2Proof.Machine.execSessionOwnerSilence s
  | .challengeLapse => Sys2Proof.Machine.execChallengeLapse s
  | .lockoutExpiry => Sys2Proof.Machine.execLockoutExpiry s
  | .icIntegrationStart n => Sys2Proof.Machine.execIcIntegrationStart n s
  | .icIntegrationEnd n c => Sys2Proof.Machine.execIcIntegrationEnd n c s
  | .shuntOffsetAverage n => Sys2Proof.Machine.execShuntOffsetAverage n s
  | .gcSettleEnd g => Sys2Proof.Machine.execGcSettleEnd g s
  | .gcWindowEnd g c => Sys2Proof.Machine.execGcWindowEnd g c s
  | .refSettledSet r => Sys2Proof.Machine.execRefSettledSet r s
  | .refSettledClear r => Sys2Proof.Machine.execRefSettledClear r s
  | .refSettleTimeout r => Sys2Proof.Machine.execRefSettleTimeout r s
  | .calStart w => Sys2Proof.Machine.execCalStart w s
  | .calibrationComplete res => Sys2Proof.Machine.execCalibrationComplete res s
  | .supFault k high => Sys2Proof.Machine.execSupFault k high s
  | .supRetry k ok => Sys2Proof.Machine.execSupRetry k ok s
  | .supRestart w => Sys2Proof.Machine.execSupRestart w s
  | .fbInputEdge n e clock => Sys2Proof.Machine.execFbInputEdge n e clock s
  | .extensionRead n => Sys2Proof.Machine.execExtensionRead n s
  | .fbExtRebase w n v => Sys2Proof.Machine.execFbExtRebase w n v s
  | .indexEvent n clock => Sys2Proof.Machine.execIndexEvent n clock s
  | .slipCountClear w n => Sys2Proof.Machine.execSlipCountClear w n s
  | .fbCounterPreset w n v => Sys2Proof.Machine.execFbCounterPreset w n v s
  | .fbClassWrite w n v => Sys2Proof.Machine.execFbClassWrite w n v s
  | .indexCprWrite w n v => Sys2Proof.Machine.execIndexCprWrite w n v s
  | .latchInputEdge k rising time => Sys2Proof.Machine.execLatchInputEdge k rising time s
  | .latchCommandLatch w n => Sys2Proof.Machine.execLatchCommandLatch w n s
  | .latchRearm w n => Sys2Proof.Machine.execLatchRearm w n s
  | .sentFrame n f => Sys2Proof.Machine.execSentFrame n f s
  | .sentTimeout n micros => Sys2Proof.Machine.execSentTimeout n micros s
  | .hallEdge a code clock => Sys2Proof.Machine.execHallEdge a code clock s
  | .hallInvalidCode a => Sys2Proof.Machine.execHallInvalidCode a s
  | .observerCoast o => Sys2Proof.Machine.execObserverCoast o s
  | .obCommand w o => Sys2Proof.Machine.execObCommand w o s
  | .cellStateWrite w n second v => Sys2Proof.Machine.execCellStateWrite w n second v s
  | .cellStatusClear w n => Sys2Proof.Machine.execCellStatusClear w n s
  | .loopLoadPeakClear w => Sys2Proof.Machine.execLoopLoadPeakClear w s
  | .traceArm w => Sys2Proof.Machine.execTraceArm w s
  | .traceForceTrigger w => Sys2Proof.Machine.execTraceForceTrigger w s
  | .traceFreeze w => Sys2Proof.Machine.execTraceFreeze w s
  | .bootstrapUndervoltage n leg => Sys2Proof.Machine.execBootstrapUndervoltage n leg s
  | .gateStateMismatch n leg high on => Sys2Proof.Machine.execGateStateMismatch n leg high on s
  | .desatTrip n leg high => Sys2Proof.Machine.execDesatTrip n leg high s
  | .shuntOcTrip n leg => Sys2Proof.Machine.execShuntOcTrip n leg s
  | .ascExit n => Sys2Proof.Machine.execAscExit n s
  | .armGrant bit => Sys2Proof.Machine.execArmGrant bit s
  | .armWithdraw bit => Sys2Proof.Machine.execArmWithdraw bit s
  | .emfComparatorCrossing n thresh clock => Sys2Proof.Machine.execEmfComparatorCrossing n thresh clock s
  | .axIdentify w n => Sys2Proof.Machine.execAxIdentify w n s
  | .axIdentifyComplete n => Sys2Proof.Machine.execAxIdentifyComplete n s
  | .keTrendAppend n => Sys2Proof.Machine.execKeTrendAppend n s
  | .linkGuardCrossing mv => Sys2Proof.Machine.execLinkGuardCrossing mv s
  | .dumpMaxOnExpiry => Sys2Proof.Machine.execDumpMaxOnExpiry s
  | .generatorStep m => Sys2Proof.Machine.execGeneratorStep m s
  | .mxGo w m => Sys2Proof.Machine.execMxGo w m s
  | .mxStop w m => Sys2Proof.Machine.execMxStop w m s
  | .mxModeWrite w m v => Sys2Proof.Machine.execMxModeWrite w m v s
  | .gearTableRequestWrite w m v => Sys2Proof.Machine.execGearTableRequestWrite w m v s
  | .gearTableSwitch m => Sys2Proof.Machine.execGearTableSwitch m s
  | .cmpPositionWrite w n u v => Sys2Proof.Machine.execCmpPositionWrite w n u v s
  | .cmpControlWrite w n u v => Sys2Proof.Machine.execCmpControlWrite w n u v s
  | .chopperCurrentReached k c => Sys2Proof.Machine.execChopperCurrentReached k c s
  | .chopperTonMax k c => Sys2Proof.Machine.execChopperTonMax k c s
  | .fastDecayEnd k c ma => Sys2Proof.Machine.execFastDecayEnd k c ma s
  | .chopperOfftimeEnd k c ma => Sys2Proof.Machine.execChopperOfftimeEnd k c ma s
  | .vsOvercurrent k c qual => Sys2Proof.Machine.execVsOvercurrent k c qual s
  | .vsClearShort w k => Sys2Proof.Machine.execVsClearShort w k s
  | .solUpperCrossing m ma => Sys2Proof.Machine.execSolUpperCrossing m ma s
  | .solProbe m => Sys2Proof.Machine.execSolProbe m s
  | .solProbeEnd m ma => Sys2Proof.Machine.execSolProbeEnd m ma s
  | .pullinEnd m => Sys2Proof.Machine.execPullinEnd m s
  | .solOvercurrent m mv => Sys2Proof.Machine.execSolOvercurrent m mv s
  | .solShortToSupply m mv => Sys2Proof.Machine.execSolShortToSupply m mv s
  | .solOpenLoadOn m => Sys2Proof.Machine.execSolOpenLoadOn m s
  | .solOpenLoadOff m mv => Sys2Proof.Machine.execSolOpenLoadOff m mv s
  | .solClearFaults w m => Sys2Proof.Machine.execSolClearFaults w m s
  | .pedalDisagreeTimeout => Sys2Proof.Machine.execPedalDisagreeTimeout s
  | .peerLinesQuiet => Sys2Proof.Machine.execPeerLinesQuiet s
  | .rankDelayExpiry => Sys2Proof.Machine.execRankDelayExpiry s
  | .leadRecheckEnd => Sys2Proof.Machine.execLeadRecheckEnd s
  | .leadRequestGiveUp w => Sys2Proof.Machine.execLeadRequestGiveUp w s
  | .leadRequestLineTest w => Sys2Proof.Machine.execLeadRequestLineTest w s
  | .cardIssueMessage p m now => Sys2Proof.Machine.execCardIssueMessage p m now s
  | .cardRenewMessage p m => Sys2Proof.Machine.execCardRenewMessage p m s
  | .cardPassMessage p m => Sys2Proof.Machine.execCardPassMessage p m s
  | .cardReleaseMessage p m => Sys2Proof.Machine.execCardReleaseMessage p m s
  | .cardRenewTimer now => Sys2Proof.Machine.execCardRenewTimer now s
  | .cardLeaseExpiry => Sys2Proof.Machine.execCardLeaseExpiry s
  | .cardHandoverEdge => Sys2Proof.Machine.execCardHandoverEdge s
  | .cardSuccessionIssue now => Sys2Proof.Machine.execCardSuccessionIssue now s
  | .lineTestPulse k seen => Sys2Proof.Machine.execLineTestPulse k seen s
  | .lineTestEvaluate now => Sys2Proof.Machine.execLineTestEvaluate now s
  | .lineTestPeriodExpiry now => Sys2Proof.Machine.execLineTestPeriodExpiry now s
  | .laneAnnouncement p a => Sys2Proof.Machine.execLaneAnnouncement p a s
  | .shadowRecord r => Sys2Proof.Machine.execShadowRecord r s
  | .healthBlock p word votes obs => Sys2Proof.Machine.execHealthBlock p word votes obs s
  | .peerWordsTimeout p => Sys2Proof.Machine.execPeerWordsTimeout p s
  | .chapRequest r => Sys2Proof.Machine.execChapRequest r s
  | .sidePathMessage good ebMv => Sys2Proof.Machine.execSidePathMessage good ebMv s
  | .steerRateTimeout n => Sys2Proof.Machine.execSteerRateTimeout n s
  | .brakeEnvelopeTimeout high => Sys2Proof.Machine.execBrakeEnvelopeTimeout high s
  | .chapReferenceObserved r => Sys2Proof.Machine.execChapReferenceObserved r s
  | .guardCoastExpiry => Sys2Proof.Machine.execGuardCoastExpiry s
  | .guardianBlock port window => Sys2Proof.Machine.execGuardianBlock port window s
  | .guardianCut port window => Sys2Proof.Machine.execGuardianCut port window s
  | .chapConfigRecheck found => Sys2Proof.Machine.execChapConfigRecheck found s
  | .wdgPeriodStart => Sys2Proof.Machine.execWdgPeriodStart s
  | .wdgAnswer answer micros eb => Sys2Proof.Machine.execWdgAnswer answer micros eb s
  | .wdgWindowClose => Sys2Proof.Machine.execWdgWindowClose s
  | .ascGrantWithdraw n => Sys2Proof.Machine.execAscGrantWithdraw n s
  | .ebSilentRelease => Sys2Proof.Machine.execEbSilentRelease s
  | .ladderWaltzDelayExpiry => Sys2Proof.Machine.execLadderWaltzDelayExpiry s
  | .ladderRequestClear => Sys2Proof.Machine.execLadderRequestClear s
  | .waltzWaitExpiry now => Sys2Proof.Machine.execWaltzWaitExpiry now s
  | .waltzRankDelay => Sys2Proof.Machine.execWaltzRankDelay s
  | .waltzRecheck => Sys2Proof.Machine.execWaltzRecheck s
  | .waltzHoldEnd => Sys2Proof.Machine.execWaltzHoldEnd s
  | .ebRampPeriod now => Sys2Proof.Machine.execEbRampPeriod now s
  | .ebRampEnd => Sys2Proof.Machine.execEbRampEnd s
  | .frameLatch p w now => Sys2Proof.Machine.execFrameLatch p w now s
  | .windowTransmit p w now => Sys2Proof.Machine.execWindowTransmit p w now s
  | .raluneFrameReceived p f now => Sys2Proof.Machine.execRaluneFrameReceived p f now s
  | .referenceFrame p f => Sys2Proof.Machine.execReferenceFrame p f s
  | .syncTimeout => Sys2Proof.Machine.execSyncTimeout s
  | .portDown p qual elapsed => Sys2Proof.Machine.execPortDown p qual elapsed s
  | .coldStartSilence p => Sys2Proof.Machine.execColdStartSilence p s
  | .coldStartDelay p => Sys2Proof.Machine.execColdStartDelay p s
  | .referenceCollision p now => Sys2Proof.Machine.execReferenceCollision p now s
  | .timeStepApply => Sys2Proof.Machine.execTimeStepApply s
  | .spareSilence p idx => Sys2Proof.Machine.execSpareSilence p idx s
  | .networkAnnouncement p addr content now => Sys2Proof.Machine.execNetworkAnnouncement p addr content now s
  | .announceRepeatTimer => Sys2Proof.Machine.execAnnounceRepeatTimer s
  | .azsinTimeout c => Sys2Proof.Machine.execAzsinTimeout c s
  | .azCommandRecover w c => Sys2Proof.Machine.execAzCommandRecover w c s
  | .routeWaitExpiry => Sys2Proof.Machine.execRouteWaitExpiry s
  | .streamClockDetect => Sys2Proof.Machine.execStreamClockDetect s
  | .streamTsReceived credits0 credits1 ts micros => Sys2Proof.Machine.execStreamTsReceived credits0 credits1 ts micros s
  | .streamTrainingTimeout lanes => Sys2Proof.Machine.execStreamTrainingTimeout lanes s
  | .streamIdleEnd => Sys2Proof.Machine.execStreamIdleEnd s
  | .streamLinkLoss qual lanes errors => Sys2Proof.Machine.execStreamLinkLoss qual lanes errors s
  | .streamFrameReceived f now => Sys2Proof.Machine.execStreamFrameReceived f now s
  | .imageLoadIdle => Sys2Proof.Machine.execImageLoadIdle s
  | .creditColumn cls count => Sys2Proof.Machine.execCreditColumn cls count s
  | .streamFrameSend now => Sys2Proof.Machine.execStreamFrameSend now s
  | .streamCreditTimeout cls => Sys2Proof.Machine.execStreamCreditTimeout cls s
  | .streamEnableWrite w on => Sys2Proof.Machine.execStreamEnableWrite w on s
  | .eccError e => Sys2Proof.Machine.execEccError e s
  | .remapCopyDone m base => Sys2Proof.Machine.execRemapCopyDone m base s
  | .retirementCommit m base => Sys2Proof.Machine.execRetirementCommit m base s
  | .watchEntryAgeOut m word => Sys2Proof.Machine.execWatchEntryAgeOut m word s
  | .scrubLapEnd m ms => Sys2Proof.Machine.execScrubLapEnd m ms s
  | .scrubLapLimitExpiry m => Sys2Proof.Machine.execScrubLapLimitExpiry m s
  | .dmaDescriptorWrite ch d => Sys2Proof.Machine.execDmaDescriptorWrite ch d s
  | .dmaComplete ch => Sys2Proof.Machine.execDmaComplete ch s
  | .recordTriggerCommand w => Sys2Proof.Machine.execRecordTriggerCommand w s
  | .recordErase w => Sys2Proof.Machine.execRecordErase w s
  | .recordDownload w slot => Sys2Proof.Machine.execRecordDownload w slot s
  | .commitPageWrite bad => Sys2Proof.Machine.execCommitPageWrite bad s
  | .recordPostEnd => Sys2Proof.Machine.execRecordPostEnd s
  | .commitTrailerDone => Sys2Proof.Machine.execCommitTrailerDone s
  | .slotEraseDone => Sys2Proof.Machine.execSlotEraseDone s
  | .faultMessage => Sys2Proof.Machine.execFaultMessage s
  | .criticalLine => Sys2Proof.Machine.execCriticalLine s
  | .faultReactExpiry src kind => Sys2Proof.Machine.execFaultReactExpiry src kind s
  | .faultAcknowledge src kind seq => Sys2Proof.Machine.execFaultAcknowledge src kind seq s
  | .faultRowClear src kind => Sys2Proof.Machine.execFaultRowClear src kind s
  | .faultClearWrite w v => Sys2Proof.Machine.execFaultClearWrite w v s
  | .faultLogCommit => Sys2Proof.Machine.execFaultLogCommit s
  | .governorSample t1 t2 => Sys2Proof.Machine.execGovernorSample t1 t2 s
  | .stageShutdown t => Sys2Proof.Machine.execStageShutdown t s
  | .tjPowerPeakClear w => Sys2Proof.Machine.execTjPowerPeakClear w s
  | .hourlyCommit => Sys2Proof.Machine.execHourlyCommit s
  | .powerOn first again => Sys2Proof.Machine.execPowerOn first again s
  | .dumpForcedOffEnd => Sys2Proof.Machine.execDumpForcedOffEnd s
  | .waltzToffEnd n => Sys2Proof.Machine.execWaltzToffEnd n s
  | .stepPulseEnd k => Sys2Proof.Machine.execStepPulseEnd k s
  | .chopperBlankEnd k c reached => Sys2Proof.Machine.execChopperBlankEnd k c reached s
  | .solMinOnEnd m ma => Sys2Proof.Machine.execSolMinOnEnd m ma s
  | .vsOpenLoadOff k c => Sys2Proof.Machine.execVsOpenLoadOff k c s
  | .busOffRecovery p => Sys2Proof.Machine.execBusOffRecovery p s
  | .creditColumnSend cls => Sys2Proof.Machine.execCreditColumnSend cls s
  | .streamAzsinLatch now => Sys2Proof.Machine.execStreamAzsinLatch now s
  | .sidePathMissing => Sys2Proof.Machine.execSidePathMissing s
  | .frameTransmitted p w own now => Sys2Proof.Machine.execFrameTransmitted p w own now s

end Sys2Proof.Machine
end

