-- ==== Sys2Proof/Machine/Step.lean ====
section
/-!
DEFINITION. Machine/Step.lean: a step takes the command at the front of the queue.
-/
namespace Sys2Proof.Machine

/-- The command at the front of the queue is carried out on the state with the rest of the queue and with no output yet; on an
empty queue the block idles (DESIGN CHOICE, log 13). [log 2, 13 DESIGN CHOICE] -/
def step (s : State) : Host.Outcome State Fault Refusal :=
  match s.pending with
  | [] => .next s
  | c :: rest => exec c { s with pending := rest, out := [] }

/-- The state with the command that a table word spells put at the front of its queue. -/
def State.withFetchWord (s : State) (nbits w : Nat) : State :=
  match Sys2Proof.decodeTableWord nbits w with
  | some c => { s with pending := c :: s.pending }
  | none => s

end Sys2Proof.Machine
end

