-- ==== Sys2Proof/Safety.lean ====
section
/-!
DEFINITION. Safety.lean: what claims are stated in: a command's effect, the conditions that stand after every command, and who
may write an entry.
-/
namespace Sys2Proof.Machine

/-- A command run on a state has the effect `u`, after which the chaperone's logic settles (R379, R391). -/
def Gives (c : Instr) (s u : State) : Prop := exec c s = .next u.settle

/-- R379: every armed output meets every condition of its arm signal. -/
def ArmKept (s : State) : Prop := ∀ b < 26, s.ch.armed.testBit b = true → s.armOk b = true
/-- R391: EB_OUT stands at the level that the chaperone's state gives it, where its table names one. -/
def EbKept (s : State) : Prop := ∀ d, s.ebLevel = some d → s.nat Obj.EB_DUTY = d
/-- A lane is safe while its arm signals and EB_OUT are what the chaperone's conditions allow. -/
def Safe (s : State) : Prop := ArmKept s ∧ EbKept s

/-- R133, R135, R143: the dictionary serves the client of a write, which holds a session of at least this level. -/
def MayWrite (s : State) (w : Writer) (n : Nat) : Prop := s.serves w.client = true ∧ n ≤ s.level w.client

end Sys2Proof.Machine
end

