-- ==== Sys2Proof/Certificates/Slice0/Obligations.lean ====
section
/-!
DEFINITION. Certificates/Slice0/Obligations.lean: the statements for the provers.
-/
open Sys2Proof Sys2Proof.Machine

/-! ### The queue, and what every command keeps. -/

/-- A step carries out the command at the front of the queue on the state with the rest of the queue and with no output yet; on an
empty queue the block idles (log 13, the model's own choice). -/
def Obligations.StepRunsFront : Prop :=
  ∀ (s : State) (c : Instr) (rest : List Instr),
    (s.pending = c :: rest → step s = exec c { s with pending := rest, out := [] }) ∧ (s.pending = [] → step s = .next s)

/-- No command stops: each answers a next state from every state, whatever its operands. -/
def Obligations.EveryCommandAnswers : Prop :=
  ∀ (c : Instr) (s : State), ∃ u : State, Gives c s u

/-- R376, R379, R391: at reset no arm signal is asserted and EB_OUT is off. -/
def Obligations.SafeAtReset : Prop :=
  Safe State.reset

/-- R379, R391: every step keeps every arm signal under its conditions and EB_OUT at the level of the chaperone's state. -/
def Obligations.SafeIsKept : Prop :=
  ∀ s t : State, Safe s → step s = .next t → Safe t

/-- R379: after any command an asserted arm signal has CHAP_STATE 2, WDG_ERRORS below WDG_LIMIT, the keeper's request, leadership by
the interlock (R353) or an unexpired lease (R361), the output's sealed enable, the chaperone's supply and clock (R18) and, for an axis,
VACT (R60), PD_POWER up (R71), and no boundary scan or chaperone scan test (R56, R120). -/
def Obligations.ArmedOnlyWhileAllowed : Prop :=
  ∀ (c : Instr) (s t : State) (b : Nat), exec c s = .next t → b < 26 → t.ch.armed.testBit b = true →
    t.nat Obj.CHAP_STATE = 2 ∧ t.nat Obj.WDG_ERRORS < t.nat Obj.WDG_LIMIT ∧ t.ch.request.testBit b = true ∧
    (t.nat Obj.LEAD_MODE = 0 → t.ch.leadOut = true ∧ vget t.ch.peers 0 = false ∧ vget t.ch.peers 1 = false ∧ t.ch.peerHold = false) ∧
    (t.nat Obj.LEAD_MODE ≠ 0 → t.ch.lease.isSome = true) ∧
    (b < 6 → t.n (Obj.AX_ENABLE b) ≠ 0) ∧ (6 ≤ b → b < 10 → t.n (Obj.VS_ENABLE (b - 6)) ≠ 0) ∧
    (10 ≤ b → t.n (Obj.SOL_ENABLE (b - 10)) ≠ 0) ∧
    t.su.low.testBit 4 = false ∧ t.su.low.testBit 5 = false ∧ (b < 6 → t.su.low.testBit 2 = false) ∧
    t.bit Obj.DOMAIN_STATUS 3 = true ∧ t.ch.scan = false ∧ t.ch.scanTest = false

/-- What the settling that ends a command may change (the frame of every command beside its own effect): arm signals may only drop; of
the dictionary EB_DUTY, the states of axes, and the count of dropped fault messages; of the nodes the centres of solenoids; and the units
whose arm signal drops, the axes' note of a disarm (R163), the collector and the drawn values. Everything else is as before, and an output
that was not armed stays as it was. -/
def Obligations.SettlingFrame : Prop :=
  ∀ s : State,
    (∀ c, s.settle.ch.armed.testBit c = true → s.ch.armed.testBit c = true) ∧
    (∀ k, k ≠ Obj.FAULT_DROPS → k ≠ Obj.EB_DUTY → (∀ n < 6, k ≠ Obj.AX_STATE n ∧ k ≠ Obj.AX_STATUS n) → s.settle.get k = s.get k) ∧
    (∀ k, (∀ m < 16, k ≠ 947 + 4 * m) → s.settle.nodeW k = s.nodeW k) ∧
    (∀ n < 6, s.ch.armed.testBit n = false → vget s.settle.ax n = vget s.ax n) ∧
    (∀ n < 4, s.ch.armed.testBit (n + 6) = false → vget s.settle.vs n = vget s.vs n) ∧
    (∀ n < 16, s.ch.armed.testBit (n + 10) = false → vget s.settle.sol n = vget s.sol n) ∧
    { s.settle with
        dict := s.dict, nodes := s.nodes, free := s.free, col := s.col, ax := s.ax, vs := s.vs, sol := s.sol
        ms := { s.settle.ms with disarmedNow := s.ms.disarmedNow }, ch := { s.settle.ch with armed := s.ch.armed } } = s

/-! ### Layouts and number rules. -/

/-- R28: the base length is the largest even number of actuator clocks not above beat ÷ ticks per beat (a µs holds 200 of them); the
first (beat − ticks × base) ÷ 2 ticks are 2 clocks longer; dither adds an even offset of at most `pct` % of the base, 6 at most, to each,
and the offsets sum to zero, so that the lengths always fill the beat; without dither the base lengths stand alone. -/
def Obligations.TickLengthsFillTheBeat : Prop :=
  ∀ beatUs ticks pct seed ordinal : Nat, 0 < ticks → pct ≤ 6 →
    (tickBase beatUs ticks % 2 = 0 ∧ tickBase beatUs ticks * ticks ≤ beatUs * 200 ∧
      ∀ b : Nat, b % 2 = 0 → b * ticks ≤ beatUs * 200 → b ≤ tickBase beatUs ticks) ∧
    tickLong beatUs ticks = (beatUs * 200 - ticks * tickBase beatUs ticks) / 2 ∧
    (∀ d : Bool, (beatLengths beatUs ticks pct seed ordinal d).length = ticks ∧
      (beatLengths beatUs ticks pct seed ordinal d).sum = beatUs * 200) ∧
    (∀ i < ticks, (beatLengths beatUs ticks pct seed ordinal false).getD i 0 =
      tickBase beatUs ticks + if i < tickLong beatUs ticks then 2 else 0) ∧
    (∀ i < ticks, ∃ o : Int, o % 2 = 0 ∧ 100 * |o| ≤ pct * tickBase beatUs ticks ∧
      ((beatLengths beatUs ticks pct seed ordinal true).getD i 0 : Int) =
        tickBase beatUs ticks + (if i < tickLong beatUs ticks then 2 else 0) + o)

/-- R250: node N lies at index 0x5400 + N div 128, sub-index N mod 128 + 1; every node entry is I32, volatile and expert; those of nodes
3584 to 4095 are RW, all others RO. -/
def Obligations.NodeEntriesLieInOrder : Prop :=
  ∀ n < 4096, ∃ r : ObjRow, rowOf ((0x5400 + n / 128) * 256 + (n % 128 + 1)) = some r ∧ r.ty = .i32 ∧
    (r.persist = .volUnit ∨ r.persist = .volApp) ∧ r.level = .expert ∧ r.acc = if 3584 ≤ n then .rw else .ro

/-- R418: every payload begins with the payload type, the NULL flag, the sender's address on the network and the network number of the
port.

R433: after the header a claim has 8 bytes: the spare index, 0, the claimant's schedule signature, and 0. -/
def Obligations.HeaderAndClaimBytes : Prop :=
  (
    ∀ (s : State) (p type : Nat) (null : Bool), type < 256 →
      (s.header p type (b2n null)).length = 4 ∧ (s.header p type (b2n null)).getD 0 0 = BitVec.ofNat 8 type ∧
      (s.header p type (b2n null)).getD 1 0 = (if null then 1 else 0) ∧
      (s.header p type (b2n null)).getD 2 0 = BitVec.ofNat 8 (s.portAddr p) ∧
      (s.header p type (b2n null)).getD 3 0 = BitVec.ofNat 8 (s.portNet p % 16)) ∧ (
    ∀ (s : State) (p idx : Nat), idx < 32 →
      (s.claimPayload p idx).length = 12 ∧ (s.claimPayload p idx).take 4 = s.header p 4 0 ∧
      (s.claimPayload p idx).getD 4 1 = BitVec.ofNat 8 idx ∧ (s.claimPayload p idx).getD 5 1 = 0 ∧
      leNat (((s.claimPayload p idx).drop 6).take 4) = s.schedSig p % 2 ^ 32 ∧ (s.claimPayload p idx).drop 10 = [0, 0])

/-- R529: an ACTIVE_TABLE row has the latest message in [7:0], the time of the first raise in [15:8], the saturating count in [19:16],
the state in [20], the class at raising in [21], and 0 in [23:22]. -/
def Obligations.ActiveRowBytes : Prop :=
  ∀ r : FaultRow, r.bytes.length = 24 ∧ leNat (r.bytes.take 8) = r.last.bits.toNat ∧
    leNat ((r.bytes.drop 8).take 8) = r.first % 2 ^ 64 ∧ leNat ((r.bytes.drop 16).take 4) = min r.count (2 ^ 32 - 1) ∧
    (r.bytes.drop 20).take 1 = [BitVec.ofNat 8 r.state] ∧ (r.bytes.drop 21).take 1 = [BitVec.ofNat 8 r.cls] ∧ r.bytes.drop 22 = [0, 0]

/-- R510, R515: a raised fault takes the class configured for its kind and its source's next sequence; its 64 bits hold source, kind, class,
qualifier, sequence and detail; it enters the queue while there is room, a NOTE or MINOR one is dropped and counted without room, and a
MAJOR or CRITICAL one is held; a CRITICAL one also asserts its source's line (R516). -/
def Obligations.RaisedFaultMeetsTheQueue : Prop :=
  (∀ m : FaultMsg, m.src < 1024 → m.kind < 256 → m.cls < 4 → m.qual < 16 → m.seq < 256 →
    field m.bits.toNat 63 54 = m.src ∧ field m.bits.toNat 53 46 = m.kind ∧ field m.bits.toNat 45 44 = m.cls ∧
    field m.bits.toNat 43 40 = m.qual ∧ field m.bits.toNat 39 32 = m.seq ∧ field m.bits.toNat 31 0 = m.detail.toNat) ∧
  ∀ (s : State) (src kind qual : Nat) (d : Int),
    let m : FaultMsg := ⟨src, kind, s.nat (Obj.FAULT_CLASS kind), qual, Sparse.get (fun _ => 0) s.col.seqs src, BitVec.ofInt 32 d, s.stamp⟩
    let t := s.raise src kind qual (some d)
    Sparse.get (fun _ => 0) t.col.seqs src = (m.seq + 1) % 256 ∧
    (s.col.queue.length < 64 → t.col.queue = s.col.queue ++ [m] ∧ t.col.held = s.col.held ∧ t.dict = s.dict) ∧
    (64 ≤ s.col.queue.length → m.cls ≤ 1 → t.col.queue = s.col.queue ∧ t.col.held = s.col.held ∧ t.col.gap = true ∧
      t.n Obj.FAULT_DROPS = (s.n Obj.FAULT_DROPS + 1) % 2 ^ 32) ∧
    (64 ≤ s.col.queue.length → 2 ≤ m.cls → t.col.queue = s.col.queue ∧ t.col.held = s.col.held ++ [m] ∧ t.dict = s.dict) ∧
    (m.cls = 3 → t.col.lines = s.col.lines ++ [m]) ∧ (m.cls ≠ 3 → t.col.lines = s.col.lines) ∧
    t.nodes = s.nodes ∧ t.ch = s.ch ∧ t.clk = s.clk ∧ t.out = s.out

/-- R77: the vote sets of all clients are ORed; PD_POWER (bit 3) wants PD_MEAS (bit 1), and PD_MEAS, PD_DRAM (bit 2) and PD_POWER want
PD_MAIN (bit 0); no other bit appears. -/
def Obligations.VotesAreClosed : Prop :=
  ∀ s : State,
    let v := s.voteOr (List.range 15)
    (∀ i, v.testBit i = true ↔ ∃ c < 15, (s.voteMask c).testBit i = true) ∧
    (s.votes.testBit 3 = v.testBit 3) ∧ (s.votes.testBit 2 = v.testBit 2) ∧ (s.votes.testBit 1 = (v.testBit 1 || v.testBit 3)) ∧
    (s.votes.testBit 0 = (v.testBit 0 || v.testBit 1 || v.testBit 2 || v.testBit 3)) ∧ (∀ i, 4 ≤ i → s.votes.testBit i = v.testBit i)

/-- R127: a value of every numeric type survives encoding and decoding at every value of its range, and a byte string of another length
is rejected with 0x0604_0001. -/
def Obligations.TypesRoundTrip : Prop :=
  (∀ n : Int, 0 ≤ n → n ≤ 1 → Ty.bool.decode (Ty.bool.encode (.num n)) = .ok (.num n)) ∧
  (∀ n : Int, 0 ≤ n → n < 2 ^ 8 → Ty.u8.decode (Ty.u8.encode (.num n)) = .ok (.num n)) ∧
  (∀ n : Int, 0 ≤ n → n < 2 ^ 16 → Ty.u16.decode (Ty.u16.encode (.num n)) = .ok (.num n)) ∧
  (∀ n : Int, 0 ≤ n → n < 2 ^ 32 → Ty.u32.decode (Ty.u32.encode (.num n)) = .ok (.num n)) ∧
  (∀ n : Int, 0 ≤ n → n < 2 ^ 64 → Ty.u64.decode (Ty.u64.encode (.num n)) = .ok (.num n)) ∧
  (∀ n : Int, -2 ^ 15 ≤ n → n < 2 ^ 15 → Ty.i16.decode (Ty.i16.encode (.num n)) = .ok (.num n)) ∧
  (∀ n : Int, -2 ^ 31 ≤ n → n < 2 ^ 31 → Ty.i32.decode (Ty.i32.encode (.num n)) = .ok (.num n)) ∧
  (∀ n : Int, -2 ^ 63 ≤ n → n < 2 ^ 63 → Ty.i64.decode (Ty.i64.encode (.num n)) = .ok (.num n)) ∧
  (∀ b : List Byte, b.length ≠ 1 → Ty.u8.decode b = .error 0x06040001) ∧
  (∀ b : List Byte, b.length ≠ 2 → Ty.u16.decode b = .error 0x06040001 ∧ Ty.i16.decode b = .error 0x06040001) ∧
  (∀ b : List Byte, b.length ≠ 4 → Ty.u32.decode b = .error 0x06040001 ∧ Ty.i32.decode b = .error 0x06040001) ∧
  (∀ b : List Byte, b.length ≠ 8 → Ty.u64.decode b = .error 0x06040001 ∧ Ty.i64.decode b = .error 0x06040001)

/-! ### Writes of the dictionary. -/

/-- R131, R133, R143, R146, R148: a write leaves everything as it was where the dictionary does not serve its client, where its entry does
not exist or is RO, where its session is below the entry's or, for an RWC entry, below COMMISSION, and where its own judgement rejects its
length, range or value. -/
def Obligations.RejectedWritesChangeNothing : Prop :=
  ∀ (s : State) (w : Writer) (key : BitVec 24) (bytes : List Byte),
    (s.serves w.client = false ∨ rowOf key.toNat = none ∨
      (∃ r, rowOf key.toNat = some r ∧ (r.acc = .ro ∨ (r.acc = .rwc ∧ s.level w.client < 3) ∨ s.level w.client < writeNeed r ∨
        (∃ e, r.ty.decode bytes = .error e) ∨ ∃ v, r.ty.decode bytes = .ok v ∧ valueJudge r key.toNat v ≠ 0)) →
      Gives (.registerWrite w key bytes) s s ∧ Gives (.sealedEntryWrite w key bytes) s s) ∧
    (isSealed key.toNat = false → Gives (.sealedEntryWrite w key bytes) s s)

/-- R26, R129, R148, R250, R551: in a session of EXPERT or above a write of one of the nodes 3584 to 4095 waits for the next tick edge, in one
of SERVICE or above a plain stored entry takes its value and waits for its commit, and in a COMMISSION session a write of a sealed entry is
staged and SIG_STATE becomes 3; the running value of the sealed entry stays. -/
def Obligations.RegisterWritesTakeEffect : Prop :=
  ∀ (s : State) (w : Writer),
    (∀ n, 3584 ≤ n → n < 4096 → ∀ v : Word, MayWrite s w 2 →
      Gives (.registerWrite w (BitVec.ofNat 24 ((0x5400 + n / 128) * 256 + (n % 128 + 1))) (le 4 v.toNat)) s
        { s with nodeWrites := s.nodeWrites ++ [(n, v)] }) ∧
    (∀ k ∈ [Obj.SESSION_IDLE, Obj.TIMER_WAKE, Obj.DOZE_MAX, Obj.CUE_ID, Obj.CUE_ID_MASK], ∀ v : Word, ∀ n, MayWrite s w 1 →
      ((k = Obj.SESSION_IDLE ∧ n = 2) ∨ (k ≠ Obj.SESSION_IDLE ∧ n = 4)) → (∀ r, rowOf k = some r → r.chk.judge ((v.toNat % 256 ^ n : Nat) : Int) = none) →
      Gives (.registerWrite w (BitVec.ofNat 24 k) (le n v.toNat)) s (s.putStored k (.nat (v.toNat % 256 ^ n)))) ∧
    (∀ (key : BitVec 24) (bytes : List Byte) (r : ObjRow) (v : Val), s.serves w.client = true →
      s.writeJudge w.client key.toNat bytes = .ok (r, v) → r.persist = .sealed → r.acc ≠ .rwr → s.depends key.toNat v = 0 →
      Gives (.sealedEntryWrite w key bytes) s (s.stageWrite key.toNat v) ∧ Gives (.registerWrite w key bytes) s (s.stageWrite key.toNat v) ∧
      Sparse.find (s.stageWrite key.toNat v).staged key.toNat = some v ∧ (s.stageWrite key.toNat v).sigState = 3 ∧
      (s.stageWrite key.toNat v).sealedSet = s.sealedSet ∧ (s.stageWrite key.toNat v).dict = s.dict)

/-- R100, R111, R115, R139, R173, R181: what the keeper's own entries do when they are written: a reset request, the slots, the session keys,
calibration and the restart of latched sensor supplies; and the commit of a stored write, after which both flash copies stand. -/
def Obligations.KeeperWrites : Prop :=
  ∀ (s : State) (w : Writer),
    (MayWrite s w 1 → Gives (.resetRequest w) s ((s.giveUp 4 Src.keeper 0 true).resetTo 4 w.tick)) ∧
    (∀ slot : Byte, MayWrite s w 1 → slot.toNat ≤ 1 →
      (s.slotState slot.toNat = 1 → Gives (.slotPreferredWrite w slot) s
        ((s.putStored Obj.SLOT_PREFERRED (.nat slot.toNat)).putStored (slotStateKey slot.toNat) (.nat 2))) ∧
      (s.slotState slot.toNat ≠ 1 → Gives (.slotPreferredWrite w slot) s (s.putStored Obj.SLOT_PREFERRED (.nat slot.toNat)))) ∧
    (MayWrite s w 1 →
      (s.slotState (s.nat Obj.SLOT_ACTIVE) = 2 → Gives (.slotConfirm w) s
        ((s.putStored (slotStateKey (s.nat Obj.SLOT_ACTIVE)) (.nat 3)).putN Obj.FUSE_SECVER
          (max (s.nat Obj.FUSE_SECVER) (min 64 (s.nat (slotSecKey (s.nat Obj.SLOT_ACTIVE)))) : Nat))) ∧
      (s.slotState (s.nat Obj.SLOT_ACTIVE) ≠ 2 → Gives (.slotConfirm w) s s)) ∧
    (∀ (k : Fin 3) (bytes : List Byte), MayWrite s w 3 → bytes.length = 16 →
        let t : State := s.putStored (Obj.KEY_SERVICE + k) (.oct bytes)
        Gives (.keyEntryWrite w k bytes) s (t.putN Obj.KEY_STATE (b2n (t.get Obj.KEY_SERVICE != .oct (zeros 16)) +
          2 * b2n (t.get Obj.KEY_EXPERT != .oct (zeros 16)) + 4 * b2n (t.get Obj.KEY_COMMISSION != .oct (zeros 16)) +
          16 * b2n (t.get Obj.KEY_COMMISSION == .oct (le 16 Config.deliveryKey.toNat)) : Nat))) ∧
    (MayWrite s w 0 →
      (s.ch.armed = 0 → s.ms.calRun = 0 → ∃ u : State, Gives (.calStart w) s u ∧
        { u with ms := { u.ms with spoiled := s.ms.spoiled, gc := s.ms.gc } } =
          { s.putN Obj.CAL_STATUS 1 with ms.calRun := 1, ms.calSet := List.range 38 } ∧
        ∀ g < 4, (vget u.ms.gc g).table = s.gcTable g) ∧
      ((s.ch.armed ≠ 0 ∨ s.ms.calRun ≠ 0) → Gives (.calStart w) s s)) ∧
    (MayWrite s w 0 → Gives (.supRestart w) s (s.each 4 fun s k => s.when (s.bit Obj.SUP_STATUS (4 + k) && s.bit Obj.DOMAIN_STATUS 1) fun s =>
      { (s.putBit Obj.SUP_STATUS (4 + k) false).putBit Obj.SUP_STATUS k false with
          ms.sup := vset s.ms.sup k { on := true, failed := 0 } })) ∧
    (∀ key : BitVec 24, Gives (.storedWriteCommit key) s
      { s with uncommitted := Sparse.erase s.uncommitted key.toNat, me.oneCopy := s.me.oneCopy.erase key.toNat })

/-- R149: SIG_CONFIRM with another value than SIG_COMPUTED, or with nothing staged while a set is active, changes nothing; otherwise a table that fails
R230 leaves its cell in LOOP_REJECT, a schedule that fails R415 its row in SCHED_REJECT, and any other failing check nothing; a set that passes every check is
confirmed where its write to flash takes: SIG_STAGED takes the value, SIG_STATE becomes 2, and the set waits for the next start, in the chaperone's staged bank too (R387). -/
def Obligations.ConfirmationTakesAPassingSet : Prop :=
  ∀ (s : State) (w : Writer) (crc : Word), MayWrite s w 3 →
    (crc.toNat ≠ s.sigComputed → Gives (.sigConfirm w crc) s s) ∧
    (crc.toNat = s.sigComputed → s.staged = [] → s.nat Obj.SIG_STATE ≠ 0 → Gives (.sigConfirm w crc) s s) ∧
    (crc.toNat = s.sigComputed → (s.staged ≠ [] ∨ s.nat Obj.SIG_STATE = 0) → Gives (.sigConfirm w crc) s
      (match s.asStaged.tableFails with
        | some (k, cell) => s.putN Obj.LOOP_REJECT (k * 65536 + cell : Nat)
        | none =>
          if s.asStaged.checksBefore = false then s
          else match s.asStaged.schedReject with
            | some r => s.putN Obj.SCHED_REJECT r
            | none =>
              if s.asStaged.checksAfter = false ∨ w.flash = false then s
              else { ((s.putN Obj.SIG_STAGED crc.toNat).putN Obj.SIG_STATE 2).putN Obj.SIG_CONFIRM_TIME s.stamp with
                       confirmed := s.stagedSet, staged := [], ch.staged := s.stagedSet }))

/-- R190, R192, R194, R195, R197, R198, R211, R216: what a write of a feedback channel's or an observer's entry does.

R237, R245, R247, R248: what a write of a cell's state or status, of LOOP_LOAD_PEAK or of TRACE_COMMAND does; an arming in a tick in which a
condition has been met triggers at once, armed first (R245). -/
def Obligations.FeedbackAndLoopWrites : Prop :=
  (
    ∀ (s : State) (w : Writer) (n : Fin 12),
      (∀ v : BitVec 64, MayWrite s w 0 → Gives (.fbExtRebase w n v) s
        (((((s.putN (Obj.FB_EXT_POSITION n) v.toInt).putN (Obj.EXT_ACCUM n) 0).putBit (Obj.FB_STATUS n) 7 true).putBit (Obj.FB_STATUS n) 6 false).gearsFollow n)) ∧
      (MayWrite s w 0 → Gives (.slipCountClear w n) s ((s.putN (Obj.SLIP_COUNT n) 0).putBit (Obj.FB_STATUS n) 4 false)) ∧
      (∀ v : Word, MayWrite s w 0 →
        (s.sourceUsed [n] [n] = false → Gives (.fbCounterPreset w n v) s
          (((((s.fbMove n v.toNat).putN (Obj.FB_EXT_POSITION n) v.toInt).putN (Obj.EXT_ACCUM n) 0).putBit (Obj.FB_STATUS n) 7 true).putBit
            (Obj.FB_STATUS n) 6 false |>.putBit (Obj.FB_STATUS n) 5 false)) ∧
        (s.sourceUsed [n] [n] = true → Gives (.fbCounterPreset w n v) s s)) ∧
      (∀ v : Byte, v.toNat ≤ 2 → MayWrite s w 1 →
        (s.sourceUsed [n] [n] = false → Gives (.fbClassWrite w n v) s
          ((((s.putStored (Obj.FB_CLASS n) (.nat v.toNat)).putN (Obj.FB_CLASS n) v.toNat).putBit (Obj.FB_STATUS n) 5 false).cmpDisarmAll n)) ∧
        (s.sourceUsed [n] [n] = true → Gives (.fbClassWrite w n v) s s)) ∧
      (∀ v : Word, MayWrite s w 1 →
        (s.sourceUsed [n] [n] = false → Gives (.indexCprWrite w n v) s ((s.putStored (Obj.INDEX_CPR n) (.nat v.toNat)).indexCprWrite n v.toNat)) ∧
        (s.sourceUsed [n] [n] = true → Gives (.indexCprWrite w n v) s s)) ∧
      (MayWrite s w 0 → Gives (.latchCommandLatch w n) s (s.latchTrigger n 3 w.now w.now)) ∧
      (MayWrite s w 0 → Gives (.latchRearm w n) s (s.putBit (Obj.FB_STATUS n) 2 true)) ∧
      (MayWrite s w 0 → Gives (.obCommand w n) s
        ({ s with ob := vset s.ob n { samples := (vget s.ob n).samples } }.obsStatus n))) ∧ (
    ∀ (s : State) (w : Writer), MayWrite s w 2 →
      (∀ (n : Fin 256) (v : Word), Gives (.cellStateWrite w n true v) s
        { s with lp.cells := vmod s.lp.cells n fun c => { c with pre1 := some v.toInt } }) ∧
      (∀ (n : Fin 256) (v : Word), Gives (.cellStateWrite w n false v) s
        { s with lp.cells := vmod s.lp.cells n fun c => { c with pre0 := some v.toInt } }) ∧
      (∀ n : Fin 256, Gives (.cellStatusClear w n) s
        { s with lp.cells := vmod s.lp.cells n fun c => { c with overrun := false, ovf := false, wrap := false } }) ∧
      Gives (.loopLoadPeakClear w) s (s.putN Obj.LOOP_LOAD_PEAK 0) ∧
      (
        let o : State := ({ s with lp.trace := s.lp.trace.map fun (t : TraceCh) => { t with ring := [], post := 0,
                                                                                            stopped := false } }.each 32 fun s c => s.putN (Obj.TRACE_SAMPLES c) 0).putN Obj.TRACE_STATE 1
        (s.lp.met = none → Gives (.traceArm w) s o) ∧
        (∀ mask time, s.lp.met = some (mask, time) → Gives (.traceArm w) s (o.traceTrigger mask time))) ∧
      Gives (.traceForceTrigger w) s (s.traceTrigger 0x10 s.clk.now) ∧
      Gives (.traceFreeze w) s s.traceFreeze)

/-- R277, R285, R287, R290, R297, R299, R302, R319, R324: what a write to an axis, a generator, a compare unit, a stepper or a solenoid does. -/
def Obligations.MotionWrites : Prop :=
  ∀ (s : State) (w : Writer),
    (∀ n : Fin 6, MayWrite s w 3 → s.nat Obj.SESSION_CURRENT = 3 →
      (s.axState n = 2 → s.axAtRest n (s.axSpeed n) = true → Gives (.axIdentify w n) s
        (s.axMod n fun x => { x with ident := some 0, identSum := 0, identTicks := 0 })) ∧
      ((s.axState n ≠ 2 ∨ s.axAtRest n (s.axSpeed n) = false) → Gives (.axIdentify w n) s s)) ∧
    (∀ m : Fin 12, MayWrite s w 0 →
      ((s.genMode m = 0 ∨ s.genMode m = 3) → Gives (.mxGo w m) s s) ∧
      (s.genMode m ≠ 0 → s.genMode m ≠ 3 → s.genAtRest m = true → Gives (.mxGo w m) s
        ((s.genMod m fun g => { g with pending := true, done := false }).each 4 fun x k => x.when (x.vsGen k == some m.val) fun x =>
          x.stepMod k fun y => { y with stalled := false, weak := 0 })) ∧
      (s.genMode m ≠ 0 → s.genMode m ≠ 3 → s.genAtRest m = false → Gives (.mxGo w m) s
        ((s.count (Obj.MX_REJECTS m) 32).raise (Src.mx m) Kind.MOVE_REJECTED 2 (some (Obj.MX_COMMAND m)))) ∧
      Gives (.mxStop w m) s (s.genMod m fun g =>
        { g with pending := false, engageNext := false, stopNext := g.stopNext || ((g.moving || g.engaged || g.engageNext) && g.stop.isNone) }) ∧
      (∀ v : Byte, v.toNat ≤ 3 →
        (s.genAtRest m = true → Gives (.mxModeWrite w m v) s
          ((s.putN (Obj.MX_MODE m) v.toNat).genMod m fun g => { g with moving := false, creep := false, engageNext := v == 3, engaged := false })) ∧
        (s.genAtRest m = false → Gives (.mxModeWrite w m v) s
          ((s.count (Obj.MX_REJECTS m) 32).raise (Src.mx m) Kind.MOVE_REJECTED 3 (some (Obj.MX_MODE m))))) ∧
      (∀ v : Byte, v.toNat ≤ 1 → Gives (.gearTableRequestWrite w m v) s
        ((s.putN (Obj.GEAR_TABLE_REQUEST m) v.toNat).putBit (Obj.GEAR_STATUS m) 3 (decide ((v.toNat : Int) ≠ s.n (Obj.GEAR_TABLE_ACTIVE m)))))) ∧
    (∀ (n : Fin 12) (u : Fin 4), MayWrite s w 0 →
      (∀ v : Word,
        (s.bit (Obj.CMP_CONTROL n u) 7 = true → Gives (.cmpPositionWrite w n u v) s ((s.putN (Obj.CMP_POSITION n u) v.toNat).cmpArm n u)) ∧
        (s.bit (Obj.CMP_CONTROL n u) 7 = false → Gives (.cmpPositionWrite w n u v) s (s.putN (Obj.CMP_POSITION n u) v.toNat))) ∧
      (∀ v : Byte, v.toNat % 32 = 0 → v.toNat / 32 % 4 ≠ 3 →
        (128 ≤ v.toNat → Gives (.cmpControlWrite w n u v) s ((s.putN (Obj.CMP_CONTROL n u) v.toNat).cmpArm n u)) ∧
        (v.toNat < 128 → Gives (.cmpControlWrite w n u v) s
          ((s.putN (Obj.CMP_CONTROL n u) v.toNat).putBit (Obj.CMP_STATUS n u) 0 false))) ∧
      (∀ v : Byte, v.toNat / 32 % 4 = 3 → Gives (.cmpControlWrite w n u v) s s)) ∧
    (∀ k : Fin 4, MayWrite s w 0 → Gives (.vsClearShort w k) s ((s.stepMod k fun x => { x with shorted := false }).vsRefresh k)) ∧
    (∀ m : Fin 16, MayWrite s w 0 → Gives (.solClearFaults w m) s
      (s.solMod m fun x => { x with overcurrent := false, toSupply := false, openOn := false, openOff := false }))

/-- R356, R364, R453, R470, R499, R502, R505, R521, R547: what a write to leadership, a connection, the stream port, the recorder, the collector or
the governor does. -/
def Obligations.LaneWrites : Prop :=
  ∀ (s : State) (w : Writer),
    (MayWrite s w 1 →
      (s.ld.leading = true → Gives (.leadRequestGiveUp w) s (s.giveUp 5 0 0 true)) ∧
      (s.ld.leading = false → Gives (.leadRequestGiveUp w) s s ∧ Gives (.leadRequestLineTest w) s s) ∧
      (s.ld.leading = true → Gives (.leadRequestLineTest w) s ((s.lineTest w.now).getD s))) ∧
    (∀ c : Fin 1024, MayWrite s w 0 →
      (s.nat (Obj.AZ_STATE c) = 3 → s.nat (Obj.AZ_RECOVER c) ≤ (s.azConn c).good → Gives (.azCommandRecover w c) s (s.putN (Obj.AZ_STATE c) 2)) ∧
      ((s.nat (Obj.AZ_STATE c) ≠ 3 ∨ (s.azConn c).good < s.nat (Obj.AZ_RECOVER c)) → Gives (.azCommandRecover w c) s s)) ∧
    (MayWrite s w 1 →
      (s.streamState = 0 → s.domainUp 0 = true → Gives (.streamEnableWrite w true) s
        ((s.putStored Obj.STREAM_ENABLE (.nat 1)).putN Obj.STREAM_STATE 1)) ∧
      ((s.streamState ≠ 0 ∨ s.domainUp 0 = false) → Gives (.streamEnableWrite w true) s (s.putStored Obj.STREAM_ENABLE (.nat 1))) ∧
      Gives (.streamEnableWrite w false) s (((s.putStored Obj.STREAM_ENABLE (.nat 0)).linkEnd.spMod (fun x => { x with failed := false })).putN Obj.STREAM_STATE 0)) ∧
    (MayWrite s w 0 → Gives (.recordTriggerCommand w) s (s.recTrigger 3 0)) ∧
    (MayWrite s w 1 → Gives (.recordErase w) s (s.each 8 fun s n =>
      s.when (!s.bit Obj.RECORD_PROTECT n && (s.rc.event.map (·.slot)) != some n) (·.slotErase n))) ∧
    (∀ slot : Byte, slot.toNat ≤ 7 → MayWrite s w 0 →
      (w.client = .stream → s.rc.event.map (·.slot) ≠ some slot.toNat →
        Gives (.recordDownload w slot) s (s.recMod fun r => { r with download := some (slot.toNat, 0), cut := false })) ∧
      (w.client ≠ .stream → Gives (.recordDownload w slot) s s)) ∧
    (∀ v : Word, MayWrite s w 1 →
      (∀ r, s.row (field v.toNat 17 8) (field v.toNat 7 0) = some r →
        ((r.state = 1 ∨ (r.state = 3 ∧ s.causeStands (field v.toNat 17 8) (field v.toNat 7 0) = false)) →
          Gives (.faultClearWrite w v) s (s.rowFree (field v.toNat 17 8) (field v.toNat 7 0))) ∧
        ((r.state = 2 ∨ r.state = 4 ∨ r.state = 5 ∨ (r.state = 3 ∧ s.causeStands (field v.toNat 17 8) (field v.toNat 7 0) = true)) →
          Gives (.faultClearWrite w v) s s)) ∧
      (s.row (field v.toNat 17 8) (field v.toNat 7 0) = none → Gives (.faultClearWrite w v) s s)) ∧
    (MayWrite s w 2 → Gives (.tjPowerPeakClear w) s (s.putN Obj.TJ_POWER_PEAK (s.n Obj.TJ_POWER)))

/-! ### Ticks and beats. -/

/-- R27, R225, R227: at a running lane a tick edge ends the tick in progress, writes what describes it, opens the next tick and runs the pre-cell
stages, blending, the cell window, the shadow capture and the gate tests, in this order; the close of the cell window judges
skipped cells, lets every trace channel sample and then runs the axes' stages (a window still open when its tick ends closes there, log 243); a beat boundary at the last tick ends it and opens the beat of its ordinal. Where no tick or
beat is due nothing happens. -/
def Obligations.TicksAndBeatsRunTheirStages : Prop :=
  ∀ s : State,
    (∀ cycles stalls failed : Nat, s.clk.running = true → (s.clk.opened = true ∨ s.lastTick = false) →
        let o : State := (if s.clk.opened then s else s.tickEnd)
        let u : State := ((o.tickDescribe.tickOpen.preCell o.clk.ended).blendTick).cellWindow cycles stalls
        Gives (.tickEdge cycles stalls failed) s (u.shadowCapture.gateTests failed).icOpen.restSession.heartbeat) ∧
    (∀ cycles stalls failed : Nat, (s.clk.running = false ∨ (s.clk.opened = false ∧ s.lastTick = true)) →
      Gives (.tickEdge cycles stalls failed) s s) ∧
    (s.clk.windowOpen = true →
      let o : State := { s.overrunJudge with clk.windowOpen := false }
      (o.bit Obj.INIT_STATUS 7 = true → Gives .cellWindowClose s (o.each 32 fun x i => x.traceSample o.loopCount i).traceSettle.traceCompare.axesPost) ∧
      (o.bit Obj.INIT_STATUS 7 = false → Gives .cellWindowClose s o.traceCompare.axesPost)) ∧
    (s.clk.windowOpen = false → Gives .cellWindowClose s s) ∧
    (∀ (sc : Vector Charge 16) (late : Bool), s.clk.running = true → s.clk.opened = false → s.lastTick = true →
        let o : State := s.tickEnd.putN Obj.BEAT_NUMBER (s.tickEnd.ordinal % 2 ^ 64 : Nat)
        let b : State := { o with clk.lens := o.beatLens s.tickEnd.ordinal, clk.opened := true, bl.due := !o.appStopped, bl.late := late }
          let u : State := (((b.beatUnits sc).raluneBeat s.tickEnd.ordinal).azBeat s.tickEnd.ordinal).standBeat
          Gives (.beatBoundary sc late) s (u.leadBeat (u.votes.testBit 3)).streamBeat) ∧
    (∀ (sc : Vector Charge 16) (late : Bool), (s.clk.running = false ∨ s.clk.opened = true ∨ s.lastTick = false) →
      Gives (.beatBoundary sc late) s s)

/-- R26, R27, R31, R32: what opening a tick does to time and nodes: the tick after a boundary has index 0 and any other the next one, with its length
from the beat's list; node writes waiting reach their nodes, the last of several standing; the arming that a tick's feeds follow is taken at its edge; nodes 0 to 2 hold the ended tick's length, index and
beat, and no other node changes with them. -/
def Obligations.OpeningATickMovesTimeAndNodes : Prop :=
  ∀ s : State,
    (s.clk.opened = true → s.tickOpen.nat Obj.TICK_INDEX = 0) ∧
    (s.clk.opened = false → s.tickOpen.nat Obj.TICK_INDEX = s.nat Obj.TICK_INDEX + 1) ∧
    (∀ k, k ≠ Obj.TICK_INDEX → s.tickOpen.get k = s.get k) ∧ s.tickOpen.nodes = s.nodes ∧
    s.tickOpen.lp.armed = s.ch.armed ∧ s.tickOpen.clk.windowOpen = true ∧ s.tickOpen.clk.opened = false ∧ s.tickOpen.clk.ticks = s.clk.ticks + 1 ∧
    s.tickOpen.clk.tickBeat = s.nat Obj.BEAT_NUMBER ∧ s.tickOpen.clk.now = s.clk.now ∧ s.tickOpen.clk.lens = s.clk.lens ∧
    s.tickOpen.clk.tickLen = s.clk.lens.getD (s.tickOpen.nat Obj.TICK_INDEX) s.clk.tickLen ∧
    s.nodesTake.nodeWrites = [] ∧ s.nodesTake.dict = s.dict ∧
    (∀ k, s.nodesTake.nodeW k = match s.nodeWrites.reverse.find? (fun e => e.1 == k) with
      | some e => e.2
      | none => s.nodeW k) ∧
    s.tickNodes.nodeW 0 = BitVec.ofNat 32 s.clk.ended ∧ s.tickEnd.clk.ended = s.clk.tickLen ∧ s.tickNodes.nodeW 1 = BitVec.ofInt 32 (s.n Obj.TICK_INDEX) ∧
    s.tickNodes.nodeW 2 = BitVec.ofNat 32 s.clk.tickBeat ∧ (∀ k, 3 ≤ k → s.tickNodes.nodeW k = s.nodeW k) ∧ s.tickNodes.dict = s.dict

/-! ### Partitions and resets. -/

/-- R22, R24: an application restart leaves the lane restarting, with no lead, no power-arm request, no card, no session, transfer or challenge, not settled on a lead,
blending as at power-on and nothing waiting on the Azsin connections; its end starts the connections and the recorder again; a keeper fault makes the lane fail-silent with no power-arm
request and no permission. -/
def Obligations.PartitionsRestart : Prop :=
  ∀ s : State,
    (∀ cause : Fin 5, Gives (.appPartitionRestart cause) s (s.appRestart cause) ∧ (s.appRestart cause).ld.restarting = true ∧
      (s.appRestart cause).ld.leading = false ∧ (s.appRestart cause).ld.gaveUp = true ∧ (s.appRestart cause).ch.request = 0 ∧
      (s.appRestart cause).ch.lease = none ∧ (s.appRestart cause).se.owner = none ∧ (s.appRestart cause).se.transfers = [] ∧
      (s.appRestart cause).se.challenge = none ∧ (s.appRestart cause).bl = {} ∧ (s.appRestart cause).az.queue = [] ∧
      (s.appRestart cause).az.records = [] ∧ (s.appRestart cause).ld.settled = false ∧ (s.appRestart cause).ld.card = {} ∧
      (s.appRestart cause).clk = s.clk) ∧
    (s.ld.restarting = true → Gives .appRestartComplete s { s with ld.restarting := false }.azInit.recResume) ∧
    (s.ld.restarting = false → Gives .appRestartComplete s s) ∧
    (Gives .keeperFault s (s.criticalReaction Src.keeper 0 0) ∧ (s.criticalReaction Src.keeper 0 0).col.failSilent = true ∧
      (s.criticalReaction Src.keeper 0 0).ch.permission = none ∧ (s.criticalReaction Src.keeper 0 0).ch.request = 0)

/-- R97, R114, R115: after a reset of any kind from 0x0 to 0x7 but an application restart (0x5) a volatile entry reads its default, unless it shows what the chaperone or
the supply monitors hold or a client's vote, and but for the reset kind, the always-on seconds, the state of an axis that the power die may hold in ASC over kinds 0x2 to
0x4 (log 250) and the domains that the last waltz holds up; a stored or sealed entry keeps its value, an uncommitted write
being lost on kinds 0x0 to 0x3 (and KEY_STATE with an uncommitted key); nodes, feedback, valves, memories of faults in the collector and sessions are as at power-on, and so are axes over other kinds; the start is due; and what waits in
the queue, the outputs and global time stay. -/
def Obligations.ResetKeepsByPersistence : Prop :=
  ∀ (s : State) (kind tick : Nat), kind ≤ 7 → kind ≠ 5 →
    let t := s.resetTo kind tick
    (∀ (key : Nat) (r : ObjRow), rowOf key = some r → (r.persist = .volUnit ∨ r.persist = .volApp) → chapEntry key = false →
      voteEntry key = false → key ≠ Obj.LAST_RESET_KIND → key ≠ Obj.AON_SECONDS → (s.chapState = 4 → key ≠ Obj.DOMAIN_STATUS) →
      (2 ≤ kind → kind ≤ 4 → ∀ n < 6, key ≠ Obj.AX_STATE n) → t.get key = defaultOf key) ∧
    (∀ (key : Nat) (r : ObjRow), rowOf key = some r → (r.persist = .stored ∨ r.persist = .sealed) → chapEntry key = false →
      (3 < kind ∨ (Sparse.find s.uncommitted key = none ∧ (key = Obj.KEY_STATE → ∀ e ∈ s.uncommitted, e.1 ∉ keyEntries))) →
      t.get key = s.get key) ∧
    (∀ (key : Nat) (r : ObjRow) (v : Val), rowOf key = some r → r.persist = .stored → chapEntry key = false → kind ≤ 3 →
      s.uncommitted = [(key, v)] → t.get key = v) ∧
    t.nodes = [] ∧ t.fb = State.reset.fb ∧ t.ob = State.reset.ob ∧ t.vs = State.reset.vs ∧ t.sol = State.reset.sol ∧
    ((kind < 2 ∨ 4 < kind) → t.ax = State.reset.ax) ∧ (s.chapState = 4 → t.bit Obj.DOMAIN_STATUS 1 = true ∧ t.bit Obj.DOMAIN_STATUS 3 = true) ∧
    (2 ≤ kind → kind ≤ 4 → t.me.remaps = s.me.remaps) ∧
    t.col.queue = [] ∧ t.col.rows = [] ∧ ((kind = 0 ∨ s.col.silentBy ≠ some Kind.LAST_WALTZ) → t.col.failSilent = false) ∧ t.se = {} ∧ t.staged = [] ∧ t.uncommitted = [] ∧
    (∀ b < 26, t.ch.armed.testBit b = false) ∧ t.ch.request = 0 ∧ t.ch.lease = none ∧ t.ch.mainReset = true ∧
    t.st.due = some (s.dueKind kind tick) ∧ t.nat Obj.LAST_RESET_KIND = s.dueKind kind tick ∧ t.pw.sleep = 0 ∧ t.pw.entry = 0 ∧
    t.clk = { now := s.clk.now } ∧ t.pending = s.pending

/-- R18, R55, R60, R64, R97, R99: which commands reset the lane and with what kind: a brown-out (0x1) and a recognised low on RST_N (0x2) while the main die is powered
or kept, the chaperone's forced resets (0x3) on its own restart, on a start that is late and on recovery from fail-silence while the count allows, and the power-on of
the always-on domain (0x0); a pulse that is not recognised, and a supervision (a signature presented in time ends it) or recovery whose conditions do not hold, change nothing; the chaperone's own reset drops
LEAD_OUT and leadership. -/
def Obligations.ResetsByCause : Prop :=
  ∀ (s : State) (tick : Nat),
    (s.mainAlive = true → Gives (.brownOut tick) s ((s.supplyLow 0 true).waltzOff.resetTo 1 tick)) ∧
    (s.mainAlive = false → Gives (.brownOut tick) s ((s.supplyLow 0 true).waltzOff.aonTo tick)) ∧
    (∀ (width : Nat) (taken : Bool),
      ((10000 ≤ width ∨ (2000 ≤ width ∧ taken = true)) → s.mainAlive = true → Gives (.pinReset width taken tick) s (s.resetTo 2 tick)) ∧
      ((width < 2000 ∨ (width < 10000 ∧ taken = false) ∨ s.mainAlive = false) → Gives (.pinReset width taken tick) s s)) ∧
    (Gives .chaperoneReset s s.chaperoneReset ∧ s.chaperoneReset.ch.leadOut = false ∧ s.chaperoneReset.ch.armed = 0 ∧
      s.chaperoneReset.ld.leading = false ∧ s.chaperoneReset.ch.inReset = true ∧ s.chaperoneReset.nat Obj.CHAP_STATE = 0 ∧ s.chaperoneReset.nat Obj.EB_DUTY = 0) ∧
    (∀ first again : StrapReads, s.ch.inReset = true →
      let o : State := { (s.supplyLow 4 false).supplyLow 5 false with ch.inReset := false }
      (s.mainAlive = true → s.ch.mainReset = false → Gives (.chaperoneResetRelease first again tick) s
        (((o.resetTo 3 tick).aonTo tick).strapsTake first again)) ∧
      ((s.mainAlive = false ∨ s.ch.mainReset = true) → Gives (.chaperoneResetRelease first again tick) s
        ((o.aonTo tick).strapsTake first again))) ∧
    (∀ first again : StrapReads, s.ch.inReset = false → Gives (.chaperoneResetRelease first again tick) s s) ∧
    (∀ first again : StrapReads,
      let o : State := { s.resetTo 0 0 with pw := { key := s.pw.key, holdNet := s.pw.holdNet } }
      (o.ch.inReset = true → Gives (.powerOn first again) s (o.putN Obj.STRAP_WORD 0)) ∧
      (o.ch.inReset = false → 4 ≤ o.chapState → Gives (.powerOn first again) s o) ∧
      (o.ch.inReset = false → o.chapState < 4 → Gives (.powerOn first again) s (o.strapsTake first again))) ∧
    (s.st.presented = false → s.nat Obj.START_STEP < 8 → s.st.loader = false → (s.chapState = 1 ∨ s.chapState = 3) → s.mainAlive = true →
      Gives (.startSupervisionTimeout tick) s (s.resetTo 3 tick)) ∧
    ((s.st.presented = true ∨ 8 ≤ s.nat Obj.START_STEP ∨ s.st.loader = true ∨ (s.chapState ≠ 1 ∧ s.chapState ≠ 3) ∨ s.mainAlive = false) →
      Gives (.startSupervisionTimeout tick) s s) ∧
    (s.col.failSilent = true → s.n Obj.RECOVERY_ENABLE ≠ 0 → s.nat Obj.RECOVERY_COUNT < s.nat Obj.RECOVERY_LIMIT →
      (∀ k, s.col.silentBy = some k → k ∉ neverRecovered) →
      Gives (.recoveryDelayExpiry tick) s ((s.count Obj.RECOVERY_COUNT 8).resetTo 3 tick)) ∧
    ((s.col.failSilent = false ∨ s.n Obj.RECOVERY_ENABLE = 0 ∨ s.nat Obj.RECOVERY_LIMIT ≤ s.nat Obj.RECOVERY_COUNT ∨
      ∃ k ∈ [Kind.STRAP_PARITY, Kind.CHAP_CONFIG_SIG, Kind.PARAM_SIG_MISMATCH, Kind.IMAGE_VERIFY_FAIL, Kind.LAST_WALTZ], s.col.silentBy = some k) →
      Gives (.recoveryDelayExpiry tick) s s)

/-! ### Supplies, straps and clocks. -/

/-- R18, R54, R56, R60, R61, R67, R74, R275, R390: what the supply monitors, the service read of the straps, the clock monitors, boundary scan and the HOLD net do. -/
def Obligations.SuppliesStrapsAndClocks : Prop :=
  ∀ s : State,
    (∀ (k : Fin 5) (tick : Nat),
      (s.bit Obj.SUPPLY_FLAGS k = false → Gives (.supplyUndervoltage k false tick) s
        ((s.putBit Obj.SUPPLY_FLAGS k true).raise Src.supply Kind.SUPPLY_UV (k + 1) (some (s.supplyMv k)))) ∧
      (s.bit Obj.SUPPLY_FLAGS k = true → Gives (.supplyUndervoltage k false tick) s s) ∧
      (k = 1 → Gives (.supplyUndervoltage k true tick) s ((s.underVoltage 1).supplyLow 1 true).armJudge) ∧
      (k = 2 → Gives (.supplyUndervoltage k true tick) s (((s.underVoltage 2).supplyLow 2 true).waltzOff.armJudge.each 6 fun x n =>
        if 3 ≤ x.axState n then x.axOffNow n else x)) ∧
      (k = 3 → Gives (.supplyUndervoltage k true tick) s (((s.underVoltage 3).supplyLow 3 true).each 4 fun x n => x.vsHalt n)) ∧
      (k = 0 → Gives (.supplyUndervoltage k true tick) s ((s.underVoltage 0).brownOut tick)) ∧
      (k = 4 → Gives (.supplyUndervoltage k true tick) s (s.underVoltage 4).chaperoneReset)) ∧
    (∀ k : Fin 5,
      (s.bit Obj.SUPPLY_FLAGS (8 + k) = true → Gives (.supplyOvervoltage k) s s) ∧
      (s.bit Obj.SUPPLY_FLAGS (8 + k) = false → k ≠ 2 → Gives (.supplyOvervoltage k) s
        ((s.putBit Obj.SUPPLY_FLAGS (8 + k) true).raise Src.supply Kind.SUPPLY_OV (k + 1)
          (some ((s.putBit Obj.SUPPLY_FLAGS (8 + k) true).supplyMv k)))) ∧
      (s.bit Obj.SUPPLY_FLAGS (8 + k) = false → k = 2 → Gives (.supplyOvervoltage k) s
        (((s.putBit Obj.SUPPLY_FLAGS 10 true).raise Src.supply Kind.VACT_OV 1
          (some ((s.putBit Obj.SUPPLY_FLAGS 10 true).supplyMv 2))).dumpJudge true)) ∧
      Gives (.supplyRecovery k 0) s (s.putBit Obj.SUPPLY_FLAGS k false) ∧
      (k ≠ 2 → Gives (.supplyRecovery k 1) s (s.putBit Obj.SUPPLY_FLAGS (8 + k) false)) ∧
      (k = 2 → Gives (.supplyRecovery k 1) s ((s.putBit Obj.SUPPLY_FLAGS 10 false).dumpJudge false)) ∧
      (k = 3 → Gives (.supplyRecovery k 2) s (s.supplyLow 3 false).vsResume) ∧
      (k = 1 → Gives (.supplyRecovery k 2) s (s.supplyLow 1 false)) ∧
      ((k = 0 ∨ k = 2) → Gives (.supplyRecovery k 2) s ((s.supplyLow k false).each 6 State.waltzAxis)) ∧ (k = 4 → Gives (.supplyRecovery k 2) s s)) ∧
    (∀ word : BitVec 24,
      ((s.chapState = 0 ∨ s.ch.strapBad = true) → Gives (.strapServiceRead word) s s) ∧
      (s.chapState ≠ 0 → s.ch.strapBad = false →
        (word.toNat = s.nat Obj.STRAP_WORD → Gives (.strapServiceRead word) s { s with ch.strapOff := false }) ∧
        (word.toNat ≠ s.nat Obj.STRAP_WORD → s.ch.strapOff = false → Gives (.strapServiceRead word) s { s with ch.strapOff := true }) ∧
        (word.toNat ≠ s.nat Obj.STRAP_WORD → s.ch.strapOff = true → Gives (.strapServiceRead word) s
          (({ s with ch.strapOff := true }.strapFault 4).chapSilence Kind.STRAP_PARITY 4)))) ∧
    Gives .chapClockFail s (s.supplyLow 5 true).chapRefuse ∧
    (∀ (q : Fin 5) (ppm : Int),
      ((if q ≤ 2 then 10000 else 20000) < ppm.natAbs → Gives (.clockDeviation q ppm) s (s.raise Src.clock Kind.CLOCK_FAIL (q + 1) (some ppm))) ∧
      (ppm.natAbs ≤ (if q ≤ 2 then 10000 else 20000) → Gives (.clockDeviation q ppm) s s)) ∧
    (s.st.due.isSome = true → Gives .timebaseStartTimeout s (s.raise Src.clock Kind.CLOCK_FAIL 6 none)) ∧
    (s.st.due = none → Gives .timebaseStartTimeout s s) ∧
    (∀ extOrInt trst : Bool, Gives (.boundaryScanInstruction extOrInt trst) s { s with ch.scan := extOrInt && trst }.armJudge) ∧
    (∀ level : Bool, (s.pw.sleep ≠ 0 → Gives (.holdReadbackChange level) s { s with pw.holdNet := level }) ∧
      (s.pw.sleep = 0 → Gives (.holdReadbackChange level) s ({ s with pw.holdNet := level } : State).holdoffCancel))

/-! ### Power states, votes and wake. -/

/-- R75–R79, R81, R84, R86, R87: votes, hold-offs, domains and the entries to DOZE and PARKED. -/
def Obligations.VotesAndDomains : Prop :=
  ∀ s : State,
    (∀ (client : Fin 5) (mask : BitVec 5),
      (s.pw.sleep = 0 →
        let o : State := (s.putN (Obj.VOTE_MASK client) mask.toNat).holdoffCancel
        Gives (.voteChange client mask) s (if o.awake then o.dropChain else o)) ∧
      (s.pw.sleep ≠ 0 → Gives (.voteChange client mask) s s)) ∧
    (∀ d : Fin 4,
      (s.pw.sleep = 0 → s.pw.entry = 0 → s.domainUp d = true → s.wanted.testBit d = false → Gives (.holdoffExpiry d) s
        (s.pwMod fun x => { x with expired := x.expired ||| 2 ^ d.val }).dropChain) ∧
      ((s.pw.sleep ≠ 0 ∨ s.pw.entry ≠ 0 ∨ s.domainUp d = false ∨ s.wanted.testBit d = true) → Gives (.holdoffExpiry d) s s) ∧
      (s.pw.sleep = 0 → s.pw.entry = 0 → s.domainUp d = false → (s.wanted.testBit d = true ∨ s.pw.rising.testBit d = true) → s.domainUp 0 = true →
        (d = 3 → s.domainUp 1 = true) → (d ≠ 2 → s.domainUp 2 = true ∨ (s.wanted.testBit 2 = false ∧ s.pw.rising.testBit 2 = false)) → d ≠ 0 →
          let o : State := ((s.putBit Obj.DOMAIN_STATUS d true).count Obj.TRANSITIONS 32).pwMod (fun x => { x with rising := if x.rising.testBit d then x.rising - 2 ^ d.val else x.rising })
          (d = 1 → s.pw.recalDue = true → Gives (.domainPowerGood d) s ({ o.calBegin with pw.recal := false, pw.recalDue := false } : State).dropChain) ∧
          ((d ≠ 1 ∨ s.pw.recalDue = false) → Gives (.domainPowerGood d) s o.dropChain)) ∧
      ((s.domainUp d = true ∨ (s.wanted.testBit d = false ∧ s.pw.rising.testBit d = false) ∨ d = 0 ∨ s.domainUp 0 = false ∨
          (d = 3 ∧ s.domainUp 1 = false) ∨ (d ≠ 2 ∧ s.domainUp 2 = false ∧ (s.wanted.testBit 2 = true ∨ s.pw.rising.testBit 2 = true))) →
        Gives (.domainPowerGood d) s s)) ∧
    (s.pw.entry = 1 → Gives .dozeCommit s
      ((((s.logCommit.flush.clearVotes true).mainStops).count Obj.TRANSITIONS 32).pwMod fun x => { x with sleep := 1, entry := 0 })) ∧
    (s.pw.entry ≠ 1 → Gives .dozeCommit s s) ∧
    (s.pw.entry = 2 → s.st.phase = 0 →
      let o : State := [0, 1].foldl (fun x p => x.when (x.portUp p) (·.emit (.parkedNotice p))) s.logCommit.flush
      Gives .parkedCommit s
        ((((o.clearVotes false).mainStops).count Obj.TRANSITIONS 32).pwMod fun x => { x with sleep := 2, entry := 0, waking := false })) ∧
    ((s.pw.entry ≠ 2 ∨ s.st.phase ≠ 0) → Gives .parkedCommit s s) ∧
    (s.pw.sleep = 1 → s.n Obj.DOZE_MAX ≠ 0 → ∃ u : State, Gives .dozeMaxExpiry s u ∧ u.pw.sleep = 2 ∧ u.nat Obj.RECOVERY_COUNT = 0 ∧
      (∀ key r, rowOf key = some r → r.persist = .keepRegion → u.get key = defaultOf key) ∧ u.nodes = s.nodes ∧ u.ch = s.ch) ∧
    ((s.pw.sleep ≠ 1 ∨ s.n Obj.DOZE_MAX = 0) → Gives .dozeMaxExpiry s s) ∧
    Gives .wakeLingerExpiry s (s.pwMod fun x => { x with linger := false }) ∧
    (∀ p : Fin 4, (s.pw.ports.testBit p = true → Gives (.portActivityLapse p) s (s.pwMod fun x => { x with ports := x.ports - 2 ^ p.val })) ∧
      (s.pw.ports.testBit p = false → Gives (.portActivityLapse p) s s)) ∧
    (∀ p : Fin 2, (s.pw.partners.testBit p = true →
        Gives (.partnerVoteLapse p) s (s.pwMod fun x => { x with partners := x.partners - 2 ^ p.val })) ∧
      (s.pw.partners.testBit p = false → Gives (.partnerVoteLapse p) s s))

/-- R85–R94: what a wake does in each state: a further source of the same tick joins the record; from DOZE a reset of kind 0x6, from PARKED the exit of R88, and from
an entry its abort; in a lane that is awake it does nothing, but where VBAT is absent it starts the wait for VBAT (R62).

R88, R90–R93: which sources wake: KEY on its rising edge (1), WAKE by its configured edge (2), a matching cue or 32 decoding errors (3 or 4, 5 or 6), the wake-up
pattern (5 or 6), dominant activity of 1 µs in mode 1 (7 or 8), the timer (9), the stream clock in DOZE (10); and the arrival of VBAT. -/
def Obligations.WakesWakeTheLane : Prop :=
  (
    ∀ (s : State) (code : Nat) (w : WakeAt),
      (s.sameTick w.tick = true → s.wake code w =
        (s.putN Obj.WAKE_SOURCES (s.nat Obj.WAKE_SOURCES ||| 2 ^ code : Nat)).putN Obj.WAKE_CODE (min (s.nat Obj.WAKE_CODE) code : Nat)) ∧
      (s.sameTick w.tick = false →
        (s.pw.sleep = 1 → s.wake code w = (s.wakeRecord code w).resetTo 6 w.tick) ∧
        (s.pw.sleep = 2 → s.pw.waking = false → s.wake code w = (s.wakeRecord code w).parkedExit w) ∧
        (s.pw.sleep = 2 → s.pw.waking = true → s.wake code w = s) ∧
        (s.pw.sleep = 0 → s.supplyPresent 0 = false → s.pw.waking = true → s.wake code w = s) ∧
        (s.pw.sleep = 0 → s.supplyPresent 0 = false → s.pw.waking = false →
          s.wake code w = (s.wakeRecord code w).pwMod fun x => { x with waking := true, vbatWait := true }) ∧
        (s.pw.sleep = 0 → s.supplyPresent 0 = true → s.pw.entry = 0 → s.wake code w = s) ∧
        (s.pw.sleep = 0 → s.supplyPresent 0 = true → s.pw.entry = 1 → w.step.val < 4 → s.wake code w = ((s.wakeRecord code w).count Obj.ENTRIES_ABORTED 32).dozeAbort) ∧
        (s.pw.sleep = 0 → s.supplyPresent 0 = true → s.pw.entry = 1 → w.step.val = 4 → s.wake code w = ((s.wakeRecord code w).count Obj.ENTRIES_ABORTED 32).resetTo 6 w.tick) ∧
        (s.pw.sleep = 0 → s.supplyPresent 0 = true → s.pw.entry = 2 → s.wake code w = ((s.wakeRecord code w).count Obj.ENTRIES_ABORTED 32).parkedAbort w)) ∧
      (s.wakeRecord code w).nat Obj.WAKE_CODE = code ∧ (s.wakeRecord code w).nat Obj.WAKE_SOURCES = 2 ^ code ∧
      (s.wakeRecord code w).nat Obj.WAKE_TICK = w.tick % 2 ^ 32 ∧ (s.wakeRecord code w).pw.wokeTick = some w.tick ∧
      (s.wakeRecord code w).n Obj.WAKE_COUNT = (s.n Obj.WAKE_COUNT + 1) % 2 ^ 32) ∧ (
    ∀ (s : State) (w : WakeAt),
      (s.pw.key = false → s.wakes w true = true → Gives (.keyChange true w) s ((s.pwMod fun x => { x with key := true }).wake 1 w)) ∧
      ((s.pw.key = true ∨ s.wakes w true = false) →
        (s.pw.sleep = 0 → Gives (.keyChange true w) s (s.pwMod fun x => { x with key := true }).holdoffCancel) ∧
        (s.pw.sleep ≠ 0 → Gives (.keyChange true w) s (s.pwMod fun x => { x with key := true }))) ∧
      (s.pw.sleep = 0 → Gives (.keyChange false w) s ((s.pwMod fun x => { x with key := false }).putN Obj.RECOVERY_COUNT 0).holdoffCancel) ∧
      (s.pw.sleep ≠ 0 → Gives (.keyChange false w) s ((s.pwMod fun x => { x with key := false }).putN Obj.RECOVERY_COUNT 0)) ∧
      (∀ rising : Bool,
        (s.wakes w true = true → (s.nat Obj.WAKE_EDGE = 2 ∨ s.nat Obj.WAKE_EDGE = if rising then 0 else 1) →
          Gives (.wakePinEdge rising w) s (s.wake 2 w)) ∧
        ((s.wakes w true = false ∨ (s.nat Obj.WAKE_EDGE ≠ 2 ∧ s.nat Obj.WAKE_EDGE ≠ if rising then 0 else 1)) →
          Gives (.wakePinEdge rising w) s s)) ∧
      (∀ (p : Fin 2) (f : CueFrame),
        (s.wakeMode p = 3 → f.foreign = false → (s.wakeFrom w = 1 ∨ s.wakeFrom w = 3) →
          (f.good = true →
            (s.cueMatches f = true →
              Gives (.cueFrame p f w) s ((s.pwMod fun x => { x with cueErrors := vmod x.cueErrors p (· - 1) }).wake (3 + p) w)) ∧
            (s.cueMatches f = false → Gives (.cueFrame p f w) s (s.pwMod fun x => { x with cueErrors := vmod x.cueErrors p (· - 1) }))) ∧
          (f.good = false →
            (31 ≤ vget s.pw.cueErrors p →
              Gives (.cueFrame p f w) s ((s.pwMod fun x => { x with cueErrors := vmod x.cueErrors p (· + 1) }).wake (5 + p) w)) ∧
            (vget s.pw.cueErrors p < 31 → Gives (.cueFrame p f w) s (s.pwMod fun x => { x with cueErrors := vmod x.cueErrors p (· + 1) })))) ∧
        ((s.wakeMode p ≠ 3 ∨ f.foreign = true ∨ (s.wakeFrom w ≠ 1 ∧ s.wakeFrom w ≠ 3)) →
          Gives (.cueFrame p f w) s s)) ∧
      (∀ p : Fin 2,
        (s.wakes w true = true → (s.wakeMode p = 2 ∨ (s.wakeMode p = 3 ∧ s.wakeFrom w ≠ 1)) → Gives (.wakeUpPattern p w) s (s.wake (5 + p) w)) ∧
        ((s.wakes w true = false ∨ (s.wakeMode p ≠ 2 ∧ (s.wakeMode p ≠ 3 ∨ s.wakeFrom w = 1))) →
          Gives (.wakeUpPattern p w) s s) ∧
        (∀ (width : Nat) (taken : Bool),
          (s.wakes w true = true → s.wakeMode p = 1 → (1000 ≤ width ∨ (500 ≤ width ∧ taken = true)) → Gives (.dominantActivity p width taken w) s (s.wake (7 + p) w)) ∧
          ((s.wakes w true = false ∨ s.wakeMode p ≠ 1 ∨ width < 500 ∨ (width < 1000 ∧ taken = false)) →
            Gives (.dominantActivity p width taken w) s s))) ∧
      (s.wakes w false = true → s.n Obj.TIMER_WAKE ≠ 0 → Gives (.aonTimerWake w) s (s.wake 9 w)) ∧
      ((s.wakes w false = false ∨ s.n Obj.TIMER_WAKE = 0) → Gives (.aonTimerWake w) s s) ∧
      (s.wakeFrom w = 1 → s.n Obj.STREAM_WAKE ≠ 0 → Gives (.streamSignalDetect w) s (s.wake 10 w)) ∧
      ((s.wakeFrom w ≠ 1 ∨ s.n Obj.STREAM_WAKE = 0) → Gives (.streamSignalDetect w) s s) ∧
      (∀ tick : Nat,
        (s.pw.vbatWait = true → s.pw.sleep = 0 → Gives (.vbatArrival tick) s (((s.supplyLow 0 false).aonTo tick).pwMod fun x => { x with vbatWait := false })) ∧
        (s.pw.vbatWait = true → s.pw.sleep ≠ 0 → Gives (.vbatArrival tick) s { ((s.supplyLow 0 false).aonTo tick).resetTo 7 tick with pw :=
          { (((s.supplyLow 0 false).aonTo tick).resetTo 7 tick).pw with waking := true } }) ∧
        (s.pw.vbatWait = false → Gives (.vbatArrival tick) s ((s.supplyLow 0 false).aonTo tick))) ∧
      (s.pw.vbatWait = true → s.supplyPresent 0 = false →
        Gives .vbatWaitTimeout s { ((s.clearVotes false).putN Obj.DOMAIN_STATUS 0).pwMod (fun x => { x with
          vbatWait := false, waking := false, sleep := 2 }) with st := { s.st with due := none } }) ∧
      ((s.pw.vbatWait = false ∨ s.supplyPresent 0 = true) → Gives .vbatWaitTimeout s s))

/-- R103, R106, R112, R118–R122, R363: the start that is due runs from its trigger to step 8 and takes its time; background initialisation completes INIT_STATUS; the waits of step 10
and the retry of the card settle leadership; a phase of the shutdown self-test leaves its verdict, the sixth one the record's. -/
def Obligations.StartAndSelfTest : Prop :=
  ∀ s : State,
    (∀ (x : StartInput) (kind : Nat), s.supplyPresent 0 = true → s.pw.sleep = 0 → s.pw.vbatWait = false → s.ch.strapBad = false →
      s.nat Obj.STRAP_WORD ≠ 0 → s.st.due = some kind → Gives (.startSequence x) s
        ({ s.startRun kind x with clk := { (s.startRun kind x).clk with now := (s.startRun kind x).clk.now + 100 * x.micros } }.elapse
          (100 * x.micros))) ∧
    (∀ (x : StartInput) (kind : Nat), x.keeperA = false → x.keeperB = false → (s.startRun kind x).col.failSilent = true) ∧
    (∀ x : StartInput, (s.supplyPresent 0 = false ∨ s.pw.sleep ≠ 0 ∨ s.pw.vbatWait = true ∨ s.ch.strapBad = true ∨ s.nat Obj.STRAP_WORD = 0 ∨
      s.st.due = none) → Gives (.startSequence x) s s) ∧
    (s.nat Obj.INIT_STATUS % 64 = 0x3F → Gives .backgroundInitDone s ((s.putBit Obj.INIT_STATUS 6 true).putBit Obj.INIT_STATUS 7 true)) ∧
    (s.nat Obj.INIT_STATUS % 64 ≠ 0x3F → Gives .backgroundInitDone s s) ∧
    (s.nat Obj.START_STEP = 9 → s.ld.card.any = false →
        let o : State := (if s.nat Obj.SIG_STATE = 0 ∨ s.st.noLead = true then { s with ld.waited := true, ld.settled := true } else { s with ld.waited := true })
        (o.setRuns = true → Gives .startPartnerWaitExpiry s o) ∧
        (o.setRuns = false → o.eligible = true → o.lowerPresent = 0 → Gives .startPartnerWaitExpiry s ((o.issueCard 0 o.clk.now).getD o)) ∧
        (o.setRuns = false → (o.eligible = false ∨ o.lowerPresent ≠ 0) → Gives .startPartnerWaitExpiry s
          { o with ld.electing := true, ld.wait := o.lowerPresent })) ∧
    ((s.nat Obj.START_STEP ≠ 9 ∨ s.ld.card.any = true) → Gives .startPartnerWaitExpiry s { s with ld.waited := true }) ∧
    (∀ now : Nat,
      (s.ld.electing = true →
        let o : State := { s with ld.wait := s.ld.wait - 1 }
        (o.ld.wait = 0 → o.eligible = true → Gives (.startCardRetry now) s ((o.issueCard 0 now).getD o)) ∧
        ((o.ld.wait ≠ 0 ∨ o.eligible = false) → Gives (.startCardRetry now) s o)) ∧
      (s.ld.electing = false → Gives (.startCardRetry now) s s)) ∧
    (∀ r : SstResult,
      (s.pw.entry = 2 → 1 ≤ s.st.phase →
        ∃ e o u : State, e = s.put (Obj.SST_PHASE (s.st.phase - 1)) (.oct (s.phaseEntry
            (if s.st.phase = 2 ∧ s.st.restTwo = false then 3
              else if r.passed && coverageOk s.st.phase (sstCounted r s.st.phase) then 1 else 2) (sstCounted r s.st.phase))) ∧
          (s.st.phase = 5 → ∃ l : List (Nat × Nat), l = r.units.map (fun (x : Fin 11 × BitVec 32) => (x.1.val, x.2.toNat)) ∧
            o = { e.takeAbandon.leadDown with ch.wdg := false, st.found := e.takeAbandon.leadDown.st.found ++ l }) ∧
          (s.st.phase ≠ 5 → o = e) ∧
          u = ({ o with ch.scanTest := s.st.phase == 5 }.phaseBegin (if s.st.phase = 6 then 0 else s.st.phase + 1)).ebUpdate ∧
          (s.st.phase ≠ 6 → Gives (.sstPhaseEnd r) s u) ∧
          (s.st.phase = 6 →
            let v : State := u.putN Obj.SST_STATUS u.recordVerdict
            Gives (.sstPhaseEnd r) s { v with st.barred := v.st.barred && v.recordVerdict != 1 }.logCommit)) ∧
      (coverageOk 1 (sstCounted r 1) = true → linFailed r.lin = 0) ∧
      ((s.pw.entry ≠ 2 ∨ s.st.phase = 0) → Gives (.sstPhaseEnd r) s s))

/-! ### Converters, references and sensor supplies. -/

/-- R155–R157, R159–R164, R167–R169, R173, R174: where each of the measuring commands completes and with what, for every state. IC_INTEGRATION_START: an armed leg's
integration starts once a tick; IC_INTEGRATION_END: a leg that integrates freezes its charge, over the whole tick where its axis is disarmed or in active short circuit;
SHUNT_OFFSET_AVERAGE: sixteen zero-current results give one average, reported when it first lies beyond SHUNT_OFFSET_LIMIT, and fewer none; GC_SETTLE_END: a row's window
opens, or in tick mode waits for the next tick; GC_WINDOW_END: a window that has ended delivers its channel's reading, held in a calibration, with its flags and moves to
the next row, taking the table that then runs where the list starts again (R176); CALIBRATION_COMPLETE: a calibration that runs ends with its results. -/
def Obligations.ConvertersDeliver : Prop :=
  (∀ (n : Fin 18) (s : State), s.ms.opened = true → vget s.ms.whole (n.val / 3) = false → vget s.ms.legs n = none →
    Gives (.icIntegrationStart n) s { s with ms.integrating := vset s.ms.integrating n true }) ∧
  (∀ (n : Fin 18) (s : State), (s.ms.opened = false ∨ vget s.ms.whole (n.val / 3) = true ∨ vget s.ms.legs n ≠ none) →
    Gives (.icIntegrationStart n) s s) ∧
  (∀ (n : Fin 18) (c : Charge) (s : State), vget s.ms.integrating n = true → vget s.ms.whole (n.val / 3) = false →
    Gives (.icIntegrationEnd n c) s { s with ms.legs := vset s.ms.legs n (some c), ms.integrating := vset s.ms.integrating n false }) ∧
  (∀ (n : Fin 18) (c : Charge) (s : State), vget s.ms.integrating n = true → vget s.ms.whole (n.val / 3) = true →
    Gives (.icIntegrationEnd n c) s
      { s with ms.legs := vset s.ms.legs n (some { c with w := s.clk.tickLen / 2 }), ms.integrating := vset s.ms.integrating n false }) ∧
  (∀ (n : Fin 18) (c : Charge) (s : State), vget s.ms.integrating n = false → Gives (.icIntegrationEnd n c) s s) ∧
  (∀ (n : Fin 18) (s : State), vget s.ms.offCount n < 16 → Gives (.shuntOffsetAverage n) s s) ∧
  (∀ (n : Fin 18) (s : State), 16 ≤ vget s.ms.offCount n → |vget s.ms.offSum n| ≤ 16 * s.n Obj.SHUNT_OFFSET_LIMIT →
    Gives (.shuntOffsetAverage n) s { s with
      ms.offSum := vset s.ms.offSum n 0, ms.offCount := vset s.ms.offCount n 0, ms.offBeyond := vset s.ms.offBeyond n false }) ∧
  (∀ (n : Fin 18) (s : State), 16 ≤ vget s.ms.offCount n → 16 * s.n Obj.SHUNT_OFFSET_LIMIT < |vget s.ms.offSum n| → vget s.ms.offBeyond n = true →
    Gives (.shuntOffsetAverage n) s { s with
      ms.offSum := vset s.ms.offSum n 0, ms.offCount := vset s.ms.offCount n 0, ms.offBeyond := vset s.ms.offBeyond n true }) ∧
  (∀ (n : Fin 18) (s : State), 16 ≤ vget s.ms.offCount n → 16 * s.n Obj.SHUNT_OFFSET_LIMIT < |vget s.ms.offSum n| → vget s.ms.offBeyond n = false →
    Gives (.shuntOffsetAverage n) s { s.raise (Src.ic n) Kind.SHUNT_OFFSET 1 (some (Config.roundQuot (vget s.ms.offSum n) 16)) with ms := { s.ms with
      offSum := vset s.ms.offSum n 0, offCount := vset s.ms.offCount n 0, offBeyond := vset s.ms.offBeyond n true } }) ∧
  (∀ (g : Fin 4) (s : State), (vget s.ms.gc g).wait = false → (vget s.ms.gc g).window = false → s.bit Obj.DOMAIN_STATUS 1 = true →
    scanTicks ((s.gcTable g).getD (vget s.ms.gc g).row 0) = false →
    Gives (.gcSettleEnd g) s (({ s with ms.gc := vset s.ms.gc g { vget s.ms.gc g with table := s.gcTable g } } : State).gcOpen g)) ∧
  (∀ (g : Fin 4) (s : State), (vget s.ms.gc g).wait = false → (vget s.ms.gc g).window = false → s.bit Obj.DOMAIN_STATUS 1 = true →
    scanTicks ((s.gcTable g).getD (vget s.ms.gc g).row 0) = true →
    Gives (.gcSettleEnd g) s { s with ms.gc := vset s.ms.gc g { vget s.ms.gc g with table := s.gcTable g, wait := true } }) ∧
  (∀ (g : Fin 4) (s : State), ((vget s.ms.gc g).wait = true ∨ (vget s.ms.gc g).window = true ∨ s.bit Obj.DOMAIN_STATUS 1 = false) →
    Gives (.gcSettleEnd g) s s) ∧
  (∀ (g : Fin 4) (c : Charge) (s : State), (vget s.ms.gc g).ended = false → Gives (.gcWindowEnd g c) s s) ∧
  (∀ (g : Fin 4) (c : Charge) (s : State), (vget s.ms.gc g).ended = true →
    let row := (vget s.ms.gc g).current
    let held := s.node (320 + scanCh row)
    let r := resultOf { c with w := (vget s.ms.gc g).length } (s.n (Obj.GC_CAL_OFFSET g)) (s.n (Obj.GC_CAL_GAIN g))
    let wrap := (vget s.ms.gc g).table.length ≤ (vget s.ms.gc g).row + 1
    let next : Gc := { next := (vget s.ms.gc g).next, row := if wrap then 0 else (vget s.ms.gc g).row + 1
                       table := if ¬ wrap then (vget s.ms.gc g).table else if s.ms.calRun = 0 then scanRows (s.oct (Obj.GC_SCAN g)) else (vget s.ms.gc g).next }
    let flags := fun cal clamped => statusFlags false false cal clamped (vget s.ms.uncal (34 + g)) (vget s.ms.gc g).settled (scanRef row) g
    let t := if r.2 ≠ 0 ∧ vget s.ms.chClamped (scanCh row) = false then s.raise (Src.gc g) Kind.ADC_RANGE r.2 else s
    (s.calibrating (34 + g) = true → Gives (.gcWindowEnd g c) s (({ s with ms := { s.ms with
      gcReady := s.ms.gcReady ++ [(scanCh row, held, flags true false)], gc := vset s.ms.gc g next } } : State).mirrorSupply (scanCh row) held)) ∧
    (s.calibrating (34 + g) = false → Gives (.gcWindowEnd g c) s (({ t with ms := { s.ms with
      chClamped := vset s.ms.chClamped (scanCh row) (r.2 != 0), gcReady := s.ms.gcReady ++ [(scanCh row, r.1, flags false (r.2 != 0))]
      gc := vset s.ms.gc g next } } : State).mirrorSupply (scanCh row) r.1))) ∧
  (∀ (res : List CalResult) (s : State), s.ms.calRun = 0 → Gives (.calibrationComplete res) s s) ∧
  (∀ (res : List CalResult) (s : State), s.ms.calRun ≠ 0 → Gives (.calibrationComplete res) s (s.calEnd res).1)

/-- R170–R172, R178–R181: where each of the commands of references and sensor supplies completes and with what, for every state. REF_SETTLED_SET: a reference's settled
bit sets while PD_MEAS is up, a sensor supply's only while it is on and REFIN's, once channel 59 has a result (log 235), only within 2.000 to 3.000 V; REF_SETTLED_CLEAR
and REF_SETTLE_TIMEOUT: its clearing, or a start that waits too long, is a failed reference; SUP_FAULT: a sensor supply that leaves its band switches off with a fault;
SUP_RETRY: its retries, while PD_MEAS is up, end with it on or, after SUP_RETRIES failures, off for good. -/
def Obligations.ReferencesAndSensorSupplies : Prop :=
  (∀ (r : Ref) (s : State), s.bit Obj.DOMAIN_STATUS 1 = true → (∀ k, r = .sup k → (vget s.ms.sup k).on = true) →
    (r = .refin → s.nodeU 443 = 0x50 ∨ (2000 ≤ s.refinMv ∧ s.refinMv ≤ 3000)) →
    Gives (.refSettledSet r) s
      { s.putBit Obj.REF_STATUS (refBit (refCode r)) true with ms.refRaised := vset s.ms.refRaised (refCode r) false }) ∧
  (∀ (r : Ref) (s : State), (s.bit Obj.DOMAIN_STATUS 1 = false ∨ (∃ k, r = .sup k ∧ (vget s.ms.sup k).on = false) ∨
    (r = .refin ∧ s.nodeU 443 ≠ 0x50 ∧ (s.refinMv < 2000 ∨ 3000 < s.refinMv))) → Gives (.refSettledSet r) s s) ∧
  (∀ (r : Ref) (s : State), s.refSettled (refCode r) = true → Gives (.refSettledClear r) s (s.refFail (refCode r))) ∧
  (∀ (r : Ref) (s : State), s.refSettled (refCode r) = false → Gives (.refSettledClear r) s s) ∧
  (∀ (r : Ref) (s : State), s.nat Obj.START_STEP < 12 → s.refSettled (refCode r) = false →
    Gives (.refSettleTimeout r) s { s.refFail (refCode r) with st.noLead := true }) ∧
  (∀ (r : Ref) (s : State), (12 ≤ s.nat Obj.START_STEP ∨ s.refSettled (refCode r) = true) → Gives (.refSettleTimeout r) s s) ∧
  (∀ (k : Fin 4) (high : Bool) (s : State), (vget s.ms.sup k).on = false → Gives (.supFault k high) s s) ∧
  (∀ (k : Fin 4) (high : Bool) (s : State), (vget s.ms.sup k).on = true →
    let t := s.raise Src.supply (if high then Kind.SUPPLY_OV else Kind.SUPPLY_UV) (6 + k) (some (readingMv (53 + k) (s.node (320 + 53 + k))))
    let u : State := { t.putBit Obj.SUP_STATUS k true with ms.sup := vmod t.ms.sup k fun p => { p with on := false } }
    (u.refSettled (4 + k) = true → Gives (.supFault k high) s (u.refFail (4 + k))) ∧
    (u.refSettled (4 + k) = false → Gives (.supFault k high) s u)) ∧
  (∀ (k : Fin 4) (ok : Bool) (s : State), (s.bit Obj.SUP_STATUS k = false ∨ s.bit Obj.SUP_STATUS (4 + k) = true ∨ s.bit Obj.DOMAIN_STATUS 1 = false) →
    Gives (.supRetry k ok) s s) ∧
  (∀ (k : Fin 4) (s : State), s.bit Obj.SUP_STATUS k = true → s.bit Obj.SUP_STATUS (4 + k) = false → s.bit Obj.DOMAIN_STATUS 1 = true →
    Gives (.supRetry k true) s { s.putBit Obj.SUP_STATUS k false with ms.sup := vset s.ms.sup k { on := true, failed := 0 } } ∧
    (s.nat Obj.SUP_RETRIES ≤ (vget s.ms.sup k).failed + 1 → Gives (.supRetry k false) s
      (({ s with ms.sup := vset s.ms.sup k { on := false, failed := (vget s.ms.sup k).failed + 1 } } : State).putBit Obj.SUP_STATUS (4 + k) true)) ∧
    ((vget s.ms.sup k).failed + 1 < s.nat Obj.SUP_RETRIES → Gives (.supRetry k false) s
      { s with ms.sup := vset s.ms.sup k { on := false, failed := (vget s.ms.sup k).failed + 1 } }))

/-! ### Feedback and sensors. -/

/-- R184–R187, R190, R192, R194, R196, R197, R300, R301: FB_INPUT_EDGE completes in every state: an input event counts on its channel and every engaged gear that has it
as master holds or forms its target and shows it. EXTENSION_READ, while application firmware runs, moves the accumulated counts into the 64-bit position where the channel
extends, and empties the accumulator either way. INDEX_EVENT outside its gate, or a second one in it, changes nothing but the gears' targets; inside it the index is counted and
latched, and sets the reference at the first, or presets the counter where INDEX_HOME is 1, and is compared with it from then on, or only updates it where INDEX_CPR is 0.
LATCH_INPUT_EDGE latches the channels that name this input and this edge, 8 counts later. -/
def Obligations.FeedbackCounts : Prop :=
  (∀ (n : Fin 12) (e : FbEvent) (clock : Nat) (s : State), Gives (.fbInputEdge n e clock) s
    ((s.fbEdge n e clock).each 12 fun x m =>
      if x.nat (Obj.GEAR_MASTER m) = n.val ∧ (x.gen m).engaged then ((x.gearHold m).gearTarget m).gearStatus m else x)) ∧
  (∀ (n : Fin 12) (s : State), s.appStopped = true → Gives (.extensionRead n) s s) ∧
  (∀ (n : Fin 12) (s : State), s.appStopped = false → s.bit (Obj.FB_STATUS n) 7 = true → Gives (.extensionRead n) s
    ((s.putN (Obj.EXT_ACCUM n) 0).putN (Obj.FB_EXT_POSITION n) (wrap64 (s.n (Obj.FB_EXT_POSITION n) + s.n (Obj.EXT_ACCUM n))))) ∧
  (∀ (n : Fin 12) (s : State), s.appStopped = false → s.bit (Obj.FB_STATUS n) 7 = false → Gives (.extensionRead n) s (s.putN (Obj.EXT_ACCUM n) 0)) ∧
  (∀ (n : Fin 12) (clock : Nat) (s : State),
    s.nat (Obj.FB_CLASS n) = 0 → (2 * b2n (vget s.fb n).b + b2n (vget s.fb n).a ≠ s.nat (Obj.INDEX_GATE n) ∨ (vget s.fb n).indexed = true) →
    Gives (.indexEvent n clock) s (s.gearsFollow n)) ∧
  (∀ (n : Fin 12) (clock : Nat) (s : State),
    (s.nat (Obj.FB_CLASS n) ≠ 0 ∨ (2 * b2n (vget s.fb n).b + b2n (vget s.fb n).a = s.nat (Obj.INDEX_GATE n) ∧ (vget s.fb n).indexed = false)) →
    let t : State := { s with fb := vmod s.fb n fun f => { f with indexed := true } }
    let u := (t.putN (Obj.FB_STATUS n) ((s.nat (Obj.FB_STATUS n) / 65536 + 1) % 65536 * 65536 + s.nat (Obj.FB_STATUS n) % 65536 : Nat)).latchTrigger
      n 0 clock (clock - s.fbDelay n)
    let first := (u.putBit (Obj.FB_STATUS n) 5 true).putN (Obj.INDEX_REF n) (s.n (Obj.FB_COUNTER n))
    let d := slipOf (u.n (Obj.INDEX_CPR n)) (s.n (Obj.FB_COUNTER n)) (u.n (Obj.INDEX_REF n))
    (u.n (Obj.INDEX_CPR n) = 0 → Gives (.indexEvent n clock) s ((u.putN (Obj.INDEX_REF n) (s.n (Obj.FB_COUNTER n))).gearsFollow n)) ∧
    (u.n (Obj.INDEX_CPR n) ≠ 0 → u.bit (Obj.FB_STATUS n) 5 = false → u.nat (Obj.INDEX_HOME n) ≠ 1 →
      Gives (.indexEvent n clock) s (first.gearsFollow n)) ∧
    (u.n (Obj.INDEX_CPR n) ≠ 0 → u.bit (Obj.FB_STATUS n) 5 = false → u.nat (Obj.INDEX_HOME n) = 1 → Gives (.indexEvent n clock) s
      (((first.fbStep n (first.n (Obj.INDEX_HOME_COUNT n))).putN (Obj.INDEX_REF n) (first.n (Obj.INDEX_HOME_COUNT n))).gearsFollow n)) ∧
    (u.bit (Obj.FB_STATUS n) 5 = true → u.n (Obj.INDEX_CPR n) ≠ 0 → d = 0 → Gives (.indexEvent n clock) s (u.gearsFollow n)) ∧
    (u.bit (Obj.FB_STATUS n) 5 = true → u.n (Obj.INDEX_CPR n) ≠ 0 → d ≠ 0 →
      Gives (.indexEvent n clock) s ((u.indexSlip n (s.n (Obj.FB_COUNTER n)) d).gearsFollow n))) ∧
  (∀ (k : Fin 4) (rising : Bool) (time : Nat) (s : State), Gives (.latchInputEdge k rising time) s (s.each 12 fun x n =>
    if x.nat (Obj.LATCH_INPUT n) = k.val ∧ (x.nat (Obj.LATCH_EDGE n) = 2 ∨ x.nat (Obj.LATCH_EDGE n) = if rising then 0 else 1)
    then x.latchTrigger n 1 (time + 8) time else x))

/-- R185, R187: what each edge counts that is not too close to an edge of the same input, and in the quadrature class of the other one; one that is too close is a rejected
pulse and leaves its level and the counter as they are. In the quadrature class mode 4 counts every edge of A and B, mode 2 every edge of A, mode 1 the rising edge of A while B is low forward
and its falling edge while B is low backward; forward (A leads B) counts up; in the step class the edge STEP_EDGE selects counts one, up while B is low and down
while it is high; in the up and down class each rising edge counts one and two at once cancel; FB_INVERT reverses the sign. A and B changing together in the
quadrature class leave the counter as it is. -/
def Obligations.InputEdgesCount : Prop :=
  ∀ (s : State) (n : Fin 12) (a b : Bool) (clock : Nat),
    let a0 := (vget s.fb n).a
    let b0 := (vget s.fb n).b
    let mode := s.nat (Obj.FB_COUNT_MODE n)
    let x := s.fbEdge n (.levels a b) clock
    ∀ close : Option Nat → Prop, (close = fun last => ∃ t, last = some t ∧ t ≤ clock ∧ clock < t + s.fbDelay n + 1) →
    (a0 ≠ a → b0 = b → (close (vget s.fb n).lastA ∨ (s.nat (Obj.FB_CLASS n) = 0 ∧ close (vget s.fb n).lastB)) →
      x.n (Obj.FB_COUNTER n) = s.n (Obj.FB_COUNTER n) ∧ (vget x.fb n).a = a0 ∧ (vget x.fb n).rejects = (vget s.fb n).rejects + 1) ∧
    ((a0 ≠ a → ¬ close (vget s.fb n).lastA ∧ (s.nat (Obj.FB_CLASS n) = 0 → ¬ close (vget s.fb n).lastB)) →
      (b0 ≠ b → ¬ close (vget s.fb n).lastB ∧ (s.nat (Obj.FB_CLASS n) = 0 → ¬ close (vget s.fb n).lastA)) →
      ∀ counts : Int → Prop, (counts = fun d => x.n (Obj.FB_COUNTER n) =
        if d = 0 then s.n (Obj.FB_COUNTER n)
        else (s.n (Obj.FB_COUNTER n) + (if s.n (Obj.FB_INVERT n) ≠ 0 then -d else d)) % 2 ^ 32) →
      (s.nat (Obj.FB_CLASS n) = 0 →
        (a0 ≠ a → b0 ≠ b → counts 0) ∧ (a0 = a → b0 = b → counts 0) ∧
        (a0 ≠ a → b0 = b → mode = 4 ∨ mode = 2 → counts (if a ≠ b then 1 else -1)) ∧
        (a0 ≠ a → b0 = b → mode = 1 → counts (if b then 0 else if a then 1 else -1)) ∧
        (a0 = a → b0 ≠ b → mode = 4 → counts (if a = b then 1 else -1)) ∧
        (a0 = a → b0 ≠ b → mode = 2 ∨ mode = 1 → counts 0)) ∧
      (s.nat (Obj.FB_CLASS n) = 1 → ∀ edge : Prop, (edge ↔ a0 ≠ a ∧ (a = true ↔ s.nat (Obj.STEP_EDGE n) = 0)) →
        (edge → counts (if b then -1 else 1)) ∧ (¬ edge → counts 0)) ∧
      (s.nat (Obj.FB_CLASS n) = 2 → ∃ up down : Int, (up = if a0 = false ∧ a = true then 1 else 0) ∧
        (down = if b0 = false ∧ b = true then 1 else 0) ∧ counts (up - down)))

/-- R201–R205: a SENT channel that is off ignores frames; a frame that fails a check (the calibration pulse 3, its nibbles 4, its CRC 1, its pause 5) counts as an
error, ends the slow message in progress and waits for nothing; one that passes waits for the tick edge with its value in one or two numbers, most significant nibble
first, the second of the dual format from its end, stamped with its start less the channel's latency, and its status nibble's bits 3 and 2 join those of the frames
before it; the slow message they complete enters the table where its CRC agrees, and is a rejection where it does not. The first rejection of a beat gives the
qualifier and each counts. A timeout is raised once. -/
def Obligations.SentFramesAreJudged : Prop :=
  ∀ (s : State) (n : Fin 8),
    (∀ f : SentFrame,
      (s.n (Obj.SN_ENABLE n) = 0 → Gives (.sentFrame n f) s s) ∧
      (s.n (Obj.SN_ENABLE n) ≠ 0 →
        let t : State := { s.putN (Obj.SN_MEASURED_TICK n) (Config.roundQuot (10 * f.cal) 56) with sn := vset s.sn n { vget s.sn n with lastCal := some f.cal } }
        (s.sentJudge n f ≠ 0 → Gives (.sentFrame n f) s { t.count (Obj.SN_ERRORS n) 32 with
            sn := vset t.sn n { vget t.sn n with slow := [], rejected := (vget s.sn n).rejected + 1
                                                 why := if (vget s.sn n).rejected = 0 then s.sentJudge n f else (vget s.sn n).why } }) ∧
        (s.sentJudge n f = 0 → ∃ (d : List Nat) (v : Nat) (v2 : Option Nat) (status : Nat) (all rows : List (Bool × Bool)) (x : State),
          d = ((f.nibbles.drop 1).take (s.nat (Obj.SN_NIBBLES n))).map (· - 12) ∧ status = f.nibbles.headD 12 - 12 ∧
          (s.nat (Obj.SN_FORMAT n) = 1 → v = nibblesVal (d.take 3) ∧ v2 = some (nibblesVal (d.drop 3).reverse)) ∧
          (s.nat (Obj.SN_FORMAT n) ≠ 1 → v = nibblesVal d ∧ v2 = none) ∧
          all = (vget s.sn n).slow ++ [(status.testBit 3, status.testBit 2)] ∧
          rows = (if s.nat (Obj.SN_SLOW_MODE n) = 0 then [] else all.drop (all.length - 18)) ∧
          x = { t with sn := vmod t.sn n fun c =>
            { c with accepted := (c.accepted + 1) % 65536, timeout := false, nibble := status, slow := rows
                     ready := some ⟨v, v2, status, f.start - 100 * s.nat (Obj.SN_LATENCY n)⟩ } } ∧
          ((s.nat (Obj.SN_SLOW_MODE n) = 0 ∨ s.slowMessage n rows = none) → Gives (.sentFrame n f) s x) ∧
          (∀ id data, s.slowMessage n rows = some (id, data, true) → Gives (.sentFrame n f) s (x.sentSlow n id data (sentEnd f))) ∧
          (∀ id data, s.slowMessage n rows = some (id, data, false) → Gives (.sentFrame n f) s { x.count (Obj.SN_ERRORS n) 32 with
            sn := vset x.sn n { vget x.sn n with rejected := (vget s.sn n).rejected + 1
                                                 why := if (vget s.sn n).rejected = 0 then 2 else (vget s.sn n).why } })))) ∧
    (∀ micros : Nat,
      ((s.n (Obj.SN_ENABLE n) = 0 ∨ (vget s.sn n).timeout = true) → Gives (.sentTimeout n micros) s s) ∧
      (s.n (Obj.SN_ENABLE n) ≠ 0 → (vget s.sn n).timeout = false → Gives (.sentTimeout n micros) s
        ({ s with sn := vmod s.sn n fun c => { c with timeout := true } }.raise (Src.sn n) Kind.SENT_TIMEOUT 1 (some micros))))

/-- R206, R207, R212, R268, R380: a hall code change writes the sector at once; from or to an invalid code it gives no edge, a jump over a sector disagrees, and
a step to a neighbour gives an edge at the sector boundary, timed back by the filter, which also aligns the axis's sources; a change that passes the
main die's filter alone is decoded there alone, and one that passes the chaperone's own filter of 16 clocks is decoded by the chaperone for itself, by its own clock. An invalid code held long enough disagrees once. An observer of a sensor coasts where it may and is valid. -/
def Obligations.HallsAndObservers : Prop :=
  ∀ s : State,
    (∀ (a : Fin 6) (code : Fin 8) (clock chap : Nat) (own : Bool),
      Gives (.hallEdge a code ⟨clock, chap, false, own⟩) s (s.when own (·.chapHallEdge a code chap)) ∧
      ((s.hallEdge a code clock).2 = none → Gives (.hallEdge a code ⟨clock, chap, true, own⟩) s
        ((s.hallEdge a code clock).1.when own (·.chapHallEdge a code chap))) ∧
      (∀ angle time, (s.hallEdge a code clock).2 = some (angle, time) → Gives (.hallEdge a code ⟨clock, chap, true, own⟩) s
        ((((s.hallEdge a code clock).1.axAlign a false angle).axAlign a true angle).when own (·.chapHallEdge a code chap))) ∧
      ∀ old new : Nat, old = s.nat (Obj.HALL_SECTOR a) → new = hallSector (s.nat (Obj.HALL_DIR a)) code →
        (s.hallEdge a code clock).1.nat (Obj.HALL_SECTOR a) = new ∧
        ((new = 7 ∨ old = 7 ∨ new = old) → (s.hallEdge a code clock).2 = none ∧
          (s.hallEdge a code clock).1.n (Obj.HALL_EDGE_TIME a) = s.n (Obj.HALL_EDGE_TIME a)) ∧
        (new < 6 → old < 6 → new = (old + 1) % 6 → (s.hallEdge a code clock).2 =
          some (s.hallAngle a new, clock - s.nat (Obj.HALL_FILTER_N a) * s.nat (Obj.HALL_FILTER_DIV a))) ∧
        (new < 6 → old < 6 → old = (new + 1) % 6 → (s.hallEdge a code clock).2 =
          some (s.hallAngle a (new + 1), clock - s.nat (Obj.HALL_FILTER_N a) * s.nat (Obj.HALL_FILTER_DIV a))) ∧
        (new < 6 → old < 6 → new ≠ old → new ≠ (old + 1) % 6 → old ≠ (new + 1) % 6 → (s.hallEdge a code clock).2 = none ∧
          (vget (s.hallEdge a code clock).1.hall a).disagreed = true)) ∧
    (∀ a : Fin 6,
      (s.nat (Obj.HALL_BAD_TICKS a) ≤ (vget s.hall a).badTicks → (vget s.hall a).badRaised = false → Gives (.hallInvalidCode a) s
        ({ s with hall := vset s.hall a { vget s.hall a with badRaised := true, disagreed := true } }.raise (Src.ax a) Kind.ANGLE_DISAGREE 3
          (some (vget s.hall a).code))) ∧
      (((vget s.hall a).badTicks < s.nat (Obj.HALL_BAD_TICKS a) ∨ (vget s.hall a).badRaised = true) → Gives (.hallInvalidCode a) s s)) ∧
    (∀ o : Fin 12,
      (0x10 ≤ s.nat (Obj.OB_SOURCE o) → s.nat (Obj.OB_SOURCE o) ≤ 0x1F → (vget s.ob o).valid = true → s.nat (Obj.OB_COAST_MAX o) ≠ 0 →
        (vget s.ob o).coast = false → Gives (.observerCoast o) s
          ({ s with ob := vset s.ob o { vget s.ob o with coast := true, coastTicks := 0, coastLost := false } }.obsStatus o)) ∧
      ((s.nat (Obj.OB_SOURCE o) < 0x10 ∨ 0x1F < s.nat (Obj.OB_SOURCE o) ∨ (vget s.ob o).valid = false ∨ s.nat (Obj.OB_COAST_MAX o) = 0 ∨
        (vget s.ob o).coast = true) → Gives (.observerCoast o) s s))

/-! ### Axes and the link. -/

/-- R254, R257, R258, R261, R265, R266, R276, R277, R379, R399: faults of a gate report a leg and side and turn off, with the soft gate
current, or move the short by the axis's state; a bootstrap that is back above its level ends its gate's hold; a trip outside the
waltz's hold reports a leg and disarms only from ARMED; the end of a short, the arm signals' changes, the back-EMF comparators, the end of an identification and the
trend append do what their state asks. -/
def Obligations.AxisEvents : Prop :=
  ∀ (s : State) (n : Fin 6),
    (∀ leg : Fin 3,
      Gives (.bootstrapUndervoltage n ⟨leg, false⟩) s ((s.axMod n fun x => { x with heldOff := x.heldOff ||| 2 ^ leg.val }).axGateFault n leg true 2) ∧
      ((s.axis n).heldOff.testBit leg = true → Gives (.bootstrapUndervoltage n ⟨leg, true⟩) s
        (s.axMod n fun x => { x with heldOff := x.heldOff - 2 ^ leg.val })) ∧
      ((s.axis n).heldOff.testBit leg = false → Gives (.bootstrapUndervoltage n ⟨leg, true⟩) s s) ∧
      (∀ high on : Bool, Gives (.gateStateMismatch n leg high on) s
        ((s.axMod n fun x => { x with stuck := x.stuck || on }).axGateFault n leg high 1)) ∧
      (∀ (high : Bool) (qual : Nat),
        let t : State := s.raise (Src.ax n) Kind.GATE_FAULT qual (some (leg + 4 * b2n high : Nat))
        (s.axState n = 0 → s.axGateFault n leg high qual = t) ∧ (s.axState n = 1 → s.axGateFault n leg high qual = t.axOffNow n true) ∧
          let u : State := t.axMod n (fun x => { x with lowFault := x.lowFault || !high, highFault := x.highFault || high })
          (s.axState n = 2 → s.axGateFault n leg high qual = u.axFaultOff n) ∧
          (3 ≤ s.axState n → s.axGateFault n leg high qual = u.ascMove n high)) ∧
      (∀ high : Bool, s.ch.waltz.driven.testBit n = false →
        (s.axState n < 2 → Gives (.desatTrip n leg high) s s ∧ Gives (.shuntOcTrip n leg) s s) ∧
        (3 ≤ s.axState n →
          Gives (.desatTrip n leg high) s (s.raise (Src.ax n) Kind.AXIS_OVERCURRENT (if high then 2 else 3) (some leg.val)) ∧
          Gives (.shuntOcTrip n leg) s (s.raise (Src.ax n) Kind.AXIS_OVERCURRENT 1 (some leg.val))) ∧
        (s.axState n = 2 →
          Gives (.desatTrip n leg high) s (((s.raise (Src.ax n) Kind.AXIS_OVERCURRENT (if high then 2 else 3) (some leg.val)).axMod n fun x =>
            { x with lowFault := x.lowFault || !high, highFault := x.highFault || high }).axFaultOff n) ∧
          Gives (.shuntOcTrip n leg) s (((s.raise (Src.ax n) Kind.AXIS_OVERCURRENT 1 (some leg.val)).axMod n fun x =>
            { x with lowFault := x.lowFault || false, highFault := x.highFault || false }).axFaultOff n))) ∧
      (∀ high : Bool, s.ch.waltz.driven.testBit n = true →
        Gives (.desatTrip n leg high) s ({ s with ch.waltz := { s.ch.waltz with
          driven := s.ch.waltz.driven - 2 ^ n.val, disarmed := s.ch.waltz.disarmed ||| 2 ^ n.val } }.raise (Src.ax n) Kind.AXIS_OVERCURRENT
            (if high then 2 else 3) (some leg.val)) ∧
        Gives (.shuntOcTrip n leg) s { s with ch.waltz.toff := s.ch.waltz.toff ||| 2 ^ n.val })) ∧
    (3 ≤ s.axState n → 2000000 ≤ (s.axis n).slow → Gives (.ascExit n) s ((s.axOffNow n).waltzAxis n)) ∧
    ((s.axState n < 3 ∨ (s.axis n).slow < 2000000) → Gives (.ascExit n) s s) ∧
    (∀ bit : Fin 26,
      (s.armOk bit = true → s.ch.armed.testBit bit = false → ∃ u : State, Gives (.armGrant bit) s u ∧ u.ch.armed.testBit bit = true ∧
        (∀ b, b ≠ bit.val → u.ch.armed.testBit b = s.ch.armed.testBit b) ∧ u.pw.expired = 0) ∧
      ((s.armOk bit = false ∨ s.ch.armed.testBit bit = true) → Gives (.armGrant bit) s s) ∧
      (s.ch.armed.testBit bit = true → ∃ u : State, Gives (.armWithdraw bit) s u ∧ u.ch.armed.testBit bit = false ∧
        (∀ b, b ≠ bit.val → u.ch.armed.testBit b = s.ch.armed.testBit b)) ∧
      (s.ch.armed.testBit bit = false → Gives (.armWithdraw bit) s s)) ∧
    (∀ clock : Nat,
      (s.axState n ≠ 0 → ∀ thresh : Bool, Gives (.emfComparatorCrossing n thresh clock) s s) ∧
      (s.axState n = 0 → ∀ θ : Nat, θ = turnBy (s.axTheta n) (s.axOmega n) (((clock : Rat) - s.clk.now) / 100000000) →
        Gives (.emfComparatorCrossing n false clock) s (s.axMod n fun x => { x with zeroAt := some θ }) ∧
        ((s.axis n).zeroAt = none → Gives (.emfComparatorCrossing n true clock) s s) ∧
        (∀ θ0 d : Nat, (s.axis n).zeroAt = some θ0 → d = min ((θ + 2 ^ 32 - θ0) % 2 ^ 32) (2 ^ 32 - (θ + 2 ^ 32 - θ0) % 2 ^ 32) →
            let t : State := s.axMod n (fun x => { x with zeroAt := none })
            (2 ^ 32 < 6 * d → Gives (.emfComparatorCrossing n true clock) s t) ∧
            (6 * d ≤ 2 ^ 32 → Gives (.emfComparatorCrossing n true clock) s
              ((t.keEstimate n (ratio ((s.nat (Obj.AX_EMF_THRESH n) : Rat) / 1000) (root3 * |s.axOmega n| * sinOf d))
                (secs (s.axis n).keGap)).keCheck n 2))))) ∧
    ((s.axis n).ident = none → Gives (.axIdentifyComplete n) s s) ∧
    (∀ i, (s.axis n).ident = some i → ∃ (r : Rat) (t : State), r = ratio (s.axis n).identSum ((s.axis n).identTicks : Rat) ∧
      t = (s.axMod n fun x => { x with ident := none }).putN (Obj.AX_R_MEAS n) (clamp 0 4294967295 (Config.fix (r * 1000000))) ∧
      ((t.nat (Obj.AX_KE_MISMATCH_PCT n) : Rat) * s.axR n < 100 * |r - s.axR n| →
        Gives (.axIdentifyComplete n) s (t.raise (Src.ax n) Kind.KE_MISMATCH 2)) ∧
      (100 * |r - s.axR n| ≤ (t.nat (Obj.AX_KE_MISMATCH_PCT n) : Rat) * s.axR n → Gives (.axIdentifyComplete n) s t)) ∧
    (∃ rows : List (List Byte), rows = rowsOf 12 (s.oct (Obj.AX_KE_TREND n)) ++ [le 8 s.stamp ++ le 4 (s.nat (Obj.AX_KE_EST n))] ∧
      Gives (.keTrendAppend n) s (s.put (Obj.AX_KE_TREND n) (.oct (rows.drop (rows.length - 64)).flatten)))

/-- R274, R275: a crossing of the guard comparators shows whether VACT is above the guard (bit 1) or within the band below it (bit 0) and judges DUMP; DUMP held on for
its longest is forced off with a fault, and the end of the forced time lets the guard levels drive it again. DUMP is on exactly while it may be and the link is
above its over-voltage level, above the guard, or, once on, not yet below it by the hysteresis. -/
def Obligations.LinkAndDump : Prop :=
  ∀ s : State,
    (∀ mv : Nat,
      let t : State := ((({ s with link.vact := mv } : State).putBit Obj.LINK_STATUS 1 (decide (s.nat Obj.VACT_GUARD < mv))).putBit Obj.LINK_STATUS 0 (decide (mv ≤ s.nat Obj.VACT_GUARD ∧ s.nat Obj.VACT_GUARD ≤ mv + s.nat Obj.LINK_BAND)))
      Gives (.linkGuardCrossing mv) s (t.dumpJudge (t.bit Obj.SUPPLY_FLAGS 10))) ∧
    (s.bit Obj.LINK_STATUS 2 = true → Gives .dumpMaxOnExpiry s
      ({ s.putBit Obj.LINK_STATUS 2 false with link.forced := true }.raise Src.supply Kind.VACT_OV 2 (some (s.n Obj.VACT_MV)))) ∧
    (s.bit Obj.LINK_STATUS 2 = false → Gives .dumpMaxOnExpiry s s) ∧
    (s.link.forced = true → Gives .dumpForcedOffEnd s ({ s with link.forced := false }.dumpJudge (s.bit Obj.SUPPLY_FLAGS 10))) ∧
    (s.link.forced = false → Gives .dumpForcedOffEnd s s) ∧
    (∀ ov : Bool,
      ((s.dumpJudge ov).bit Obj.LINK_STATUS 2 = true ↔
        s.n Obj.DUMP_ENABLE ≠ 0 ∧ s.link.forced = false ∧ s.pw.sleep = 0 ∧
        (ov = true ∨ s.nat Obj.VACT_GUARD < s.link.vact ∨
          (s.bit Obj.LINK_STATUS 2 = true ∧ s.nat Obj.VACT_GUARD ≤ s.link.vact + s.nat Obj.DUMP_HYST))) ∧
      (∀ b, b ≠ 2 → (s.dumpJudge ov).bit Obj.LINK_STATUS b = s.bit Obj.LINK_STATUS b) ∧
      (∀ k, k ≠ Obj.LINK_STATUS → (s.dumpJudge ov).get k = s.get k))

/-! ### Generators, steppers and solenoids. -/

/-- R282–R284, R298, R300: an engaged generator sends a step toward its target while no pulse runs, any other takes the next carry of its accumulator in this
tick; a pulse's end sends the oldest step that waits, at the levels MX_STEP_POL gives, or frees the output; a requested table takes over where both tables are centred. -/
def Obligations.GeneratorsStep : Prop :=
  ∀ s : State,
    (∀ m : Fin 12,
      ((s.gen m).engaged = true → (s.gen m).stop = none →
        ((s.genStepPair m).isSome = true → (s.gen m).pulse = false → s.n (Obj.MX_POSITION m) ≠ (s.gen m).target →
          Gives (.generatorStep m) s (s.genStep m (decide (s.n (Obj.MX_POSITION m) < (s.gen m).target)))) ∧
        ((s.genStepPair m = none ∨ (s.gen m).pulse = true ∨ s.n (Obj.MX_POSITION m) = (s.gen m).target) → Gives (.generatorStep m) s s)) ∧
      (((s.gen m).engaged = false ∨ (s.gen m).stop.isSome = true) →
        (∀ k forward, nextCarry (s.nat (Obj.MX_ACCUM m)) (s.gen m).v (s.gen m).clocks s.clk.tickLen = some (k, forward) →
          Gives (.generatorStep m) s ((s.genAdvance m k).genStep m forward)) ∧
        (nextCarry (s.nat (Obj.MX_ACCUM m)) (s.gen m).v (s.gen m).clocks s.clk.tickLen = none → Gives (.generatorStep m) s s))) ∧
    (∀ (m : Fin 12) (forward : Bool),
      let t : State := ((s.putN (Obj.MX_POSITION m) (wrap64 (s.n (Obj.MX_POSITION m) + if forward then 1 else -1))).stepOut m forward).vsMoved m (s.n (Obj.MX_POSITION m))
      ((t.gen m).plan.position = true → (t.gen m).moving = true → t.n (Obj.MX_POSITION m) = t.n (Obj.MX_TARGET_POS m) → s.genStep m forward = t.genComplete m) ∧
      (((t.gen m).plan.position = false ∨ (t.gen m).moving = false ∨ t.n (Obj.MX_POSITION m) ≠ t.n (Obj.MX_TARGET_POS m)) → s.genStep m forward = t)) ∧
    (∀ k : Fin 4, Gives (.stepPulseEnd k) s (s.each 12 fun x m =>
      if x.genStepPair m = some k.val ∧ (x.gen m).pulse = true then
        match (x.gen m).waiting with
        | [] => x.genMod m fun g => { g with pulse := false }
        | d :: rest => (x.genMod m fun g => { g with waiting := rest }).stepSend m k d
      else x)) ∧
    (∀ (m : Fin 12) (k : Fin 4) (forward : Bool), s.stepSend m k forward =
      (s.genMod m fun g => { g with pulse := true, dir := forward }).emit
        (.step k (!(s.nat (Obj.MX_STEP_POL m)).testBit 0) ((!forward) != (s.nat (Obj.MX_STEP_POL m)).testBit 1))) ∧
    (∀ m : Fin 12, ∀ centred : Prop, (centred ↔ ∀ t < 2, s.gearTable m t = [] ∨ gearCentred (s.gearTable m t) (s.gearMaster m) = true) →
      ((s.bit (Obj.GEAR_STATUS m) 3 = false ∨ ¬ centred) → Gives (.gearTableSwitch m) s s) ∧
      (s.bit (Obj.GEAR_STATUS m) 3 = true → centred →
        let t : State := ((s.putN (Obj.GEAR_TABLE_ACTIVE m) (s.n (Obj.GEAR_TABLE_REQUEST m))).putBit (Obj.GEAR_STATUS m) 3 false).count (Obj.GEAR_SWITCHES m) 32
        ((t.gearActive m = [] ∨ (t.gen m).engaged = false) → Gives (.gearTableSwitch m) s (t.gearStatus m)) ∧
        (t.gearActive m ≠ [] → (t.gen m).engaged = true → Gives (.gearTableSwitch m) s ((t.gearKeep m).gearStatus m))))

/-- R315, R316, R318, R319: the chopper of a coil: the end of blanking enables the comparator or ends the on phase; a current at the reference or VS_TON_MAX ends it with fast
decay; fast decay ends in slow decay; the off-time ends with the next on phase, blanked, and a slow decay of 1 µs or more adds an e estimate. Events in another
phase do nothing. A short latches a channel that may conduct off; the off-state diagnosis reports only a channel that is not live. -/
def Obligations.ChoppersCycle : Prop :=
  ∀ (s : State) (k : Fin 4) (c : Fin 2),
    ((vget (s.stepper k).coils c).phase = .blank → Gives (.chopperBlankEnd k c true) s (s.coilFast k c 0) ∧
      Gives (.chopperBlankEnd k c false) s (s.coilMod k c fun x => { x with phase := .on })) ∧
    ((vget (s.stepper k).coils c).phase ≠ .blank → ∀ reached, Gives (.chopperBlankEnd k c reached) s s) ∧
    ((vget (s.stepper k).coils c).phase = .on → Gives (.chopperCurrentReached k c) s (s.coilFast k c 0)) ∧
    ((vget (s.stepper k).coils c).phase ≠ .on → Gives (.chopperCurrentReached k c) s s) ∧
    (((vget (s.stepper k).coils c).phase = .on ∨ (vget (s.stepper k).coils c).phase = .blank) →
      ∀ n : Nat, n = (if s.nat (Obj.VS_OPEN_MIN k) ≤ (vget (s.stepper k).coils c).ref.natAbs ∧ 12000 ≤ s.nat Obj.VSM_MV
        then (vget (s.stepper k).coils c).maxed + 1 else 0) →
      (n ≠ 16 → Gives (.chopperTonMax k c) s (s.coilFast k c n)) ∧
      (n = 16 → Gives (.chopperTonMax k c) s
        (((s.coilFast k c n).coilMod k c fun x => { x with isOpen := true }).raise (Src.vs k) Kind.VALVE_OPEN_LOAD 1 (some c.val)))) ∧
    ((vget (s.stepper k).coils c).phase ≠ .on → (vget (s.stepper k).coils c).phase ≠ .blank → Gives (.chopperTonMax k c) s s) ∧
    (∀ i : Int,
      ((vget (s.stepper k).coils c).phase = .fast →
        Gives (.fastDecayEnd k c i) s (s.coilMod k c fun x => { x with phase := .slow, first := i })) ∧
      ((vget (s.stepper k).coils c).phase ≠ .fast → Gives (.fastDecayEnd k c i) s s) ∧
      ((vget (s.stepper k).coils c).phase = .slow → ∀ ts : Nat, ts = s.nat (Obj.VS_TOFF k) * 100 * (16 - s.nat (Obj.VS_FAST k)) / 16 →
        (ts < 1000 → Gives (.chopperOfftimeEnd k c i) s (s.coilMod k c fun x => { x with phase := .blank })) ∧
        (1000 ≤ ts → Gives (.chopperOfftimeEnd k c i) s ((s.coilMod k c fun x => { x with phase := .blank }).stepMod k fun y =>
          { y with emfCount := y.emfCount + 1, emfSum := y.emfSum +
              |emfOf (s.nat (Obj.VS_COIL_R k)) (s.nat (Obj.VS_COIL_L k)) (vget (s.stepper k).coils c).first i ts| }))) ∧
      (((vget (s.stepper k).coils c).phase = .fast ∨ (vget (s.stepper k).coils c).phase = .flip) →
        Gives (.chopperOfftimeEnd k c i) s (s.coilMod k c fun x => { x with phase := .blank })) ∧
      ((vget (s.stepper k).coils c).phase ≠ .slow → (vget (s.stepper k).coils c).phase ≠ .fast → (vget (s.stepper k).coils c).phase ≠ .flip →
        Gives (.chopperOfftimeEnd k c i) s s)) ∧
    (∀ qual : Fin 3,
      (s.vsConducts k = true → Gives (.vsOvercurrent k c qual) s
        ((s.stepMod k fun x => { x with shorted := true, coils := x.coils.map fun y => { y with phase := .off, maxed := 0 } }).raise (Src.vs k)
          Kind.VALVE_SHORT (qual.val + 1) (some c.val))) ∧
      (s.vsConducts k = false → Gives (.vsOvercurrent k c qual) s s)) ∧
    ((s.stepper k).live = false → Gives (.vsOpenLoadOff k c) s (s.raise (Src.vs k) Kind.VALVE_OPEN_LOAD 2 (some c.val))) ∧
    ((s.stepper k).live = true → Gives (.vsOpenLoadOff k c) s s)

/-- R321, R322, R324: the hysteresis of a solenoid: above c + b the switch turns off, at once after its least on time or at the crossing; a probe turns an off switch on
and leaves it on where the current lies at or under the band's lower edge of its start; a pull-in's end forms the centre anew. A current above its limit, an off
ball at the supply, an on switch that never reaches its band and an off ball in the open band report their faults, the first three latching. -/
def Obligations.SolenoidsSwitch : Prop :=
  ∀ (s : State) (m : Fin 16),
    (∀ i : Nat,
      ((s.soln m).sw = .on → (s.soln m).centre + vget s.lp.bands m < i → Gives (.solUpperCrossing m i) s
        (s.solMod m fun x => { x with sw := .off })) ∧
      (((s.soln m).sw ≠ .on ∨ (i : Int) ≤ (s.soln m).centre + vget s.lp.bands m) → Gives (.solUpperCrossing m i) s s) ∧
      ((s.soln m).sw = .fresh →
        ((s.soln m).centre + vget s.lp.bands m < i → Gives (.solMinOnEnd m i) s (s.solMod m fun x => { x with sw := .off })) ∧
        ((i : Int) ≤ (s.soln m).centre + vget s.lp.bands m → Gives (.solMinOnEnd m i) s (s.solMod m fun x => { x with sw := .on }))) ∧
      ((s.soln m).sw ≠ .fresh → Gives (.solMinOnEnd m i) s s) ∧
      ((s.soln m).sw = .probe →
        ((i : Int) ≤ (s.soln m).probeAt → Gives (.solProbeEnd m i) s (s.solMod m fun x => { x with sw := .fresh })) ∧
        ((s.soln m).probeAt < i → Gives (.solProbeEnd m i) s (s.solMod m fun x => { x with sw := .off }))) ∧
      ((s.soln m).sw ≠ .probe → Gives (.solProbeEnd m i) s s)) ∧
    ((s.soln m).sw = .off → (s.soln m).centre ≠ 0 → s.solConducts m = true → Gives (.solProbe m) s
      (s.solMod m fun x => { x with sw := .probe, probeAt := max (x.centre - vget s.lp.bands m) 0 })) ∧
    (((s.soln m).sw ≠ .off ∨ (s.soln m).centre = 0 ∨ s.solConducts m = false) → Gives (.solProbe m) s s) ∧
    ((s.soln m).pullin = true → Gives (.pullinEnd m) s
      ((s.solMod m fun x => { x with pullin := false, cut := s.nat Obj.GOV_LEVEL == 2 }).solCentre m)) ∧
    ((s.soln m).pullin = false → Gives (.pullinEnd m) s s) ∧
    (∀ mv : Nat,
      ((s.soln m).sw ≠ .off → Gives (.solOvercurrent m mv) s
        ((s.solMod m fun x => { x with overcurrent := true, sw := .off }).raise (Src.sol m) Kind.VALVE_SHORT 1 (some mv))) ∧
      ((s.soln m).sw = .off → Gives (.solOvercurrent m mv) s s) ∧
      ((s.soln m).sw = .off →
        Gives (.solShortToSupply m mv) s ((s.solMod m fun x => { x with toSupply := true }).raise (Src.sol m) Kind.VALVE_SHORT 2 (some mv)) ∧
        Gives (.solOpenLoadOff m mv) s ((s.solMod m fun x => { x with openOff := true }).raise (Src.sol m) Kind.VALVE_OPEN_LOAD 2 (some mv))) ∧
      ((s.soln m).sw ≠ .off → Gives (.solShortToSupply m mv) s s ∧ Gives (.solOpenLoadOff m mv) s s)) ∧
    (((s.soln m).sw = .on ∨ (s.soln m).sw = .fresh) → (s.soln m).pullin = false → s.n (Obj.SOL_OPEN_MA m) ≤ (s.soln m).centre →
      Gives (.solOpenLoadOn m) s ((s.solMod m fun x => { x with openOn := true, sw := .off }).raise (Src.sol m) Kind.VALVE_OPEN_LOAD 1
        (some (s.soln m).centre))) ∧
    ((((s.soln m).sw ≠ .on ∧ (s.soln m).sw ≠ .fresh) ∨ (s.soln m).pullin = true ∨ (s.soln m).centre < s.n (Obj.SOL_OPEN_MA m)) →
      Gives (.solOpenLoadOn m) s s)

/-! ### Leadership on the lines. -/

/-- R337, R353–R355, R364, R397: what a peer line's change, its quiet, the rank delay and the re-check do; a disagreement of the pedals is raised once. A peer's
line that rises while this lane is armed holds every output off, and a lower lane's ends this lane's hold of the last waltz; quiet, permission and a free take start the delay; at its end LEAD_OUT
rises if the lines are still quiet; and the re-check grants, yields to a lower lane, fails on its third disturbance, or looks again, a line still asserted counting anew. -/
def Obligations.InterlockTakesTurns : Prop :=
  ∀ s : State,
    (∀ (p : Fin 2) (now : Nat) (t : State), t = { s with ch.peers := vset s.ch.peers p true } →
        let a : State := (if t.ch.take = .check ∨ t.ch.take = .delay then { t with ch.seen := vset t.ch.seen p true } else t)
        let b : State := (if a.ch.waltz.step = 2 ∧ a.lowerLane [p.val] = true then { a with ch.waltz.lower := true } else a)
        let e : State := (if b.chapState = 4 ∧ b.ch.waltz.holder = true ∧ b.lowerLane [p.val] = true then { b with ch.waltz.holder := false,
                                                                                                                   ch.waltz.driven := 0,
                                                                                                                   ch.waltz.toff := 0 }.leadDown.waltzFinish else b)
        let c : State := (if e.ch.armed ≠ 0 ∧ e.nat Obj.LEAD_MODE = 0 then { e with ch.peerHold := true }.armJudge else e)
        let d : State := (if c.peerStray p now = true then { c with ld.stray := vset c.ld.stray p true,
                                                                    ld.lineFailed := true }.raise Src.lane Kind.INTERLOCK_TEST_FAIL 4 (some (c.peerLane p : Int)) else c)
        Gives (.peerLeadInChange p true now) s d) ∧
    (∀ (p : Fin 2) (now : Nat) (t : State), t = { s with ch.peers := vset s.ch.peers p false } →
      (t.peersLow = false → Gives (.peerLeadInChange p false now) s t) ∧
      (t.peersLow = true →
        let u : State := { t with ld.fall := now }
        ((s.chapState = 4 ∧ s.ch.waltz.holder = false ∧ s.ch.waltz.holdDone = false ∧ s.ch.waltz.step = 0) →
          Gives (.peerLeadInChange p false now) s { u with ch.waltz.step := 1 }) ∧
        ((s.chapState ≠ 4 ∨ s.ch.waltz.holder = true ∨ s.ch.waltz.holdDone = true ∨ s.ch.waltz.step ≠ 0) →
          Gives (.peerLeadInChange p false now) s u))) ∧
    (s.peersLow = false → Gives .peerLinesQuiet s s) ∧
    (s.peersLow = true →
      let t : State := { s with ch.peerHold := false }
      (t.mayTake = true → s.ch.take = .quiet → Gives .peerLinesQuiet s { t with ch.take := .delay }) ∧
      ((t.mayTake = false ∨ s.ch.take ≠ .quiet) → Gives .peerLinesQuiet s t)) ∧
    ((s.ch.take ≠ .delay ∨ s.mayTake = false) → Gives .rankDelayExpiry s s) ∧
    (s.ch.take = .delay → s.mayTake = true →
      (s.peersLow = true → Gives .rankDelayExpiry s { s with ch.take := .check, ch.rechecks := 0, ch.seen := .replicate 2 false }.leadUp ∧
        ({ s with ch.take := .check, ch.rechecks := 0, ch.seen := .replicate 2 false } : State).leadUp.ch.leadOut = true) ∧
      (s.peersLow = false → Gives .rankDelayExpiry s { s with ch.take := .quiet })) ∧
    (s.ch.take ≠ .check → Gives .leadRecheckEnd s s) ∧
    (s.ch.take = .check →
      (s.seenPeers = [] → Gives .leadRecheckEnd s s.takeDone) ∧
      (s.seenPeers ≠ [] → s.lowerLane s.seenPeers = true → Gives .leadRecheckEnd s (s.leadDown.takeAt .quiet) ∧ s.leadDown.ch.leadOut = false) ∧
      (s.seenPeers ≠ [] → s.lowerLane s.seenPeers = false → 2 ≤ s.ch.rechecks → Gives .leadRecheckEnd s s.takeFail) ∧
      (s.seenPeers ≠ [] → s.lowerLane s.seenPeers = false → s.ch.rechecks < 2 → Gives .leadRecheckEnd s
        { s with ch.rechecks := s.ch.rechecks + 1, ch.seen := s.ch.peers })) ∧
    (s.bl.differ = true → s.bl.disagree = false → Gives .pedalDisagreeTimeout s
      ({ s with bl.disagree := true }.raise Src.blend Kind.PEDAL_DISAGREE 1 (some s.pedalDetail))) ∧
    ((s.bl.differ = false ∨ s.bl.disagree = true) → Gives .pedalDisagreeTimeout s s)

/-! ### Dance cards, line tests and partners. -/

/-- R41, R361: a card message of a partner is taken only by a lane that runs and from a partner it has matched; a partner whose announcement differs excludes the lane; a number
that is neither the last nor the next is rejected with CARD_LEASE_LOST 0x2, and so is an issue inside the guard of the last card, which leaves the number as it is. A message that
is taken sets the number; issue, renewal, pass and release then do what their type says. -/
def Obligations.CardMessagesAreJudged : Prop :=
  ∀ (s : State) (p : Fin 2) (m : Card) (now : Nat),
    ((3 ≤ s.role ∨ vget s.ld.announced p = none) →
      Gives (.cardIssueMessage p m now) s s ∧ Gives (.cardRenewMessage p m) s s ∧ Gives (.cardPassMessage p m) s s ∧
      Gives (.cardReleaseMessage p m) s s) ∧
    (∀ a, s.role < 3 → vget s.ld.announced p = some a → s.announceOk p a = false →
      Gives (.cardIssueMessage p m now) s (s.exclude p a) ∧ Gives (.cardRenewMessage p m) s (s.exclude p a) ∧
      Gives (.cardPassMessage p m) s (s.exclude p a) ∧ Gives (.cardReleaseMessage p m) s (s.exclude p a)) ∧
    (∀ a t, s.role < 3 → vget s.ld.announced p = some a → s.announceOk p a = true → s.ld.card.any = true →
      m.number ≠ s.nat Obj.CARD_NUMBER → m.number ≠ (s.nat Obj.CARD_NUMBER + 1) % 2 ^ 32 →
      t = s.raise Src.lane Kind.CARD_LEASE_LOST 2 (some (m.number : Int)) →
      Gives (.cardIssueMessage p m now) s t ∧ Gives (.cardRenewMessage p m) s t ∧ Gives (.cardPassMessage p m) s t ∧
      Gives (.cardReleaseMessage p m) s t) ∧
    (∀ a, s.role < 3 → vget s.ld.announced p = some a → s.announceOk p a = true →
      (s.ld.card.any = false ∨ m.number = s.nat Obj.CARD_NUMBER ∨ m.number = (s.nat Obj.CARD_NUMBER + 1) % 2 ^ 32) →
      ∀ taken : State → State, (taken = fun x => (x.putN Obj.CARD_NUMBER m.number).cardMod fun c => { c with any := true }) →
        (s.ld.card.any = true → now < s.nat Obj.CARD_EXPIRY + 200000 →
          Gives (.cardIssueMessage p m now) s (s.raise Src.lane Kind.CARD_LEASE_LOST 2 (some (m.number : Int)))) ∧
        ((s.ld.card.any = false ∨ s.nat Obj.CARD_EXPIRY + 200000 ≤ now) →
          let t : State := (s.cardMode.putN Obj.CARD_HOLDER m.holder).putN Obj.CARD_EXPIRY m.expiry
          let u : State := taken (({ t with ld := { t.ld with card := { any := true, issuer := m.issuer, reason := m.reason }, settled := true,
                                                              recover := t.ld.recover && decide (2 < m.reason),
                                                              inGap := t.ld.inGap && decide (2 < m.reason) } }.cardYield).stepReached 10)
          (m.reason ≤ 2 → Gives (.cardIssueMessage p m now) s (u.testBegin (m.expiry - 100000 * u.nat Obj.CARD_LEASE))) ∧
          (2 < m.reason → Gives (.cardIssueMessage p m now) s u)) ∧
        Gives (.cardRenewMessage p m) s (taken ((s.cardMode.putN Obj.CARD_HOLDER m.holder).putN Obj.CARD_EXPIRY m.expiry).cardYield) ∧
        Gives (.cardPassMessage p m) s ((taken ((s.cardMode.putN Obj.CARD_EXPIRY m.expiry).cardYield.endTest)).cardMod fun c =>
          { c with named := m.holder == s.laneNo }) ∧
        Gives (.cardReleaseMessage p m) s ((taken s.cardMode).cardMod fun c => { c with released := true })) ∧
    (s.cardMode.nat Obj.LEAD_MODE = 1 ∧ s.cardMode.ch.permission = none ∧ s.cardYield.ch.lease = none)

/-- R361–R363: a holder under lease that may send and has not given up renews from now by CARD_LEASE; an expired lease disarms by the arm conditions, raises
CARD_LEASE_LOST 0x1 and gives up lead; the hand-over edge ends card mode once a release is known; an eligible follow of rank r that has not given up lead issues the next card 2 ms + (r − 1) ms
after the expiry. A new
card lasts CARD_LEASE from its issue. -/
def Obligations.CardsFollowTheirTimes : Prop :=
  ∀ s : State,
    (∀ now : Nat,
      (s.holdsCard = true → s.ch.lease.isSome = true → s.ld.card.resigned = false → s.role ≤ 2 → Gives (.cardRenewTimer now) s
        { (s.putN Obj.CARD_EXPIRY (now + 100000 * s.nat Obj.CARD_LEASE : Nat)).sendCard 2 s.laneNo (now + 100000 * s.nat Obj.CARD_LEASE) with
          ch.lease := some (now + 100000 * s.nat Obj.CARD_LEASE) }) ∧
      ((s.holdsCard = false ∨ s.ch.lease = none ∨ s.ld.card.resigned = true ∨ 2 < s.role) → Gives (.cardRenewTimer now) s s) ∧
      (∀ r : Nat, r = (if s.ld.card.named = true then 1 else if s.ld.rank = 0 then s.laneNo else s.ld.rank) →
        (s.nat Obj.LEAD_MODE = 1 → s.holdsCard = false → s.eligible = true → s.ld.gaveUp = false → s.nat Obj.CARD_EXPIRY + 200000 + 100000 * (r - 1) ≤ now →
          (∀ t, s.issueCard 3 now = some t → Gives (.cardSuccessionIssue now) s t) ∧
          (s.issueCard 3 now = none → Gives (.cardSuccessionIssue now) s s)) ∧
        ((s.nat Obj.LEAD_MODE ≠ 1 ∨ s.holdsCard = true ∨ s.eligible = false ∨ s.ld.gaveUp = true ∨ now < s.nat Obj.CARD_EXPIRY + 200000 + 100000 * (r - 1)) →
          Gives (.cardSuccessionIssue now) s s)) ∧
      (∀ t reason, s.issueCard reason now = some t →
        s.clk.joined = true ∧ (s.ld.card.any = true → s.nat Obj.CARD_EXPIRY + 200000 ≤ now) ∧ t.ld.card.any = true ∧ t.ld.card.issuer = s.laneNo ∧
        t.ld.card.reason = reason ∧ t.ch.lease = some (now + 100000 * s.nat Obj.CARD_LEASE) ∧ t.nat Obj.LEAD_MODE = 1 ∧ t.nat Obj.CARD_HOLDER = s.laneNo ∧
        t.n Obj.CARD_NUMBER = if s.ld.card.any then ((s.nat Obj.CARD_NUMBER + 1) % 2 ^ 32 : Nat) else 1)) ∧
    (s.nat Obj.LEAD_MODE = 1 → s.ch.lease.isSome = true → Gives .cardLeaseExpiry s
      ((({ s with ch.lease := none }.armJudge).raise Src.lane Kind.CARD_LEASE_LOST 1
        (some (({ s with ch.lease := none } : State).armJudge.n Obj.CARD_NUMBER))).giveUp 6 0 0 false)) ∧
    ((s.nat Obj.LEAD_MODE ≠ 1 ∨ s.ch.lease = none) → Gives .cardLeaseExpiry s s) ∧
    ((s.nat Obj.LEAD_MODE ≠ 1 ∨ s.ld.card.released = false) → Gives .cardHandoverEdge s s) ∧
    (s.nat Obj.LEAD_MODE = 1 → s.ld.card.released = true → ∃ u : State, Gives .cardHandoverEdge s u ∧ u.nat Obj.LEAD_MODE = 0 ∧
      u.nat Obj.CARD_HOLDER = 0 ∧ u.ch.lease = none ∧ u.ld.card.released = false ∧ u.ld.testing = false ∧ u.ld.settled = true)

/-- R364, R365: in a line test the lane, its chaperone running, pulses in its own place (low while it holds the card, else high) and records a partner's pulse in that
partner's place; the evaluation publishes what was seen, ends the test, fails the lane for an unseen own pulse, a stray edge or a missed partner, and the holder then passes
the card where it failed and a follow can take it, or releases it; the lead starts a test by a card of reason 1. -/
def Obligations.LineTestsRunAndAreJudged : Prop :=
  ∀ s : State,
    (∀ (k : Fin 4) (seen : Bool),
      ((s.ld.testing = false ∨ k.val = 0) → Gives (.lineTestPulse k seen) s s) ∧
      (s.ld.testing = true → k.val ≠ 0 → k.val = s.laneNo →
        (s.chapState = 2 → Gives (.lineTestPulse k seen) s (s.emit (.leadPulse (!s.holdsCard)))) ∧ (s.chapState ≠ 2 → Gives (.lineTestPulse k seen) s s)) ∧
      (s.ld.testing = true → k.val ≠ 0 → k.val ≠ s.laneNo → Gives (.lineTestPulse k seen) s (s.each 2 fun x p =>
        if x.peerLane p = k.val then { x with ld.pulseSeen := vset x.ld.pulseSeen p seen } else x))) ∧
    (∀ now : Nat,
      (s.ld.testing = false → Gives (.lineTestEvaluate now) s s) ∧
      (s.ld.testing = true → ∀ (failed unseen : Bool) (ps missed : List Nat), ps = [0, 1].filter (fun p => s.peerPresent p) →
        missed = ps.filter (fun p => !vget s.ld.pulseSeen p) → (unseen = true ↔ ps ≠ [] ∧ ∀ p ∈ ps, s.sawUs p = false) →
        (failed = true ↔ unseen = true ∨ vget s.ld.stray 0 = true ∨ vget s.ld.stray 1 = true ∨ missed ≠ []) →
          let a : State := { s.putN Obj.LINE_TEST_RESULT (16 + 8 * b2n (!vget s.ld.stray 1) + 4 * b2n (vget s.ld.pulseSeen 1) + 2 * b2n (vget s.ld.pulseSeen 0) + b2n (decide (∀ p ∈ ps, s.sawUs p = true)) : Nat) with ld.testing := false, ld.lineFailed := failed }
          let b : State := (if unseen = true then a.raise Src.lane Kind.INTERLOCK_TEST_FAIL 1 (some (a.laneNo : Int)) else a)
          let c : State := missed.foldl (fun x p => x.raise Src.lane Kind.INTERLOCK_TEST_FAIL (2 + p) (some (x.peerLane p : Int))) b
          let d : State := (if failed = true then (c.stepReached 11).permit none else c.stepReached 11)
          (d.holdsCard = false → Gives (.lineTestEvaluate now) s d) ∧
          (d.holdsCard = true → failed = true → d.followers false (fun w => decide (1 ≤ wordScore w)) ≠ [] →
            Gives (.lineTestEvaluate now) s (d.giveUp 2 0 0 true)) ∧
          (d.holdsCard = true → (failed = false ∨ d.followers false (fun w => decide (1 ≤ wordScore w)) = []) →
            Gives (.lineTestEvaluate now) s (d.releaseCard now))) ∧
      (s.ld.leading = true → s.nat Obj.LEAD_MODE = 0 → ∀ t, s.issueCard 1 now = some t → Gives (.lineTestPeriodExpiry now) s t) ∧
      ((s.ld.leading = false ∨ s.nat Obj.LEAD_MODE ≠ 0 ∨ s.issueCard 1 now = none) → Gives (.lineTestPeriodExpiry now) s s))

/-- R41, R366, R368–R372, R392–R394: a partner's announcement is kept, and at a running lane one that matches calls for a recovery, which remembers whether it came in a cut-in
gap (log 247), unless the test that runs covers it; a follow runs a shadow record's cells, fails on any
difference, a generator's recorded nodes included, and otherwise adopts their states, and cross-checks each enabled axis; a health block of a partner enters its entries and its vote counts where it is not
0; a partner silent for PEER_TIMEOUT beats is lost once; the ladder's delay raises LAST_WALTZ 0x2 at its level 3, and a level below 2 at rest clears its requests. -/
def Obligations.PartnersAreFollowed : Prop :=
  ∀ s : State,
    (∀ (p : Fin 2) (a : Announcement) (t : State), t = { s with ld.announced := vset s.ld.announced p (some a) } →
      (t.announceOk p a = false → Gives (.laneAnnouncement p a) s t) ∧
      (t.announceOk p a = true →
        let u : State := { t with ld.lost := vset s.ld.lost p false, ld.missing := vset s.ld.missing p 0 }
        ∀ covered : Prop,
        (covered ↔ s.nat Obj.LEAD_MODE = 1 ∧ s.ld.testing = true ∧ s.clk.now < s.nat Obj.LINE_TEST_TIME) →
        ((u.role = 1 ∨ u.role = 2) → ¬ covered → Gives (.laneAnnouncement p a) s
          { u with ld.recover := true, ld.inGap := (u.ld.recover && u.ld.inGap) || u.cutInGap }) ∧
        (((u.role ≠ 1 ∧ u.role ≠ 2) ∨ covered) → Gives (.laneAnnouncement p a) s u))) ∧
    (∀ r : ShadowRecord,
      (s.role ≠ 1 → Gives (.shadowRecord r) s s) ∧
      (s.role = 1 → ∃ t : State,
        ((∃ x ∈ r.cells, (s.shadowRun x).y ≠ x.y ∨ s.shadowGen r.beat x = true) → t = (s.count Obj.SHADOW_FAILS 32).shadowFail 2 s.score) ∧
        ((∀ x ∈ r.cells, (s.shadowRun x).y = x.y ∧ s.shadowGen r.beat x = false) →
          let c : State := r.cells.foldl (fun y x => (y.cellStateWrite x.cell true (y.shadowRun x).s0).cellStateWrite x.cell false (y.shadowRun x).s1) s
          t = { c.count Obj.SHADOW_PASSES 32 with ld.passes := c.ld.passes + 1, ld.passed := true }) ∧
        Gives (.shadowRecord r) s
          ((((List.range 6).filter fun n => t.on (Obj.AX_ENABLE n)).zip r.pairs).foldl (fun y x => y.crossCheck r.time x.1 x.2) t))) ∧
    (∀ (p : Fin 2) (word : Word) (votes obs : Byte),
      (s.peerLane p = 0 → Gives (.healthBlock p word votes obs) s s) ∧
      (s.peerLane p ≠ 0 →
        let t : State := s.wordTaken p word.toNat obs.toNat
        t.n (Obj.PEER_HEALTH p) = word.toNat ∧
        t.nat (Obj.PEER_STATE p) = (if wordRole word.toNat = 5 then 3 else 1) ∧ vget t.ld.words p = some word.toNat ∧
        vget t.ld.missing p = 0 ∧ vget t.ld.lost p = false ∧
        (votes = 0 → Gives (.healthBlock p word votes obs) s t) ∧
        (votes ≠ 0 → Gives (.healthBlock p word votes obs) s
          (t.pwMod fun x => { x with partners := x.partners ||| 2 ^ p.val }).holdoffCancel))) ∧
    (∀ p : Fin 2,
      (s.peerLane p ≠ 0 → vget s.ld.lost p = false → s.nat Obj.PEER_TIMEOUT ≤ vget s.ld.missing p →
        let t : State := { s.putN (Obj.PEER_STATE p) 2 with ld.lost := vset s.ld.lost p true }
        Gives (.peerWordsTimeout p) s (t.raise Src.lane Kind.PEER_LOST 1 (some (t.peerLane p : Int)))) ∧
      ((s.peerLane p = 0 ∨ vget s.ld.lost p = true ∨ vget s.ld.missing p < s.nat Obj.PEER_TIMEOUT) → Gives (.peerWordsTimeout p) s s)) ∧
    (s.ld.ladderRun = true → s.nat Obj.LADDER_LEVEL = 3 → Gives .ladderWaltzDelayExpiry s
      ({ s with ld.ladderRun := false, ld.ladderRaised := true }.raise Src.lane Kind.LAST_WALTZ 2 (some (s.n Obj.LADDER_COUNT * 256 + s.laneNo)))) ∧
    ((s.ld.ladderRun = false ∨ s.nat Obj.LADDER_LEVEL ≠ 3) → Gives .ladderWaltzDelayExpiry s s) ∧
    (s.nat Obj.LADDER_LEVEL < 2 → s.nat Obj.VEH_SPEED = 0 → Gives .ladderRequestClear s (s.putN Obj.LADDER_REQUESTS 0)) ∧
    ((2 ≤ s.nat Obj.LADDER_LEVEL ∨ s.nat Obj.VEH_SPEED ≠ 0) → Gives .ladderRequestClear s s)

/-! ### The chaperone. -/

/-- R354, R361, R376, R377, R378, R380, R382–R384, R388, R391: a request with a bad CRC or out of order is discarded with CHAP_WDG 0x4, one outside OPERATE is only counted, and any other sets
the request, the mirrors, the lease in card mode, the permission outside it, and the EB release; a message carries the chaperone's own clock, by which its own time runs on; a side-path message reads the pedals and checks every leg, and the third bad or missing one in a row is CHAP_ENVELOPE 0x5; a rate, a
deceleration or a bank CRC that is wrong silences the chaperone; a slow or blind short circuit opens; a partner's LEAD_OUT in SILENT turns EB_OUT off.
A CRITICAL fault of its own in PRECHECK or OPERATE makes it SILENT with its cause, no arm, no lease, no permission. -/
def Obligations.ChaperoneJudges : Prop :=
  ∀ s : State,
    (∀ (r : Request) (ordered : Prop), (ordered ↔ ∀ q, s.ch.seq = some q → r.seq.toNat = (q + 1) % 256) →
      (r.good = false → Gives (.chapRequest r) s ((s.chapClock r.chap).chapFail Kind.CHAP_WDG 4 (some (s.n Obj.WDG_CHALLENGE)))) ∧
      (r.good = true →
        let t : State := { s.chapClock r.chap with ch.seq := some r.seq.toNat }
        (¬ ordered → Gives (.chapRequest r) s (t.chapFail Kind.CHAP_WDG 4 (some (s.n Obj.WDG_CHALLENGE)))) ∧
        (ordered → s.chapState ≠ 2 → Gives (.chapRequest r) s t) ∧
        (ordered → s.chapState = 2 →
          let u : State := { t with ch.request := r.arm.toNat, ch.speed := r.speed.getD s.ch.speed,
                                    ch.speedAt := if r.speed = none then s.ch.speedAt else r.chap, ch.demand := r.demand, ch.autonomy := r.autonomy,
                                    ch.travel := vset (vset s.ch.travel 0 r.travel1) 1 r.travel2,
                                    ch.lease := if s.nat Obj.LEAD_MODE = 1 then r.lease else none }
          (s.nat Obj.LEAD_MODE = 1 → Gives (.chapRequest r) s ((u.permit none).armJudge.ebAsk r.eb)) ∧
          (s.nat Obj.LEAD_MODE ≠ 1 → Gives (.chapRequest r) s ((u.permit r.permission).armJudge.ebAsk r.eb))))) ∧
    (∀ chap : Nat, s.chapClock chap = { s with ch.clock := chap, ch.time := s.ch.time + (chap - s.ch.clock) }) ∧
    (s.chapState = 0 → Gives .sidePathMissing s s ∧ ∀ (good : Bool) (mv chap : Nat), Gives (.sidePathMessage good ⟨mv, chap⟩) s (s.chapClock chap)) ∧
    (s.chapState ≠ 0 → ∃ bad : State → State, (∀ x : State,
      let t : State := { x with ch.sideBad := x.ch.sideBad + 1 }
      bad x = if x.ch.sideBad + 1 = 3 then t.chapFail Kind.CHAP_ENVELOPE 5 none else t) ∧
      Gives .sidePathMissing s (bad s) ∧ ∀ mv chap : Nat,
        let o : State := ((s.chapClock chap).chapPedal 0).chapPedal 1
        Gives (.sidePathMessage false ⟨mv, chap⟩) s (bad (s.chapClock chap)) ∧
        Gives (.sidePathMessage true ⟨mv, chap⟩) s (({ o with
          ch.sideBad := 0, ch.ebReleased := if mv < 2000 then true else if 4000 < mv then false else o.ch.ebReleased } : State).each 18 fun x leg =>
            x.legCheck leg)) ∧
    (∀ (n : Fin 6) (chap : Nat) (o : State), o = s.chapClock chap →
      (o.rateOver n = true → Gives (.steerRateTimeout ⟨n, chap⟩) s (o.chapFail Kind.CHAP_ENVELOPE 2 (some n.val))) ∧
      (o.rateOver n = false → Gives (.steerRateTimeout ⟨n, chap⟩) s o) ∧
      ∀ slow : Prop, (slow ↔ o.chapHallValid n = true ∧ 10 * o.chapHallSpeed n < 9 * (o.ascThreshold n : Rat)) →
        (3 ≤ s.axState n → (slow ∨ s.chapSector n = 7) → Gives (.ascGrantWithdraw ⟨n, chap⟩) s ((o.axOffNow n).waltzAxis n)) ∧
        ((s.axState n < 3 ∨ (¬ slow ∧ s.chapSector n ≠ 7)) → Gives (.ascGrantWithdraw ⟨n, chap⟩) s o)) ∧
    (∀ high : Bool,
      (s.brakeWrong high = true → Gives (.brakeEnvelopeTimeout high) s (s.chapFail Kind.CHAP_ENVELOPE (if high then 3 else 4) (some s.ch.demand))) ∧
      (s.brakeWrong high = false → Gives (.brakeEnvelopeTimeout high) s s)) ∧
    (∀ found : Word,
      (found.toNat ≠ s.nat Obj.CHAP_SIG → 2 ≤ s.chapState →
        Gives (.chapConfigRecheck found) s (s.chapFail Kind.CHAP_CONFIG_SIG 2 (some found.toNat))) ∧
      ((found.toNat = s.nat Obj.CHAP_SIG ∨ s.chapState < 2) → Gives (.chapConfigRecheck found) s s)) ∧
    (s.chapState = 3 → s.peersLow = false → Gives .ebSilentRelease s (s.putN Obj.EB_DUTY 0)) ∧
    ((s.chapState ≠ 3 ∨ s.peersLow = true) → Gives .ebSilentRelease s s) ∧
    (∀ (kind qual : Nat) (d : Option Int), (s.chapState = 1 ∨ s.chapState = 2) →
      let u : State := s.chapFail kind qual d
      u.nat Obj.CHAP_STATE = 3 ∧ u.nat Obj.CHAP_CAUSE = qual * 256 + kind ∧ u.ch.request = 0 ∧ u.ch.lease = none ∧ u.ch.permission = none ∧
      (∀ b < 26, u.ch.armed.testBit b = false) ∧ u.n Obj.EB_DUTY = s.n Obj.EB_DUTY ∧
      (s.gateStuck = false → u.ch.leadOut = false))

/-- R381: while the watchdog is on, a period starts with the next challenge and period count; an answer before the window, or a wrong one, is an error of the
period (0x2, 0x3), a right one in the window takes one error away, one after the window or after a judgement changes nothing more, and a window that closes
unanswered is an error (0x1). Each error adds 2 and at WDG_LIMIT silences the chaperone with CHAP_WDG. The answer is the CRC-32C over the
challenge, the lane number and the period count; the register steps by taps 16, 14, 13 and 11 and never reaches 0 from another value. -/
def Obligations.WatchdogCountsErrors : Prop :=
  ∀ s : State,
    ((s.ch.wdg = false ∨ s.chapState ≠ 2 ∨ s.pw.sleep ≠ 0) → Gives .wdgPeriodStart s s ∧ Gives .wdgWindowClose s s ∧ ∀ a us eb, Gives (.wdgAnswer a us eb) s s) ∧
    (s.ch.wdg = true → s.chapState = 2 → s.pw.sleep = 0 →
      Gives .wdgPeriodStart s ({ s with ch.lfsr := lfsrNext s.ch.lfsr, ch.period := (s.ch.period + 1) % 256, ch.judged := false }.putN Obj.WDG_CHALLENGE
        (lfsrNext s.ch.lfsr)) ∧
      (s.ch.judged = true → Gives .wdgWindowClose s s) ∧ (s.ch.judged = false → Gives .wdgWindowClose s (s.wdgError 1)) ∧
      ∀ (a : Word) (us : Nat) (eb : Bool) (t : State), t = s.ebAsk eb →
        (s.ch.judged = true → Gives (.wdgAnswer a us eb) s t) ∧
        (s.ch.judged = false → 100 * us < s.nat Obj.WDG_OPEN * s.nat Obj.WDG_PERIOD → Gives (.wdgAnswer a us eb) s (t.wdgError 2)) ∧
        (s.ch.judged = false → s.nat Obj.WDG_OPEN * s.nat Obj.WDG_PERIOD ≤ 100 * us →
          (s.nat Obj.WDG_CLOSE * s.nat Obj.WDG_PERIOD < 100 * us → Gives (.wdgAnswer a us eb) s t) ∧
          (100 * us ≤ s.nat Obj.WDG_CLOSE * s.nat Obj.WDG_PERIOD →
            (a.toNat = crc32c (le 2 (s.nat Obj.WDG_CHALLENGE) ++ le 1 s.laneNo ++ le 1 s.ch.period) → Gives (.wdgAnswer a us eb) s
              ({ t with ch.judged := true }.putN Obj.WDG_ERRORS (max 0 (s.n Obj.WDG_ERRORS - 1)))) ∧
            (a.toNat ≠ crc32c (le 2 (s.nat Obj.WDG_CHALLENGE) ++ le 1 s.laneNo ++ le 1 s.ch.period) →
              Gives (.wdgAnswer a us eb) s (t.wdgError 3))))) ∧
    (∀ qual : Nat,
      let t : State := { s with ch.judged := true }.putN Obj.WDG_ERRORS (min (s.n Obj.WDG_ERRORS + 2) 255)
      (s.n Obj.WDG_ERRORS + 2 < s.n Obj.WDG_LIMIT → s.wdgError qual = t) ∧
      (s.n Obj.WDG_LIMIT ≤ s.n Obj.WDG_ERRORS + 2 → s.wdgError qual = t.chapFail Kind.CHAP_WDG qual (some (s.n Obj.WDG_CHALLENGE)))) ∧
    (∀ x : BitVec 16, x ≠ 0 → lfsrNext x.toNat ≠ 0 ∧ lfsrNext x.toNat < 65536)

/-- R378, R385, R386: CHAP_REFERENCE_OBSERVED on port A or B corrects the phase of the chaperone's own time (and of the waltz's entry with it), shows that it holds time, and one
on A, B or D takes the spares that the frame confirms to this lane and reopens its guardian, one on C changes nothing; GUARD_COAST_EXPIRY first shows the coast, and in a coast that stands
closes every port's windows (log 265); GUARDIAN_BLOCK and GUARDIAN_CUT count a transmission blocked or cut and raise it, for each port at most once per reel. -/
def Obligations.GuardianKeepsWindows : Prop :=
  (∀ (chap time : Nat) (confirms : List Nat) (s : State), Gives (.chapReferenceObserved ⟨2, chap, time, confirms⟩) s s) ∧
  (∀ (p : Fin 4) (chap time : Nat) (confirms : List Nat) (s : State), p.val ≤ 1 →
    let t := (s.chapClock chap).chapPhase time
    Gives (.chapReferenceObserved ⟨p, chap, time, confirms⟩) s (({ t with ch.spares := vset s.ch.spares p (sparesOf confirms (s.portAddr p)) } : State).putN Obj.GUARD_STATUS
      (s.nat Obj.GUARD_STATUS / 16 * 16 ||| 2 ^ (4 + p.val) ||| 64 : Nat)) ∧
    t.ch.time = time * 4 / 25 ∧ t.bit Obj.CHAP_TIME 0 = true ∧ t.bit Obj.CHAP_TIME 1 = false ∧
    t.ch.waltz.entry = shiftTime s.ch.waltz.entry (((time * 4 / 25 : Nat) - ((s.ch.time + (chap - s.ch.clock) : Nat) : Int)) * 25 / 4)) ∧
  (∀ (chap time : Nat) (confirms : List Nat) (s : State), Gives (.chapReferenceObserved ⟨3, chap, time, confirms⟩) s
    (({ s.chapClock chap with ch.spares := vset s.ch.spares 3 (sparesOf confirms (s.portAddr 3)) } : State).putN Obj.GUARD_STATUS
      (s.nat Obj.GUARD_STATUS % 8 + s.nat Obj.GUARD_STATUS / 16 * 16 ||| 128 : Nat))) ∧
  (∀ (confirms : List Nat) (addr k : Nat), (sparesOf confirms addr).testBit k = true ↔
    ∃ c, confirms[k]? = some c ∧ c.testBit 15 = true ∧ c % 128 = addr) ∧
  (∀ s : State, s.bit Obj.CHAP_TIME 1 = false → Gives .guardCoastExpiry s (s.putBit Obj.CHAP_TIME 1 true)) ∧
  (∀ s : State, s.bit Obj.CHAP_TIME 1 = true → Gives .guardCoastExpiry s
    ((s.putN Obj.GUARD_STATUS (s.nat Obj.GUARD_STATUS / 16 * 16 + 15 : Nat)).each 4 fun x p => x.guardRaise p 3 0)) ∧
  (∀ (p : Fin 4) (w : BitVec 8) (s : State), s.ch.guardRaised.testBit p = true →
    Gives (.guardianBlock p w) s (s.count Obj.GUARD_BLOCKS 32) ∧ Gives (.guardianCut p w) s (s.count Obj.GUARD_BLOCKS 32)) ∧
  (∀ (p : Fin 4) (w : BitVec 8) (s : State), s.ch.guardRaised.testBit p = false →
    let u : State := { s.count Obj.GUARD_BLOCKS 32 with ch.guardRaised := s.ch.guardRaised ||| 2 ^ p.val }
    Gives (.guardianBlock p w) s (u.chapRaise Kind.CHAP_GUARDIAN 1 (some (p.val * 2 ^ 28 + w.toNat : Nat))) ∧
    Gives (.guardianCut p w) s (u.chapRaise Kind.CHAP_GUARDIAN 2 (some (p.val * 2 ^ 28 + w.toNat : Nat))))

/-- R395–R401: the last waltz: it begins from OPERATE or SILENT with the lane's own and its partners' lines deasserted and the EB node released, refusing every request, with EB_OUT at
100 % and LAST_WALTZ 0x1; after the rank delay LEAD_OUT rises on quiet lines; the re-check yields to a lower lane or makes the holder,
which marks the steering axes whose hall code is invalid and drives the others; EB_OUT falls on the ramp, counted from the entry; after the ramp and the hold's
time, also where it is not the holder (log 191), the chaperone is DONE. -/
def Obligations.LastWaltzRuns : Prop :=
  (∀ x : State, x.waltzFinish = if x.chapState = 4 ∧ x.ch.waltz.rampDone = true ∧ x.ch.waltz.step = 0 ∧ x.ch.waltz.holdDone = true
    then x.putN Obj.CHAP_STATE 5 else x) ∧
  ∀ s : State,
    (∀ now : Nat,
      ((s.chapState = 2 ∨ s.chapState = 3) → s.ch.leadOut = false → s.peersLow = true → s.ch.ebReleased = true →
        let t : State := ((s.takeAbandon.chapRefuse.putN Obj.CHAP_STATE 4).putN Obj.WALTZ_TIME (now % 2 ^ 64 : Nat)).putN Obj.EB_DUTY 100
        let u : State := { t with ch.waltz := { entry := now, step := 1, holdDone := t.nat Obj.WALTZ_HOLD == 0 }, ch.time := now * 4 / 25 }
        Gives (.waltzWaitExpiry now) s (u.chapRaise Kind.LAST_WALTZ 1 (some (u.n Obj.LADDER_COUNT * 256 + u.laneNo))) ∧
        u.nat Obj.CHAP_STATE = 4 ∧ u.n Obj.EB_DUTY = 100 ∧ u.ch.request = 0 ∧ ∀ b < 26, u.ch.armed.testBit b = false) ∧
      (((s.chapState ≠ 2 ∧ s.chapState ≠ 3) ∨ s.ch.leadOut = true ∨ s.peersLow = false ∨ s.ch.ebReleased = false) →
        Gives (.waltzWaitExpiry now) s s) ∧
      ((s.chapState ≠ 4 ∨ s.ch.waltz.rampDone = true) → Gives (.ebRampPeriod now) s s) ∧
      (s.chapState = 4 → s.ch.waltz.rampDone = false → ∀ ramp left : Nat, ramp = s.nat Obj.EB_RAMP * 100000 →
        left = ramp - (now - s.ch.waltz.entry) → ∀ t : State, t = { s with ch.time := now * 4 / 25 } →
        (left = 0 → Gives (.ebRampPeriod now) s (t.putN Obj.EB_DUTY 0)) ∧
        (left ≠ 0 → ramp ≤ left → Gives (.ebRampPeriod now) s (t.putN Obj.EB_DUTY 100)) ∧
        (left ≠ 0 → left < ramp → Gives (.ebRampPeriod now) s (t.putN Obj.EB_DUTY (Config.roundQuot (100 * left : Nat) ramp))))) ∧
    ((s.chapState ≠ 4 ∨ s.ch.waltz.step ≠ 1) → Gives .waltzRankDelay s s) ∧
    (s.chapState = 4 → s.ch.waltz.step = 1 →
      (s.peersLow = true → Gives .waltzRankDelay s { s with ch.waltz.step := 2, ch.waltz.lower := false }.leadUp) ∧
      (s.peersLow = false → Gives .waltzRankDelay s (State.waltzFinish { s with ch.waltz.step := 0 }))) ∧
    ((s.chapState ≠ 4 ∨ s.ch.waltz.step ≠ 2) → Gives .waltzRecheck s s) ∧
    (s.chapState = 4 → s.ch.waltz.step = 2 →
      (s.ch.waltz.lower = true → Gives .waltzRecheck s (({ s with ch.waltz.step := 0 } : State).leadDown.waltzFinish)) ∧
      (s.ch.waltz.lower = false →
        let t : State := { s with ch.waltz.step := 0, ch.waltz.holder := true }
        (s.ch.waltz.holdDone = true → Gives .waltzRecheck s t.waltzFinish) ∧
        (s.ch.waltz.holdDone = false → Gives .waltzRecheck s (t.each 6 fun x n =>
          if x.bit Obj.CH_STEER_AXES n = true then
            if x.chapSector n = 7 then x.putBit Obj.WALTZ_RESULT (6 + n) true
            else { x with ch.waltz.sectors := vset x.ch.waltz.sectors n (x.chapSector n) }.waltzAxis n
          else x)))) ∧
    (s.chapState ≠ 4 → Gives .waltzHoldEnd s s ∧ Gives .ebRampEnd s s) ∧
    (s.chapState = 4 →
      let t : State := { s with ch.waltz.driven := 0, ch.waltz.toff := 0, ch.waltz.holdDone := true }
      let u : State := { s with ch.waltz.rampDone := true }.putN Obj.EB_DUTY 0
      Gives .waltzHoldEnd s t.waltzFinish ∧ Gives .ebRampEnd s u.waltzFinish) ∧
    (∀ n : Fin 6,
      (s.ch.waltz.toff.testBit n = true → Gives (.waltzToffEnd n) s { s with ch.waltz.toff := s.ch.waltz.toff - 2 ^ n.val }) ∧
      (s.ch.waltz.toff.testBit n = false → Gives (.waltzToffEnd n) s s))

/-! ### Ralune and Azsin. -/

/-- R23, R86, R417, R420, R433, R434: 20 µs before a window a lane that may send latches what its open window will carry, if it owns it or contends in it; at the start the owner sends
what was latched, or a null frame where that is nothing or its application restarts on A, B or D, and a contender starts its next frame of those latched; an entry to DOZE lets the
frames of an arbitrating window that has opened go on; in an arbitrating window a frame's end takes an own frame from the queue,
a claim also reaching the lane's own list of claims, and starts the next. A window that is not this lane's, not open or not there is left alone. -/
def Obligations.WindowsAreServed : Prop :=
  ∀ (s : State) (p : Fin 4) (w : Fin 24) (now : Nat),
    (s.window p w ((now + 2000) / s.beatCounts) = none → Gives (.frameLatch p w now) s s) ∧
    (∀ r idx, s.window p w ((now + 2000) / s.beatCounts) = some (r, idx) →
      ((s.maySend = false ∨ s.windowOpen p r idx = false) → Gives (.frameLatch p w now) s s) ∧
      (s.maySend = true → s.windowOpen p r idx = true →
        (r.type = 2 → Gives (.frameLatch p w now) s ((s.latchShared p r now).portMod p fun x => { x with ready := x.queue })) ∧
        (r.type ≠ 2 → s.ownsWindow p r idx = true → Gives (.frameLatch p w now) s (s.latchOwn p r now)) ∧
        (r.type ≠ 2 → s.ownsWindow p r idx = false → Gives (.frameLatch p w now) s s))) ∧
    (s.window p w (now / s.beatCounts) = none → Gives (.windowTransmit p w now) s s ∧ ∀ own, Gives (.frameTransmitted p w own now) s s) ∧
    (∀ r idx, s.window p w (now / s.beatCounts) = some (r, idx) →
      ((s.maySend = false ∨ s.windowOpen p r idx = false) → Gives (.windowTransmit p w now) s s) ∧
      (s.maySend = true → s.windowOpen p r idx = true →
        (r.type = 2 → Gives (.windowTransmit p w now) s
          ((s.portMod p fun x => { x with openAt := some (now / s.beatCounts * s.beatCounts + r.start) }).startFrame p r now (now + s.extent p r))) ∧
        (r.type ≠ 2 → s.ownsWindow p r idx = false → Gives (.windowTransmit p w now) s s) ∧
        (r.type ≠ 2 → s.ownsWindow p r idx = true → ∀ m, m = s.ownContent p r → (s.ld.restarting = false → m = Sparse.get (fun _ => []) (s.port p).latched r.window) ∧
          (s.ld.restarting = true → p.val ≠ 2 → m = []) ∧
          (m = [] → Gives (.windowTransmit p w now) s ((s.latch p r.window []).sendNull p r)) ∧
          (m ≠ [] → Gives (.windowTransmit p w now) s ((s.latch p r.window []).sendFrame p false 8 m)))) ∧
      (r.type ≠ 2 → ∀ own, Gives (.frameTransmitted p w own now) s s) ∧
      (r.type = 2 → ∀ own : Bool, ∃ t : State,
        ((own = false ∨ (s.port p).onBus = none) → t = s) ∧
        (∀ q, own = true → (s.port p).onBus = some q →
          let u : State := s.portMod p (fun x => { x with queue := x.queue.erase q, ready := x.ready.erase q, onBus := none })
          (q.1 = 1 → t = (u.claimSent p q.2).claimHeard p (u.portAddr p) (q.2.drop 4)) ∧ (q.1 ≠ 1 → t = u)) ∧
        ∀ at' : Nat, at' = now / t.beatCounts * t.beatCounts + r.start → ∀ may : Prop,
        (may ↔ t.sends = true ∧ (t.pw.entry ≠ 1 ∨ (t.port p).openAt = some at') ∧ t.windowOpen p r idx = true) →
        (¬ may → Gives (.frameTransmitted p w own now) s t) ∧ (may → Gives (.frameTransmitted p w own now) s (t.startFrame p r now (at' + t.extent p r)))))

/-- R407, R417, R421, R429, R434: any frame ends the wait of a cold start and the silence the chaperone measures; port D that is not in use takes nothing else, and a CAN XL frame with SEC or another SDT is not seen; a frame that no row accepts is counted as rejected;
an accepted one counts, a sender with this lane's address raises RALUNE_DUP_ID 0x2, a null frame does no more, and then its type decides: a claim is collected, Azsin messages go to
their connections, all others are done. -/
def Obligations.ReceivedFramesAreSorted : Prop :=
  ∀ (s : State) (p : Fin 4) (f : RxFrame) (now : Nat) (o : State),
    o = { (if (s.port p).cold = 1 then s.portMod p (fun x => { x with cold := 0 }) else s) with
      ch.silent := if s.ch.silent.testBit p = true then s.ch.silent - 2 ^ p.val else s.ch.silent } →
    ((p.val = 3 ∧ s.nat (Obj.PORT_ROLE 3) = 0) → Gives (.raluneFrameReceived p f now) s o) ∧
    ((p.val ≠ 3 ∨ s.nat (Obj.PORT_ROLE 3) ≠ 0) →
      (f.fd = false → f.foreign = false → (f.sec = true ∨ f.sdt.toNat ≠ s.nat (Obj.PORT_SDT p)) → Gives (.raluneFrameReceived p f now) s o) ∧
      ((f.fd = true ∨ f.foreign = true ∨ (f.sec = false ∧ f.sdt.toNat = s.nat (Obj.PORT_SDT p))) →
        (o.acceptRow p f = none → Gives (.raluneFrameReceived p f now) s (o.count (Obj.PORT_RX_REJECTS p) 32)) ∧
        ((o.acceptRow p f).isSome = true → ∃ (type sender : Nat) (a t : State),
          type = leNat (f.payload.take 1) ∧ sender = leNat ((f.payload.drop 2).take 1) ∧ a = o.portAccept p ∧
          (sender ≠ a.portAddr p → t = a) ∧
          (sender = a.portAddr p → t = a.raise (Src.port p) Kind.RALUNE_DUP_ID 2 (some (a.portAddr p : Int))) ∧
          ((leNat ((f.payload.drop 1).take 1)).testBit 0 = true → Gives (.raluneFrameReceived p f now) s t) ∧
          ((leNat ((f.payload.drop 1).take 1)).testBit 0 = false →
            (type = 4 → Gives (.raluneFrameReceived p f now) s (t.portMod p fun x => { x with
              claims := x.claims ++ [(leNat ((f.payload.drop 4).take 1), sender, leNat (((f.payload.drop 4).drop 2).take 4))] })) ∧
            (type = 2 → Gives (.raluneFrameReceived p f now) s (t.azReceive p now (f.payload.drop 4))) ∧
            (type ≠ 4 → type ≠ 2 → Gives (.raluneFrameReceived p f now) s t)))))

/-- R423, R425, R429–R432, R435: a reference that does not suit its port is rejected, one's own makes the lane the port's master on its own time or
its uplink's and shows its claims; another's is heard, raises RALUNE_DUP_ID 0x2 where its sender has this lane's address, checked for its signature and claims, and
corrects the lane's time where it may give it and is the better one; silence on A and B loses time; a candidate's cold start waits, delays and begins; the third collision bars a
candidate; a step due shifts the time; a claimant's silence clears its confirmation at the port's master. -/
def Obligations.ReferencesKeepTime : Prop :=
  ∀ s : State,
    (∀ (p : Fin 4) (f : RefFrame) (o : State), (f.own = true → o = s) → (f.own = false → o = s.frameStart p) →
      (o.refSuits p f = false → Gives (.referenceFrame p f) s (o.count (Obj.PORT_RX_REJECTS p) 32)) ∧
      (o.refSuits p f = true →
        let a : State := (o.portMod p fun x => { x with ref := some (f.prio, f.own), sinceRef := 0, confirms := f.confirms, collisions := 0 }).portAccept p
        let b : State := (if a.clk.joined = true ∧ a.bit (Obj.PORT_STATUS p) 2 = false then (a.putBit (Obj.PORT_STATUS p) 2 true).portMod p fun x => { x with announce := true } else a)
        let c : State := (if p.val = 0 then b.put Obj.CONFIRM_AB (.oct (f.confirms.flatMap (le 2))) else b)
        let d : State := (if p.val = 3 then c.put Obj.CONFIRM_D (.oct (f.confirms.flatMap (le 2))) else c)
        (f.own = true → Gives (.referenceFrame p f) s ((d.putMaster p 2).timeOwn.each 4 fun x n => x.claimSee p n)) ∧
        (f.own = false →
          let e : State := (if f.sender = d.portAddr p then d.raise (Src.port p) Kind.RALUNE_DUP_ID 2 (some (d.portAddr p : Int)) else d)
          let u : State := (if e.candidate p = true then e.putMaster p 1 else e)
          let v : State := (u.sigCheck p f.signature).each 4 (fun x n => x.claimSee p n)
          ∀ uplink better : Prop, (uplink ↔ v.clk.joined = true ∧ v.nat Obj.TIME_SOURCE = 4 ∧ p.val ∈ v.uplinks) →
            (better ↔ ∀ q pr, v.ra.used = some (q, pr) → f.prio < pr ∨ (f.prio = pr ∧ p.val < q)) →
            ∀ off : Int, off = (f.stamp : Int) - o.nat (Obj.PORT_PROP_NS p) - f.time * 10 →
            (uplink → Gives (.referenceFrame p f) s (v.uplinkGain p off (v.clk.now / v.beatCounts))) ∧
            (¬ uplink → v.givesTime p = true → better → Gives (.referenceFrame p f) s ((v.timeCorrect p f.prio off f.time).stepHear f.step)) ∧
            (¬ uplink → (v.givesTime p = false ∨ ¬ better) → Gives (.referenceFrame p f) s v)))) ∧
    (s.clk.joined = true → s.abSilent = true → Gives .syncTimeout s
      ((s.raise (Src.port 0) Kind.RALUNE_SYNC_LOST 1 (some ((min (s.port 0).sinceRef (s.port 1).sinceRef : Nat) : Int))).timeLost (Src.port 0)
        Kind.RALUNE_SYNC_LOST)) ∧
    ((s.clk.joined = false ∨ s.abSilent = false) → Gives .syncTimeout s s) ∧
    (∀ p : Fin 4,
      (∀ t : State, t = (if s.masterEn = true then { s with ch.silent := s.ch.silent ||| 2 ^ p.val } else s) →
        (s.candidate p = true → s.clk.joined = false → s.ra.timed = false → Gives (.coldStartSilence p) s (t.portMod p fun x => { x with cold := 1 })) ∧
        ((s.candidate p = false ∨ s.clk.joined = true ∨ s.ra.timed = true) → Gives (.coldStartSilence p) s t)) ∧
      ((s.port p).cold = 1 → Gives (.coldStartDelay p) s (s.portMod p fun x => { x with cold := 2 })) ∧
      ((s.port p).cold ≠ 1 → Gives (.coldStartDelay p) s s) ∧
      (∀ now : Nat,
        (s.candidate p = false → Gives (.referenceCollision p now) s s) ∧
        (s.candidate p = true →
          let t : State := s.portMod p (fun x => { x with collisions := (s.port p).collisions + 1, backoff := now + 100000 * s.nodeAddr })
          ((s.port p).collisions ≠ 2 → Gives (.referenceCollision p now) s t) ∧
          ((s.port p).collisions = 2 → Gives (.referenceCollision p now) s
            ((t.putMaster p 3).raise (Src.port p) Kind.RALUNE_DUP_ID 1 (some ((t.putMaster p 3).portAddr p : Int)))))) ∧
      (∀ idx : Fin 32,
        (s.masterState p = 2 → Gives (.spareSilence p idx) s (s.portMod p fun x => { x with confirms := x.confirms.set idx 0 })) ∧
        (s.masterState p ≠ 2 → Gives (.spareSilence p idx) s s))) ∧
    (s.ra.step = none → Gives .timeStepApply s s) ∧
    (∀ reel d, s.ra.step = some (reel, d) →
      let t : State := ((s.shiftTimes d).putN Obj.STEP_STATE 0).putN Obj.STEP_OFFSET 0
      let u : State := { t with ra.step := none, ra.deferred := none, ra.within := 0, ra.withinBefore := 0,
                                ra.ports := t.ra.ports.map (fun (x : RaPort) => { x with backoff := shiftTime x.backoff d }),
                                az.step := some (t.clk.now, d / 100) }
      (u.clk.joined = true → Gives .timeStepApply s (u.timeJoin u.clk.now)) ∧ (u.clk.joined = false → Gives .timeStepApply s u))

/-- R409, R452, R458, R460: a port that goes down marks its status by the reason and is raised, but for reason 0, if it was up; bus-off recovery judges it again; an announcement enters or renews the node list of its
port, of at most 126, and one with this lane's address and another serial raises RALUNE_DUP_ID 0x2; the repeat timer asks ports A, B and D for an announcement; an Azsin
consumer in RUN (0x1) or in WAIT since its start (0x2) times out; and forwarded messages that have waited too long are dropped and counted. -/
def Obligations.PortsAnnouncementsAndAzsin : Prop :=
  ∀ s : State,
    (∀ (p : Fin 4) (q : Fin 5) (elapsed : Nat),
      let a : State := (if q.val = 1 then s.putBit (Obj.PORT_STATUS p) 3 true else s)
      let b : State := (if q.val = 2 then a.putBit (Obj.PORT_STATUS p) 0 true else a)
      let c : State := (if q.val = 4 then b.putBit (Obj.PORT_STATUS p) 2 false else b)
      let d : State := c.putBit (Obj.PORT_STATUS p) 4 false
      (s.portUp p = true → q.val ≠ 0 → Gives (.portDown p q elapsed) s (d.raise (Src.port p) Kind.RALUNE_PORT_DOWN q.val (some (elapsed : Int)))) ∧
      ((s.portUp p = false ∨ q.val = 0) → Gives (.portDown p q elapsed) s d)) ∧
    (∀ p : Fin 4, Gives (.busOffRecovery p) s ((s.putBit (Obj.PORT_STATUS p) 3 false).portJudge p)) ∧
    (∀ (p : Fin 4) (addr : BitVec 7) (content : BitVec 192) (now : Nat),
      ((p.val = 2 ∨ (p.val = 3 ∧ s.nat (Obj.PORT_ROLE 3) = 0)) → Gives (.networkAnnouncement p addr content now) s s) ∧
      ((p.val ≠ 2 ∧ (p.val ≠ 3 ∨ s.nat (Obj.PORT_ROLE 3) ≠ 0)) → ∃ (row : List Byte) (rows : List (List Byte)) (t : State),
        row = le 1 addr.toNat ++ zeros 3 ++ le 24 content.toNat ++ le 4 (now / 100) ∧ rows = rowsOf 32 (s.oct (nodesKey p)) ∧
        ((∃ r ∈ rows, leNat (r.take 1) = addr.toNat) →
          t = s.put (nodesKey p) (.oct (rows.map fun r => if leNat (r.take 1) = addr.toNat then row else r).flatten)) ∧
        ((∀ r ∈ rows, leNat (r.take 1) ≠ addr.toNat) → rows.length < 126 → t = s.put (nodesKey p) (.oct (rows.flatten ++ row))) ∧
        ((∀ r ∈ rows, leNat (r.take 1) ≠ addr.toNat) → 126 ≤ rows.length → t = s) ∧
        (addr.toNat = t.portAddr p → content.toNat / 2 ^ 128 ≠ Config.serial.toNat →
          Gives (.networkAnnouncement p addr content now) s (t.raise (Src.port p) Kind.RALUNE_DUP_ID 2 (some (addr.toNat : Int)))) ∧
        ((addr.toNat ≠ t.portAddr p ∨ content.toNat / 2 ^ 128 = Config.serial.toNat) → Gives (.networkAnnouncement p addr content now) s t))) ∧
    ((s.nat Obj.ANNOUNCE_REPEAT = 0 ∨ s.clk.joined = false) → Gives .announceRepeatTimer s s) ∧
    (s.nat Obj.ANNOUNCE_REPEAT ≠ 0 → s.clk.joined = true → Gives .announceRepeatTimer s
      ([0, 1, 3].foldl (fun x p => x.portMod p fun y => { y with announce := true }) s)) ∧
    (∀ c : Fin 1024,
      (s.nat (Obj.AZ_ROLE c) = 2 → s.nat (Obj.AZ_STATE c) = 2 → Gives (.azsinTimeout c) s (s.azFail c Kind.AZSIN_TIMEOUT 1)) ∧
      (s.nat (Obj.AZ_ROLE c) = 2 → s.nat (Obj.AZ_STATE c) = 1 → Gives (.azsinTimeout c) s (s.azFail c Kind.AZSIN_TIMEOUT 2)) ∧
      ((s.nat (Obj.AZ_ROLE c) ≠ 2 ∨ (s.nat (Obj.AZ_STATE c) ≠ 1 ∧ s.nat (Obj.AZ_STATE c) ≠ 2)) → Gives (.azsinTimeout c) s s)) ∧
    (∃ late kept : List AzForward, late = s.az.queue.filter (fun f => decide (s.nat Obj.ROUTE_MAX_WAIT ≤ f.age)) ∧
      kept = s.az.queue.filter (fun f => decide (f.age < s.nat Obj.ROUTE_MAX_WAIT)) ∧
      Gives .routeWaitExpiry s ({ s with az.queue := kept }.putN Obj.ROUTE_DROP_WAIT ((s.n Obj.ROUTE_DROP_WAIT + late.length) % 2 ^ 32)))

/-! ### The stream port. -/

/-- R468–R470, R475: detection in state 1 starts training with TS1; the training sets of a host of version 0x01 bring a link up from state 2 unless its pause runs, with the lane's TS2 of its own
credits, the partner's credits, deskew and training time, fresh counters and a CREDIT for each class; training too long pauses on IDLE, raised once, until the pause's end trains anew; a loss while up ends the link, counts and is raised; credits returned are noted and
freed credits are told. A lost clock leads back to state 1, any other loss straight to training.

R471–R475, R478: with the link up the transmitter sends the first waiting frame whose credits are there, spending them and numbering it, or IDLE, and the recovery
loader resets the lane once its last answer is sent; a received frame frees its credits, is counted as an
error when its check fails, and otherwise is counted, its sequence followed, and Azsin messages and images passed on; a frame of a class that waits without credits is
raised; Azsin messages for the port are latched before each boundary; an image load left idle is discarded. -/
def Obligations.StreamPortRuns : Prop :=
  (
    ∀ s : State,
      (s.n Obj.STREAM_ENABLE ≠ 0 → s.domainUp 0 = true → s.streamState = 1 → Gives .streamClockDetect s ((s.putN Obj.STREAM_STATE 2).emit .ts1)) ∧
      ((s.n Obj.STREAM_ENABLE = 0 ∨ s.domainUp 0 = false ∨ s.streamState ≠ 1) → Gives .streamClockDetect s s) ∧
      (∀ (c0 c1 : BitVec 16) (skew us : BitVec 32) (version role : Byte),
        (s.streamState = 2 → s.sp.idle = false → version = 1 → role = 2 →
          let t : State := ((((s.emit (.ts2 512 1024 1 1)).putN Obj.STREAM_STATE 3).putN Obj.STREAM_PARTNER_CREDITS (c1.toNat * 65536 + c0.toNat : Nat)).putN Obj.STREAM_DESKEW skew.toNat).putN Obj.STREAM_TRAIN_TIME us.toNat
          Gives (.streamTsReceived c0 c1 ⟨skew, version, role⟩ us) s
            (({ t.holdoffCancel with sp := { gap := s.sp.gap } }.emit (.credit 0 0)).emit (.credit 1 0))) ∧
        ((s.streamState ≠ 2 ∨ s.sp.idle = true ∨ version ≠ 1 ∨ role ≠ 2) → Gives (.streamTsReceived c0 c1 ⟨skew, version, role⟩ us) s s)) ∧
      (∀ lanes : BitVec 4,
        (s.streamState = 2 → s.sp.idle = false →
          let t : State := (s.spMod (fun x => { x with idle := true, failed := true })).emit .idle
          (s.sp.failed = false → Gives (.streamTrainingTimeout lanes) s (t.raise Src.stream Kind.STREAM_LINK_DOWN 4 (some (lanes.toNat : Int)))) ∧
          (s.sp.failed = true → Gives (.streamTrainingTimeout lanes) s t)) ∧
        ((s.streamState ≠ 2 ∨ s.sp.idle = true) → Gives (.streamTrainingTimeout lanes) s s) ∧
        (∀ (q : Fin 6) (errors : Nat),
          (s.streamState = 3 → q.val ≠ 0 → q.val ≠ 4 →
            let t : State := (if q.val = 1 then s.linkEnd.putN Obj.STREAM_STATE 1 else (s.linkEnd.putN Obj.STREAM_STATE 2).emit .ts1).count Obj.STREAM_LINK_DOWNS 32
            let u : State := t.putN Obj.STREAM_CODE_ERRORS ((t.nat Obj.STREAM_CODE_ERRORS + errors) % 2 ^ 32 : Nat)
            Gives (.streamLinkLoss q lanes errors) s (u.raise Src.stream Kind.STREAM_LINK_DOWN q (some (lanes.toNat : Int)))) ∧
          ((s.streamState ≠ 3 ∨ q.val = 0 ∨ q.val = 4) → Gives (.streamLinkLoss q lanes errors) s s))) ∧
      (s.streamState = 2 → s.sp.idle = true → Gives .streamIdleEnd s (((s.spMod fun x => { x with idle := false }).putN Obj.STREAM_STATE 2).emit .ts1)) ∧
      ((s.streamState ≠ 2 ∨ s.sp.idle = false) → Gives .streamIdleEnd s s) ∧
      (∀ (c : Fin 2) (count : BitVec 16),
        (s.streamState = 3 → Gives (.creditColumn c count) s (s.spMod fun x => { x with returned := vset x.returned c count.toNat }) ∧
          Gives (.creditColumnSend c) s (s.emit (.credit c (vget s.sp.freed c)))) ∧
        (s.streamState ≠ 3 → Gives (.creditColumn c count) s s ∧ Gives (.creditColumnSend c) s s))) ∧ (
    ∀ s : State,
      (∀ now : Nat,
        (s.streamState ≠ 3 → Gives (.streamFrameSend now) s s) ∧
        (s.streamState = 3 →
          ∀ ready : Outgoing → Bool, (ready = fun f => decide (streamCredits f.payload.length ≤ s.creditsLeft (streamClass f.type))) →
            (∀ f, (s.waitingFrames now).find? ready = some f →
              let t : State := (s.frameTaken f).count Obj.STREAM_FRAMES_TX 32
              let u : State := t.spMod (fun x => { x with used := vmod x.used (streamClass f.type) fun n => (n + streamCredits f.payload.length) % 65536,
                                                          seqTx := vset x.seqTx (f.type - 1) ((vget s.sp.seqTx (f.type - 1) + 1) % 65536) })
              Gives (.streamFrameSend now) s (u.emit (.stream f.type f.flags (vget s.sp.seqTx (f.type - 1)) f.offset f.payload
                (streamCrc f.type f.flags (vget s.sp.seqTx (f.type - 1)) f.offset f.payload))).loaderDone) ∧
            ((s.waitingFrames now).find? ready = none → Gives (.streamFrameSend now) s (s.emit .idle))) ∧
        ((s.sp.reboot = true ∧ s.sp.image = []) → s.loaderDone = s.resetTo 4 s.pw.tick) ∧ ((s.sp.reboot = false ∨ s.sp.image ≠ []) → s.loaderDone = s) ∧
        (s.streamState = 3 → s.col.failSilent = false → s.appStopped = false → s.nat Obj.STREAM_NETWORK ≠ 0xFF →
          ∀ r, r = s.azCollect 4 8192 (fun _ => true) now → Gives (.streamAzsinLatch now) s (r.2.spMod fun x => { x with latched := r.1 })) ∧
        ((s.streamState ≠ 3 ∨ s.col.failSilent = true ∨ s.appStopped = true ∨ s.nat Obj.STREAM_NETWORK = 0xFF) → Gives (.streamAzsinLatch now) s s)) ∧
      (∀ c : Fin 2, ∀ mine : List Outgoing, mine = (s.waitingFrames s.clk.now).filter (fun f => streamClass f.type == c.val) →
        (s.streamState = 3 → (∃ f ∈ mine, s.creditsLeft c < streamCredits f.payload.length) → Gives (.streamCreditTimeout c) s
          (s.raise Src.stream Kind.STREAM_CREDIT_TIMEOUT (c + 1) (some (s.classWaiting c : Int)))) ∧
        ((s.streamState ≠ 3 ∨ ∀ f ∈ mine, streamCredits f.payload.length ≤ s.creditsLeft c) → Gives (.streamCreditTimeout c) s s)) ∧
      (∀ (f : StreamFrame) (now : Nat),
        (s.streamState ≠ 3 → Gives (.streamFrameReceived f now) s s) ∧
        (s.streamState = 3 → ∃ t u : State,
          t = (s.putN Obj.STREAM_CODE_ERRORS ((s.nat Obj.STREAM_CODE_ERRORS + f.codeErrors) % 2 ^ 32 : Nat)).spMod (fun x => { x with
            freed := vmod x.freed (streamClass f.type.toNat) fun n => (n + streamCredits f.payload.length) % 65536 }) ∧
          ((streamGood f = false ∨ streamValid f.type.toNat f.payload.length (f.flags.toNat.testBit 0) = false) →
            Gives (.streamFrameReceived f now) s (t.count Obj.STREAM_CRC_ERRORS 32)) ∧
          u = (t.count Obj.STREAM_FRAMES_RX 32).streamSeq f.type.toNat f.seq.toNat ∧
          (streamGood f = true → streamValid f.type.toNat f.payload.length (f.flags.toNat.testBit 0) = true →
            (f.type.toNat = 2 → Gives (.streamFrameReceived f now) s (u.azReceive 4 now f.payload)) ∧
            (f.type.toNat = 4 → Gives (.streamFrameReceived f now) s (u.imageFrame f)) ∧
            (f.type.toNat ≠ 2 → f.type.toNat ≠ 4 → Gives (.streamFrameReceived f now) s u)))) ∧
      Gives .imageLoadIdle s (s.spMod fun x => { x with load := none }))

/-! ### Memory and recorder. -/

/-- R485, R489–R495: a word read from an address that differs from its written address in any one bit gives an even-weight, non-zero syndrome, which is not corrected, while one wrong bit
of the data or of the check bits is; a read without an error, outside the memory, or by the application or the scrubber of what no start has initialised, does nothing; otherwise the error is logged; one that the syndrome
corrects counts and is watched, in the flash refreshed above 24 bits; an uncorrectable one, or a poisoned word, counts, is handled by its access, rewrites keep RAM, loses the entry whose copies failed or notes the
one that did, marks the slot page and retires its unit at once; a copied unit's remap serves, its poisoned words with it, and its commit retires it and raises PAGE_RETIRED where a spare was left; laps of what is scrubbed and the watch
list keep their times; a descriptor starts a DMA channel and its completion ends it.

R501: with an event open a page of 32 rows is stored once they are recorded, and an error in its ring read is taken as every other, an uncorrectable one ending the event; after its last row the rest is
stored and the trailer written; the trailer's end completes the header with the CRC-32C of the stored rows; the erase's end clears the next slot and opens an event that waits. With no event nothing happens. -/
def Obligations.MemoriesAndRecorderKeep : Prop :=
  (
    (∀ (data : Quad) (word k : Nat), word < 2 ^ 29 → k < 29 → ∃ y : Byte, y = syndromeOf data (checkBits data word) (word ^^^ 2 ^ k) ∧
      y ≠ 0 ∧ ones8 y.toNat % 2 = 0 ∧ oneBit y = false) ∧
    (∀ (data : Quad) (check : Byte) (word k : Nat), check = checkBits data word →
      syndromeOf data check word = 0 ∧ (k < 64 → oneBit (syndromeOf (data ^^^ BitVec.twoPow 64 k) check word) = true) ∧
      (k < 8 → oneBit (syndromeOf data (check ^^^ BitVec.twoPow 8 k) word) = true)) ∧
    ∀ s : State,
      (∀ (e : EccError) (t : State), t = s.eccLogged e →
        (((e.found = false ∧ s.poisons e = false) ∨ s.mayRead e = false) → Gives (.eccError e) s s) ∧
        (e.found = true → s.mayRead e = true → e.corrected = true → s.poisons e = false →
          let u : State := (t.count (Obj.CORR_COUNT e.m) 32).memMod (fun x => { x with corrected := vmod x.corrected e.m (· + 1) })
          (e.m.val = 10 → e.bits.toNat ≤ 24 → Gives (.eccError e) s u) ∧
          (e.m.val = 10 → 24 < e.bits.toNat → Gives (.eccError e) s (u.emit (.refresh e.addr.toNat))) ∧
          (e.m.val ≠ 10 → Gives (.eccError e) s (u.watchTake e.m e.addr.toNat))) ∧
        (s.mayRead e = true → ((e.found = true ∧ e.corrected = false) ∨ s.poisons e = true) → ∃ u v x y z : State,
          u = (t.count (Obj.UNCORR_COUNT e.m) 32).eccBad e ∧ v = (if e.m.val = 8 then u.keepRewrite else u) ∧
          (e.lost = none → x = v) ∧ (∀ key, e.lost = some key → x = v.flashLost key) ∧
          (e.copy = none → y = x) ∧ (∀ key, e.copy = some key → y = x.copyLost key) ∧
          (e.page = none → z = y) ∧ (∀ q, e.page = some q → z = y.pageBad q) ∧
          Gives (.eccError e) s (z.retire e.m e.addr.toNat 1))) ∧
      (∀ (m : Fin 11) (base : BitVec 32),
        (∀ here : Remap → Bool, (here = fun r => r.m == m.val && r.base == base.toNat && r.mirror) →
          Gives (.remapCopyDone m base) s (s.memMod fun x => { x with
            poisoned := x.poisoned ++ (x.remaps.filter here).flatMap fun r => r.poisoned.map fun w => (m.val, w)
            remaps := x.remaps.map fun r => if here r then { r with copied := true } else r })) ∧
        (∀ found, found = s.me.remaps.find? (fun r => r.m == m.val && r.base == base.toNat && r.copied) →
          (found = none → Gives (.retirementCommit m base) s s) ∧
          (∀ r, found = some r →
            let t : State := (s.memMod fun x => { x with remaps := x.remaps.filter fun y => !(y.m == r.m && y.base == r.base) }).retireRow r
            (r.spare = 0xFF → Gives (.retirementCommit m base) s t) ∧
            (r.spare ≠ 0xFF → Gives (.retirementCommit m base) s
              (t.raise (memSrc r.m) Kind.PAGE_RETIRED (if r.m = 9 then 1 else 2) (some (r.base : Int)))))) ∧
        Gives (.watchEntryAgeOut m base) s (s.watchPut (s.me.watch.filter fun w =>
          !(w.m == m.val && w.word == base.toNat && decide (w.since + 86400 < s.nat Obj.OPERATING_SECONDS)))) ∧
        (s.scrubs m = false → Gives (.scrubLapEnd m base) s s ∧ Gives (.scrubLapLimitExpiry m) s s) ∧
        (s.scrubs m = true → Gives (.scrubLapEnd m base) s (((s.putN (Obj.SCRUB_LAP_LAST m) base.toNat).putN (Obj.SCRUB_LAP_WORST m)
          (max (s.nat (Obj.SCRUB_LAP_WORST m)) base.toNat : Nat)).memMod fun x => { x with slow := vset x.slow m false })) ∧
        (vget s.me.slow m = true → Gives (.scrubLapLimitExpiry m) s s) ∧
        (s.scrubs m = true → vget s.me.slow m = false →
          let t : State := s.memMod (fun x => { x with slow := vset x.slow m true })
          Gives (.scrubLapLimitExpiry m) s (t.raise (memSrc m) Kind.SCRUB_SLOW m (some (t.n (Obj.SCRUB_LAP_LIMIT m)))))) ∧
      (∀ ch : Fin 16,
        (∀ d : Descriptor,
          let t : State := s.memMod (fun x => { x with desc := vset x.desc ch (some d) })
          (d.words = 0 → Gives (.dmaDescriptorWrite ch d) s (t.dmaPut ch 0 0 2 0)) ∧
          (d.words ≠ 0 → Gives (.dmaDescriptorWrite ch d) s (t.dmaPut ch 0 0 1 (8 * d.words.toNat)))) ∧
        (s.dmaState ch = 1 → Gives (.dmaComplete ch) s (s.dmaPut ch 0 0 2 0)) ∧ (s.dmaState ch ≠ 1 → Gives (.dmaComplete ch) s s))) ∧ (
    ∀ s : State,
      (s.rc.event = none → Gives .recordPostEnd s s ∧ Gives .commitTrailerDone s s ∧ ∀ bad, Gives (.commitPageWrite bad) s s) ∧
      (∀ e, s.rc.event = some e → ∀ have' : Nat, have' = (vget s.rc.slots e.slot).length →
        (∀ bad : EccError, Gives (.commitPageWrite (some bad)) s (s.eccTake { bad with m := 9, access := 3, app := false, channel := 1 }).pageWrite) ∧
        (∀ bad : EccError, bad.found = true → s.mayRead (copierRead bad) = true → (copierRead bad).corrected = false →
          (s.eccTake (copierRead bad)).pageWrite.rc.event = none ∧ (s.eccTake (copierRead bad)).pageWrite.rc.erasing = true) ∧
        (have' + 32 ≤ e.total → e.first + have' + 32 ≤ s.rc.total → Gives (.commitPageWrite none) s (s.eventStore e 32)) ∧
        ((e.total < have' + 32 ∨ s.rc.total < e.first + have' + 32) → Gives (.commitPageWrite none) s s) ∧
        (e.first + e.total ≤ s.rc.total → s.rc.trailer = false → Gives .recordPostEnd s
          ((s.eventStore e (e.total - have')).recMod fun r => { r with trailer := true })) ∧
        ((s.rc.total < e.first + e.total ∨ s.rc.trailer = true) → Gives .recordPostEnd s s) ∧
        (s.rc.trailer = true → Gives .commitTrailerDone s
          (s.putHeader e 1 (crc32c ((vget s.rc.slots e.slot).flatMap fun r => r.flatMap fun w => le 4 w.toNat))).eventEnd) ∧
        (s.rc.trailer = false → Gives .commitTrailerDone s s)) ∧
      (s.rc.erasing = false → Gives .slotEraseDone s s) ∧
      (s.rc.erasing = true → ∃ t u : State, t = s.recMod (fun r => { r with erasing := false }) ∧
        (∀ n, t.eventSlot = some n → t.rc.event = none → u = t.slotErase n) ∧
        ((t.eventSlot = none ∨ t.rc.event.isSome = true) → u = t) ∧
        (∀ e, u.rc.waiting = some e → u.rc.event = none → Gives .slotEraseDone s (u.eventOpen e)) ∧
        ((u.rc.waiting = none ∨ u.rc.event.isSome = true) → Gives .slotEraseDone s u)))

/-! ### Collector, temperature and the hour. -/

/-- R508, R515, R516, R518–R521, R526: wired CRITICAL lines start one reaction, that of the lowest source; a queued message, unless it must wait for the log, is counted, logged, offered to the recorder and trace, and
opens or updates its row, where a follow's keeper at once acknowledges THERMAL_LIMIT and every keeper a MAJOR uncorrectable error; the MAJOR timer of an open row escalates it; an acknowledgement of its present sequence stops the timer, but of a lead's THERMAL_LIMIT; a MINOR or acknowledged row clears once its cause has gone; the log and
the hourly values are committed.

R542–R544, R547: each governor sample takes the hotter sensor, keeps its peak, forms the next level, and raises THERMAL_WARN from 140 °C and by a disagreement above 10 K, THERMAL_LIMIT from 150 °C, each until it
has fallen back by its hysteresis; under 140 °C stages that were shut stay off but may be armed again; 160 °C in a sample or at a sensor shuts every stage and counts, once. -/
def Obligations.FaultsAndTemperatureAreHandled : Prop :=
  (
    ∀ s : State,
      (s.col.lines = [] → Gives .criticalLine s s) ∧
      (∀ m l, s.col.lines = m :: l → ∃ x ∈ m :: l, (∀ y ∈ m :: l, x.src ≤ y.src) ∧
        Gives .criticalLine s
          (({ s with col := { s.col with lines := [], reacting := some (x.src, x.kind) } }.rowsCritical (m :: l)).criticalReaction x.src x.kind x.qual)) ∧
      ((s.col.queue = [] ∨ s.logBlocked = true) → Gives .faultMessage s s) ∧
      (∀ m q, s.col.queue = m :: q → s.logBlocked = false → ∃ a b c d : State,
        a = (s.queuePop.count (Obj.KIND_COUNT m.kind) 32).logAdd 0 false m ∧ b = (a.recFault m).traceFault m.kind m.cls ∧
        (m.cls = 0 → c = b) ∧ (m.cls ≠ 0 → b.row m.src m.kind = none → c = b.rowOpen m) ∧
        (m.cls ≠ 0 → (b.row m.src m.kind).isSome = true → c = b.rowUpdate m) ∧
        (((m.kind = Kind.THERMAL_LIMIT ∧ c.role = 1) ∨ (m.cls = 2 ∧ (m.kind = Kind.ECC_UNCORR_FETCH ∨ m.kind = Kind.ECC_UNCORR_DATA))) →
          d = c.rowAck m.src m.kind m.seq) ∧
        ((m.kind ≠ Kind.THERMAL_LIMIT ∨ c.role ≠ 1) → (m.cls ≠ 2 ∨ (m.kind ≠ Kind.ECC_UNCORR_FETCH ∧ m.kind ≠ Kind.ECC_UNCORR_DATA)) → d = c) ∧
        (d.col.reacting = some (m.src, m.kind) → m.cls = 3 → Gives .faultMessage s ({ d with col := { d.col with reacting := none } }.lastCritical m)) ∧
        ((d.col.reacting ≠ some (m.src, m.kind) ∨ m.cls ≠ 3) → Gives .faultMessage s d)) ∧
      (∀ (src : BitVec 10) (kind seq : Byte),
        (s.row src.toNat kind.toNat = none →
          Gives (.faultReactExpiry src kind) s s ∧ Gives (.faultAcknowledge src kind seq) s s ∧ Gives (.faultRowClear src kind) s s) ∧
        (∀ r, s.row src.toNat kind.toNat = some r →
          (r.state = 2 → Gives (.faultReactExpiry src kind) s
            ((s.rowMod src.toNat kind.toNat fun r => { r with state := 5 }).escalate r.last)) ∧
          (r.state ≠ 2 → Gives (.faultReactExpiry src kind) s s) ∧
          (r.state = 2 → r.last.seq = seq.toNat → (kind.toNat ≠ Kind.THERMAL_LIMIT ∨ s.ld.leading = false) → Gives (.faultAcknowledge src kind seq) s
            ((s.rowMod src.toNat kind.toNat fun r => { r with state := 3 }).logAdd 2 false r.last)) ∧
          ((r.state ≠ 2 ∨ r.last.seq ≠ seq.toNat ∨ (kind.toNat = Kind.THERMAL_LIMIT ∧ s.ld.leading = true)) → Gives (.faultAcknowledge src kind seq) s s) ∧
          ((r.state = 1 ∨ r.state = 3) → s.causeStands src.toNat kind.toNat = false → Gives (.faultRowClear src kind) s
            (s.rowFree src.toNat kind.toNat)) ∧
          (((r.state ≠ 1 ∧ r.state ≠ 3) ∨ s.causeStands src.toNat kind.toNat = true) → Gives (.faultRowClear src kind) s s))) ∧
      Gives .faultLogCommit s s.logCommit ∧
      Gives .hourlyCommit s (((s.commit Obj.OPERATING_SECONDS).commit Obj.GOV_TIME_L1).commit Obj.GOV_TIME_L2)) ∧ (
    ∀ s : State,
      (∀ t1 t2 : BitVec 16, ∃ (t : Int) (a b c : State), t = max t1.toInt t2.toInt ∧
        a = s.govClock.putN Obj.TJ_POWER t ∧ b = a.putN Obj.TJ_POWER_PEAK (max (a.n Obj.TJ_POWER_PEAK) t) ∧
        c = ((((b.thMod fun x => { x with coming := govLevel x.coming t }).thermalRaise 0 (decide (140 ≤ t)) (decide (t < 135)) t).thermalRaise 2
          (decide (10 < (t1.toInt - t2.toInt).natAbs)) (decide ((t1.toInt - t2.toInt).natAbs < 5)) t).thermalRaise 3 (decide (150 ≤ t)) (decide (t < 145)) t).thermalRaise
          5 false (decide (t < 155)) t ∧
        (c.th.shut = true → t < 140 → Gives (.governorSample t1 t2) s (c.stagesOff.thMod fun x => { x with shut := false })) ∧
        ((c.th.shut = true → 140 ≤ t → Gives (.governorSample t1 t2) s c)) ∧
        (c.th.shut = false → t < 160 → Gives (.governorSample t1 t2) s c) ∧
        (c.th.shut = false → 160 ≤ t → Gives (.governorSample t1 t2) s
          (((c.stagesOff.thMod fun x => { x with shut := true }).count Obj.STAGE_SHUTDOWNS 32).thermalRaise 5 true false t))) ∧
      (∀ t : BitVec 16,
        ((s.th.shut = true ∨ t.toInt < 160) → Gives (.stageShutdown t) s s) ∧
        (s.th.shut = false → 160 ≤ t.toInt → Gives (.stageShutdown t) s
          (((s.stagesOff.thMod fun x => { x with shut := true }).count Obj.STAGE_SHUTDOWNS 32).thermalRaise 5 true false t.toInt))))

/-! ### The dictionary service. -/

/-- R128, R131, R141–R144: a read opens with the value as it stands, whole in its answer where it fits the transport's segment, and otherwise as a transfer whose segments must be asked for in order; a tag in use, too many
transfers, an entry that is not there or cannot be read, a wrong tag, kind or offset abort with the code of the rule. A lane that does not serve the client, or
a message over a transport that is not its client's, gets no answer. -/
def Obligations.ReadsAreServed : Prop :=
  ∀ (s : State) (p : Pdu),
    (s.reaches p = false → Gives (.readInit p) s s ∧ Gives (.readSeg p) s s ∧ Gives (.abort p) s s ∧ Gives (.unknownService p) s s) ∧
    (s.reaches p = true →
      (s.transfer p.writer.client p.tag.toNat).isSome = true → Gives (.readInit p) s (s.breakTransfer p 0x05010001)) ∧
    (s.reaches p = true → s.transfer p.writer.client p.tag.toNat = none →
      ∀ full : Prop, (full ↔ 8 ≤ s.se.transfers.length ∨ 2 ≤ (s.se.transfers.filter fun t => t.client == p.writer.client).length) →
        (full → Gives (.readInit p) s (s.breakTransfer p 0x05010003)) ∧
        (¬ full →
          (rowOf (pduKey p) = none → indexExists (pduKey p / 256) = false → Gives (.readInit p) s (s.abort p 0x06010001)) ∧
          (rowOf (pduKey p) = none → indexExists (pduKey p / 256) = true → Gives (.readInit p) s (s.abort p 0x06010002)) ∧
          (∀ r, rowOf (pduKey p) = some r → r.acc = .wo → Gives (.readInit p) s (s.abort p 0x06020002)) ∧
          (∀ r, rowOf (pduKey p) = some r → r.acc ≠ .wo → ∀ (bytes : List Byte) (t : State),
            (bytes, t) = s.readBytes p.writer.client (pduKey p) →
            (bytes.length ≤ segLimit p.via → Gives (.readInit p) s (t.answer p 0x81 1 bytes.length bytes)) ∧
            (segLimit p.via < bytes.length → Gives (.readInit p) s
              ((t.putTransfer (newTransfer p false bytes bytes.length (segLimit p.via) false)).answer p 0x81 0 bytes.length
                (bytes.take (segLimit p.via)))))) ∧
        Gives (.readSeg p) s (s.abort p 0x05010001)) ∧
    (∀ t, s.reaches p = true → s.transfer p.writer.client p.tag.toNat = some t →
      (t.write = true → Gives (.readSeg p) s (s.breakTransfer p 0x05010001)) ∧
      (t.write = false → t.total < p.word.toNat → Gives (.readSeg p) s (s.breakTransfer p 0x06040004)) ∧
      (t.write = false → p.word.toNat ≤ t.total → p.word.toNat ≠ t.sent → Gives (.readSeg p) s (s.breakTransfer p 0x05010001)) ∧
      (t.write = false → p.word.toNat ≤ t.total → p.word.toNat = t.sent →
        (t.total ≤ t.sent + segLimit p.via → Gives (.readSeg p) s
          ((s.endTransfer t.client t.tag).answer p 0x82 1 t.sent ((t.data.drop t.sent).take (segLimit p.via)))) ∧
        (t.sent + segLimit p.via < t.total → Gives (.readSeg p) s
          ((s.putTransfer { t with sent := t.sent + segLimit p.via }).answer p 0x82 0 t.sent ((t.data.drop t.sent).take (segLimit p.via)))))) ∧
    (s.reaches p = true → Gives (.abort p) s (s.endTransfer p.writer.client p.tag.toNat) ∧ Gives (.unknownService p) s (s.abort p 0x05010004)) ∧
    (∀ (c : Client) (tag : Byte),
      (s.transfer c tag.toNat = none → Gives (.segTimeout c tag) s s) ∧
      (∀ t, s.transfer c tag.toNat = some t →
        (s.serves c = true → Gives (.segTimeout c tag) s
          ((s.endTransfer c tag.toNat).sendPdu t.via (pduBytes 0x7F t.tag t.key 0 0x05010002 []))) ∧
        (s.serves c = false → Gives (.segTimeout c tag) s (s.endTransfer c tag.toNat))))

/-- R141–R144, R148: a write opens with its total length and first data, which must keep to it; the last segment in order and length carries the whole write out, answered by its code
or by the abort the write was judged with; a write that used a session that has closed is rejected. -/
def Obligations.WritesAreServed : Prop :=
  ∀ (s : State) (p : Pdu),
    (s.reaches p = false → Gives (.writeInit p) s s ∧ Gives (.writeSeg p) s s) ∧
    (s.reaches p = true →
      ∀ (keeps : Nat → Nat → Prop), (keeps = fun before total => p.data.length ≤ segLimit p.via ∧ before + p.data.length ≤ total ∧
        (pduLast p = true ↔ before + p.data.length = total)) →
      (s.initJudge p ≠ 0 → Gives (.writeInit p) s (s.breakTransfer p (s.initJudge p))) ∧
      (s.initJudge p = 0 → ¬ keeps 0 p.word.toNat → Gives (.writeInit p) s (s.abort p 0x06040001)) ∧
      (s.initJudge p = 0 → keeps 0 p.word.toNat →
        (pduLast p = false → Gives (.writeInit p) s
          ((s.putTransfer (newTransfer p true p.data p.word.toNat 0 (needsSession (pduKey p) p.data))).answer p 0x83 0 p.data.length [])) ∧
        (pduLast p = true → ∀ (t : State) (code : Nat), (t, code) = s.dictWrite p.writer (pduKey p) p.data →
          (code = 0 → Gives (.writeInit p) s (t.answer p 0x83 0 p.data.length [])) ∧ (code ≠ 0 → Gives (.writeInit p) s (t.abort p code)))) ∧
      (s.transfer p.writer.client p.tag.toNat = none → Gives (.writeSeg p) s (s.abort p 0x05010001)) ∧
      (∀ x, s.transfer p.writer.client p.tag.toNat = some x →
        (x.write = false → Gives (.writeSeg p) s (s.breakTransfer p 0x05010001)) ∧
        (x.write = true → x.closed = true → x.session = true → Gives (.writeSeg p) s (s.breakTransfer p 0x06030001)) ∧
        (x.write = true → (x.closed = false ∨ x.session = false) →
          (p.word.toNat ≠ x.data.length → Gives (.writeSeg p) s (s.breakTransfer p 0x05010001)) ∧
          (p.word.toNat = x.data.length → ¬ keeps x.data.length x.total → Gives (.writeSeg p) s (s.breakTransfer p 0x06040001)) ∧
          (p.word.toNat = x.data.length → keeps x.data.length x.total →
            (pduLast p = false → Gives (.writeSeg p) s ((s.putTransfer { x with data := x.data ++ p.data }).answer p 0x84 0 x.data.length [])) ∧
            (pduLast p = true → ∀ (t : State) (code : Nat),
              (t, code) = (s.endTransfer x.client x.tag).dictWrite p.writer x.key (x.data ++ p.data) →
              (code = 0 → Gives (.writeSeg p) s (t.answer p 0x84 0 x.data.length [])) ∧ (code ≠ 0 → Gives (.writeSeg p) s (t.abort p code)))))))

/-- R135–R139, R148: a session opens by challenge and response, refused while a lockout runs, while another client owns the session or challenge, for a code that is none, a key that is not there, or COMMISSION before
a second of rest; the right HMAC of QVDS, the code, the serial and both nonces opens it, if it may still open, and is answered by the first half of the lane's own; a wrong one counts and locks out; its owner, idleness
or the owner's silence closes it, which discards what was not confirmed; a challenge and a lockout lapse. -/
def Obligations.SessionsOpenAndClose : Prop :=
  ∀ s : State,
    (∀ (p : Pdu) (code : Byte) (nonce : BitVec 128),
      (s.reaches p = false → Gives (.sessionOpen p code nonce) s s) ∧
      (s.reaches p = true →
        (0 < s.se.lockout → Gives (.sessionOpen p code nonce) s (s.abort p 0x06070002)) ∧
        (s.se.lockout = 0 → s.heldByOther p.writer.client = true → Gives (.sessionOpen p code nonce) s (s.abort p 0x06070003)) ∧
        (s.se.lockout = 0 → s.heldByOther p.writer.client = false → ∃ t : State,
          (s.se.owner = none → t = s.dropChallenge) ∧ (s.se.owner.isSome = true → t = s.sessionEnd.dropChallenge) ∧
          ((code.toNat = 0 ∨ 3 < code.toNat) → Gives (.sessionOpen p code nonce) s (t.abort p 0x06040003)) ∧
          (1 ≤ code.toNat → code.toNat ≤ 3 →
            (t.bit Obj.KEY_STATE (code.toNat - 1) = false → Gives (.sessionOpen p code nonce) s (t.abort p 0x06070001)) ∧
            (t.bit Obj.KEY_STATE (code.toNat - 1) = true →
              (code.toNat = 3 → (t.pw.rest < 100000000 ∨ t.atRest = false) → Gives (.sessionOpen p code nonce) s (t.abort p 0x06060002)) ∧
              ((code.toNat ≠ 3 ∨ (100000000 ≤ t.pw.rest ∧ t.atRest = true)) → Gives (.sessionOpen p code nonce) s
                (t.challenge p code.toNat (le 16 nonce.toNat)))))))) ∧
    (∀ (p : Pdu) (mac : BitVec 256),
      (s.reaches p = false → Gives (.sessionResponse p mac) s s) ∧
      (s.reaches p = true →
        (s.se.challenge = none → Gives (.sessionResponse p mac) s (s.abort p 0x06070001)) ∧
        (∀ c code lane nonce, s.se.challenge = some (c, code, lane, nonce) →
          (c ≠ p.writer.client → Gives (.sessionResponse p mac) s (s.abort p 0x06070003)) ∧
          (c = p.writer.client → ∀ key : List Byte, key = s.oct (Obj.KEY_SERVICE + (code - 1)) →
            (hmac key (challengeText 0x53 code lane nonce) = le 32 mac.toNat → s.openJudge code ≠ 0 → Gives (.sessionResponse p mac) s
              (s.dropChallenge.abort p (s.openJudge code))) ∧
            (hmac key (challengeText 0x53 code lane nonce) = le 32 mac.toNat → s.openJudge code = 0 → Gives (.sessionResponse p mac) s
              ((s.sessionStart c code).answer p 0x91 0 0 ((hmac key (challengeText 0x4C code lane nonce)).take 16)) ∧
              (s.sessionStart c code).nat Obj.SESSION_CURRENT = code ∧ (s.sessionStart c code).se.owner = some c ∧
              (s.sessionStart c code).n Obj.AUTH_FAILS = 0 ∧ (s.sessionStart c code).se.challenge = none) ∧
            (hmac key (challengeText 0x53 code lane nonce) ≠ le 32 mac.toNat →
              Gives (.sessionResponse p mac) s (s.authFail.abort p 0x06070001) ∧ s.authFail.se.challenge = none))))) ∧
    (∀ p : Pdu,
      (s.reaches p = false → Gives (.sessionClose p) s s) ∧
      (s.reaches p = true →
        (s.se.owner = some p.writer.client → Gives (.sessionClose p) s (s.sessionEnd.answer p 0x92 0 0 [])) ∧
        (s.se.owner = none → Gives (.sessionClose p) s (s.answer p 0x92 0 0 [])) ∧
        (s.se.owner ≠ none → s.se.owner ≠ some p.writer.client → Gives (.sessionClose p) s (s.abort p 0x06070003)))) ∧
    (s.se.owner.isSome = true → Gives .sessionIdleExpiry s s.sessionEnd) ∧ (s.se.owner = none → Gives .sessionIdleExpiry s s) ∧
    ((∃ net node, s.se.owner = some (.ralune net node)) → Gives .sessionOwnerSilence s s.sessionEnd) ∧
    ((s.se.owner = none ∨ s.se.owner = some .stream) → Gives .sessionOwnerSilence s s) ∧
    Gives .challengeLapse s { s with se := { s.se with challenge := none } } ∧
    Gives .lockoutExpiry s { s with se := { s.se with lockout := 0 } } ∧
    (s.sessionEnd.staged = [] ∧ s.sessionEnd.se.owner = none ∧ s.sessionEnd.nat Obj.SESSION_CURRENT = 0 ∧
      ∀ t ∈ s.sessionEnd.se.transfers, t.session = true → s.se.owner = some t.client → t.closed = true)

/-! ### Stores. -/

/-- The dictionary reads back what was written and leaves every other entry alone, and no stored entry equals its default, so that two dictionaries that read alike from
canonical form are the same data; the same of the nodes. -/
def Obligations.StoresReadBackWhatIsWritten : Prop :=
  ∀ (s : State) (k : Nat) (v : Val) (x : Int),
    (s.put k v).get k = v ∧ (∀ j, j ≠ k → (s.put k v).get j = s.get j) ∧ (s.put k v).nodes = s.nodes ∧
    (Sparse.wf defaultOf s.dict = true → Sparse.wf defaultOf (s.put k v).dict = true) ∧
    (s.setNode k x).nodeW k = BitVec.ofInt 32 x ∧ (∀ j, j ≠ k → (s.setNode k x).nodeW j = s.nodeW j) ∧ (s.setNode k x).dict = s.dict ∧
    (Sparse.wf nodeReset s.nodes = true → Sparse.wf nodeReset (s.setNode k x).nodes = true) ∧
    ∀ t : State, Sparse.wf defaultOf s.dict = true → Sparse.wf defaultOf t.dict = true → (∀ j, s.get j = t.get j) → s.dict = t.dict
end

