-- ==== Sys2Proof/Laws/Store.lean ====
section
/-!
SUPPORT. Laws/Store.lean: the sparse store: a write is read back and leaves every other key alone, and every operation keeps the
canonical form; byte strings give back the numbers they encode.
-/
namespace Sys2Proof.Laws

section
variable {β : Type} [DecidableEq β]

omit [DecidableEq β] in
@[simp] theorem find_nil (k : Nat) : Sparse.find ([] : Sparse β) k = none := rfl

omit [DecidableEq β] in
theorem find_cons (e : Nat × β) (l : Sparse β) (k : Nat) :
    Sparse.find (e :: l) k = if e.1 = k then some e.2 else Sparse.find l k := by
  unfold Sparse.find
  by_cases h : e.1 = k <;> simp [h]

omit [DecidableEq β] in
theorem find_erase_self (l : Sparse β) (k : Nat) : Sparse.find (Sparse.erase l k) k = none := by
  induction l with
  | nil => rfl
  | cons e l ih =>
    unfold Sparse.erase at *
    by_cases h : e.1 = k
    · simpa [h] using ih
    · simp [h, find_cons, ih]

omit [DecidableEq β] in
theorem find_erase_ne (l : Sparse β) {j k : Nat} (hk : j ≠ k) :
    Sparse.find (Sparse.erase l k) j = Sparse.find l j := by
  induction l with
  | nil => rfl
  | cons e l ih =>
    unfold Sparse.erase at *
    by_cases h : e.1 = k
    · have : e.1 ≠ j := fun x => hk (x.symm.trans h)
      simp [h, find_cons, ih, hk.symm]
    · simp [h, find_cons, ih]

omit [DecidableEq β] in
theorem find_insert_ne (l : Sparse β) {j k : Nat} (v : β) (hk : j ≠ k) :
    Sparse.find (Sparse.insert l k v) j = Sparse.find l j := by
  induction l with
  | nil => simp [Sparse.insert, find_cons, hk.symm]
  | cons e l ih =>
    unfold Sparse.insert
    split
    · simp [find_cons, ih]
    · simp [find_cons, hk.symm]

omit [DecidableEq β] in
theorem find_insert_self (l : Sparse β) (k : Nat) (v : β) (h : Sparse.find l k = none) :
    Sparse.find (Sparse.insert l k v) k = some v := by
  induction l with
  | nil => simp [Sparse.insert, find_cons]
  | cons e l ih =>
    rw [find_cons] at h
    have he : e.1 ≠ k := by
      intro x
      simp [x] at h
    have hl : Sparse.find l k = none := by simpa [he] using h
    unfold Sparse.insert
    split
    · simp [find_cons, he, ih hl]
    · simp [find_cons]

/-- A written key reads as its new value. -/
@[simp] theorem get_set_self (d : Nat → β) (l : Sparse β) (k : Nat) (v : β) : Sparse.get d (Sparse.set d l k v) k = v := by
  unfold Sparse.get Sparse.set
  split
  · next h => simp [find_erase_self, h]
  · simp [find_insert_self _ _ _ (find_erase_self l k)]

/-- A write leaves every other key alone. -/
theorem get_set_ne (d : Nat → β) (l : Sparse β) {j k : Nat} (v : β) (h : j ≠ k) :
    Sparse.get d (Sparse.set d l k v) j = Sparse.get d l j := by
  unfold Sparse.get Sparse.set
  split
  · rw [find_erase_ne l h]
  · rw [find_insert_ne _ v h, find_erase_ne l h]

/-- What any key reads as after a write. -/
theorem get_set (d : Nat → β) (l : Sparse β) (j k : Nat) (v : β) :
    Sparse.get d (Sparse.set d l k v) j = if j = k then v else Sparse.get d l j := by
  by_cases h : j = k
  · simp [h]
  · simp [h, get_set_ne d l v h]

/-! ### The canonical form. -/

omit [DecidableEq β] in
theorem rising_iff (l : Sparse β) : Sparse.rising l = true ↔ l.Pairwise fun a b => a.1 < b.1 := by
  induction l with
  | nil => simp [Sparse.rising]
  | cons a l ih =>
    cases l with
    | nil => simp [Sparse.rising]
    | cons b l =>
      simp only [Sparse.rising, Bool.and_eq_true, decide_eq_true_eq, ih]
      constructor
      · rintro ⟨hab, h⟩
        refine List.pairwise_cons.2 ⟨?_, h⟩
        intro c hc
        rcases List.mem_cons.1 hc with rfl | hc
        · exact hab
        · exact hab.trans (List.rel_of_pairwise_cons h hc)
      · intro h
        exact ⟨List.rel_of_pairwise_cons h (List.mem_cons_self ..), (List.pairwise_cons.1 h).2⟩

theorem wf_iff (d : Nat → β) (l : Sparse β) :
    Sparse.wf d l = true ↔ (l.Pairwise fun a b => a.1 < b.1) ∧ ∀ e ∈ l, e.2 ≠ d e.1 := by
  simp [Sparse.wf, rising_iff]

omit [DecidableEq β] in
theorem mem_insert {l : Sparse β} {k : Nat} {v : β} {e : Nat × β} (h : e ∈ Sparse.insert l k v) : e = (k, v) ∨ e ∈ l := by
  induction l with
  | nil => simpa [Sparse.insert] using h
  | cons a l ih =>
    unfold Sparse.insert at h
    split at h
    · rcases List.mem_cons.1 h with h | h
      · exact .inr (by simp [h])
      · rcases ih h with h | h
        · exact .inl h
        · exact .inr (List.mem_cons_of_mem _ h)
    · simpa using h

omit [DecidableEq β] in
theorem insert_rising {l : Sparse β} {k : Nat} {v : β} (h : l.Pairwise fun a b => a.1 < b.1) (hk : ∀ e ∈ l, e.1 ≠ k) :
    (Sparse.insert l k v).Pairwise fun a b => a.1 < b.1 := by
  induction l with
  | nil => simp [Sparse.insert]
  | cons a l ih =>
    have ha := List.pairwise_cons.1 h
    unfold Sparse.insert
    split
    · next hlt =>
      refine List.pairwise_cons.2 ⟨?_, ih ha.2 fun e he => hk e (List.mem_cons_of_mem _ he)⟩
      intro e he
      rcases mem_insert he with rfl | he
      · exact hlt
      · exact ha.1 e he
    · next hge =>
      have hak := hk a (List.mem_cons_self ..)
      refine List.pairwise_cons.2 ⟨?_, h⟩
      intro e he
      rcases List.mem_cons.1 he with rfl | he
      · show k < e.1
        omega
      · have := ha.1 e he
        show k < e.1
        omega

/-- Erasing keeps the canonical form. -/
theorem erase_wf (d : Nat → β) (l : Sparse β) (k : Nat) (h : Sparse.wf d l = true) : Sparse.wf d (Sparse.erase l k) = true := by
  rw [wf_iff] at *
  exact ⟨h.1.filter _, fun e he => h.2 e (List.mem_of_mem_filter he)⟩

/-- Leaving out entries keeps the canonical form. -/
theorem filter_wf (d : Nat → β) (l : Sparse β) (p : Nat × β → Bool) (h : Sparse.wf d l = true) :
    Sparse.wf d (l.filter p) = true := by
  rw [wf_iff] at *
  exact ⟨h.1.filter _, fun e he => h.2 e (List.mem_of_mem_filter he)⟩

/-- A write keeps the canonical form. -/
theorem set_wf (d : Nat → β) (l : Sparse β) (k : Nat) (v : β) (h : Sparse.wf d l = true) : Sparse.wf d (Sparse.set d l k v) = true := by
  have he := erase_wf d l k h
  unfold Sparse.set
  split
  · exact he
  · next hv =>
    rw [wf_iff] at *
    refine ⟨insert_rising he.1 ?_, ?_⟩
    · intro e hm
      have := (List.mem_filter.1 hm).2
      simpa using this
    · intro e hm
      rcases mem_insert hm with rfl | hm
      · exact hv
      · exact he.2 e hm

end

/-! ### Little-endian numbers (R127). -/

@[simp] theorem length_le (n v : Nat) : (le n v).length = n := by
  induction n generalizing v with
  | zero => rfl
  | succ n ih => simp [le, ih]

/-- The bytes of a number give it back, modulo their width. -/
theorem leNat_le (n v : Nat) : leNat (le n v) = v % 256 ^ n := by
  induction n generalizing v with
  | zero => simp [le, leNat, Nat.mod_one]
  | succ n ih =>
    simp only [le, leNat, ih, BitVec.toNat_ofNat]
    rw [show (256 : Nat) ^ (n + 1) = 256 * 256 ^ n from by ring, Nat.mod_mul, show (2 : Nat) ^ 8 = 256 from rfl]

end Sys2Proof.Laws
end

