-- ==== Sys2Proof/Laws/State.lean ====
section
/-!
SUPPORT. Laws/State.lean: what each named update of the state leaves alone, field by field, and what a read finds after it.
-/
namespace Sys2Proof.Laws
open Sys2Proof.Machine

variable (s : State)

/-! ### An entry's new value. -/

@[simp] theorem put_pending (k : Nat) (v : Val) : (s.put k v).pending = s.pending := rfl
@[simp] theorem put_out (k : Nat) (v : Val) : (s.put k v).out = s.out := rfl
@[simp] theorem put_free (k : Nat) (v : Val) : (s.put k v).free = s.free := rfl
@[simp] theorem put_sealedSet (k : Nat) (v : Val) : (s.put k v).sealedSet = s.sealedSet := rfl
@[simp] theorem put_staged (k : Nat) (v : Val) : (s.put k v).staged = s.staged := rfl
@[simp] theorem put_confirmed (k : Nat) (v : Val) : (s.put k v).confirmed = s.confirmed := rfl
@[simp] theorem put_uncommitted (k : Nat) (v : Val) : (s.put k v).uncommitted = s.uncommitted := rfl
@[simp] theorem put_nodes (k : Nat) (v : Val) : (s.put k v).nodes = s.nodes := rfl
@[simp] theorem put_nodeWrites (k : Nat) (v : Val) : (s.put k v).nodeWrites = s.nodeWrites := rfl
@[simp] theorem put_clk (k : Nat) (v : Val) : (s.put k v).clk = s.clk := rfl
@[simp] theorem put_col (k : Nat) (v : Val) : (s.put k v).col = s.col := rfl
@[simp] theorem put_ms (k : Nat) (v : Val) : (s.put k v).ms = s.ms := rfl
@[simp] theorem put_fb (k : Nat) (v : Val) : (s.put k v).fb = s.fb := rfl
@[simp] theorem put_sn (k : Nat) (v : Val) : (s.put k v).sn = s.sn := rfl
@[simp] theorem put_hall (k : Nat) (v : Val) : (s.put k v).hall = s.hall := rfl
@[simp] theorem put_ob (k : Nat) (v : Val) : (s.put k v).ob = s.ob := rfl
@[simp] theorem put_lp (k : Nat) (v : Val) : (s.put k v).lp = s.lp := rfl
@[simp] theorem put_ax (k : Nat) (v : Val) : (s.put k v).ax = s.ax := rfl
@[simp] theorem put_link (k : Nat) (v : Val) : (s.put k v).link = s.link := rfl
@[simp] theorem put_mx (k : Nat) (v : Val) : (s.put k v).mx = s.mx := rfl
@[simp] theorem put_vs (k : Nat) (v : Val) : (s.put k v).vs = s.vs := rfl
@[simp] theorem put_sol (k : Nat) (v : Val) : (s.put k v).sol = s.sol := rfl
@[simp] theorem put_su (k : Nat) (v : Val) : (s.put k v).su = s.su := rfl
@[simp] theorem put_bl (k : Nat) (v : Val) : (s.put k v).bl = s.bl := rfl
@[simp] theorem put_st (k : Nat) (v : Val) : (s.put k v).st = s.st := rfl
@[simp] theorem put_ch (k : Nat) (v : Val) : (s.put k v).ch = s.ch := rfl
@[simp] theorem put_ld (k : Nat) (v : Val) : (s.put k v).ld = s.ld := rfl
@[simp] theorem put_az (k : Nat) (v : Val) : (s.put k v).az = s.az := rfl
@[simp] theorem put_ra (k : Nat) (v : Val) : (s.put k v).ra = s.ra := rfl
@[simp] theorem put_rc (k : Nat) (v : Val) : (s.put k v).rc = s.rc := rfl
@[simp] theorem put_me (k : Nat) (v : Val) : (s.put k v).me = s.me := rfl
@[simp] theorem put_pw (k : Nat) (v : Val) : (s.put k v).pw = s.pw := rfl
@[simp] theorem put_th (k : Nat) (v : Val) : (s.put k v).th = s.th := rfl
@[simp] theorem put_sp (k : Nat) (v : Val) : (s.put k v).sp = s.sp := rfl
@[simp] theorem put_se (k : Nat) (v : Val) : (s.put k v).se = s.se := rfl

/-! ### An integer entry's new value. -/

@[simp] theorem putN_pending (k : Nat) (v : Int) : (s.putN k v).pending = s.pending := rfl
@[simp] theorem putN_out (k : Nat) (v : Int) : (s.putN k v).out = s.out := rfl
@[simp] theorem putN_free (k : Nat) (v : Int) : (s.putN k v).free = s.free := rfl
@[simp] theorem putN_sealedSet (k : Nat) (v : Int) : (s.putN k v).sealedSet = s.sealedSet := rfl
@[simp] theorem putN_staged (k : Nat) (v : Int) : (s.putN k v).staged = s.staged := rfl
@[simp] theorem putN_confirmed (k : Nat) (v : Int) : (s.putN k v).confirmed = s.confirmed := rfl
@[simp] theorem putN_uncommitted (k : Nat) (v : Int) : (s.putN k v).uncommitted = s.uncommitted := rfl
@[simp] theorem putN_nodes (k : Nat) (v : Int) : (s.putN k v).nodes = s.nodes := rfl
@[simp] theorem putN_nodeWrites (k : Nat) (v : Int) : (s.putN k v).nodeWrites = s.nodeWrites := rfl
@[simp] theorem putN_clk (k : Nat) (v : Int) : (s.putN k v).clk = s.clk := rfl
@[simp] theorem putN_col (k : Nat) (v : Int) : (s.putN k v).col = s.col := rfl
@[simp] theorem putN_ms (k : Nat) (v : Int) : (s.putN k v).ms = s.ms := rfl
@[simp] theorem putN_fb (k : Nat) (v : Int) : (s.putN k v).fb = s.fb := rfl
@[simp] theorem putN_sn (k : Nat) (v : Int) : (s.putN k v).sn = s.sn := rfl
@[simp] theorem putN_hall (k : Nat) (v : Int) : (s.putN k v).hall = s.hall := rfl
@[simp] theorem putN_ob (k : Nat) (v : Int) : (s.putN k v).ob = s.ob := rfl
@[simp] theorem putN_lp (k : Nat) (v : Int) : (s.putN k v).lp = s.lp := rfl
@[simp] theorem putN_ax (k : Nat) (v : Int) : (s.putN k v).ax = s.ax := rfl
@[simp] theorem putN_link (k : Nat) (v : Int) : (s.putN k v).link = s.link := rfl
@[simp] theorem putN_mx (k : Nat) (v : Int) : (s.putN k v).mx = s.mx := rfl
@[simp] theorem putN_vs (k : Nat) (v : Int) : (s.putN k v).vs = s.vs := rfl
@[simp] theorem putN_sol (k : Nat) (v : Int) : (s.putN k v).sol = s.sol := rfl
@[simp] theorem putN_su (k : Nat) (v : Int) : (s.putN k v).su = s.su := rfl
@[simp] theorem putN_bl (k : Nat) (v : Int) : (s.putN k v).bl = s.bl := rfl
@[simp] theorem putN_st (k : Nat) (v : Int) : (s.putN k v).st = s.st := rfl
@[simp] theorem putN_ch (k : Nat) (v : Int) : (s.putN k v).ch = s.ch := rfl
@[simp] theorem putN_ld (k : Nat) (v : Int) : (s.putN k v).ld = s.ld := rfl
@[simp] theorem putN_az (k : Nat) (v : Int) : (s.putN k v).az = s.az := rfl
@[simp] theorem putN_ra (k : Nat) (v : Int) : (s.putN k v).ra = s.ra := rfl
@[simp] theorem putN_rc (k : Nat) (v : Int) : (s.putN k v).rc = s.rc := rfl
@[simp] theorem putN_me (k : Nat) (v : Int) : (s.putN k v).me = s.me := rfl
@[simp] theorem putN_pw (k : Nat) (v : Int) : (s.putN k v).pw = s.pw := rfl
@[simp] theorem putN_th (k : Nat) (v : Int) : (s.putN k v).th = s.th := rfl
@[simp] theorem putN_sp (k : Nat) (v : Int) : (s.putN k v).sp = s.sp := rfl
@[simp] theorem putN_se (k : Nat) (v : Int) : (s.putN k v).se = s.se := rfl

/-! ### A BOOL entry's new value. -/

@[simp] theorem putB_pending (k : Nat) (b : Bool) : (s.putB k b).pending = s.pending := rfl
@[simp] theorem putB_out (k : Nat) (b : Bool) : (s.putB k b).out = s.out := rfl
@[simp] theorem putB_free (k : Nat) (b : Bool) : (s.putB k b).free = s.free := rfl
@[simp] theorem putB_sealedSet (k : Nat) (b : Bool) : (s.putB k b).sealedSet = s.sealedSet := rfl
@[simp] theorem putB_staged (k : Nat) (b : Bool) : (s.putB k b).staged = s.staged := rfl
@[simp] theorem putB_confirmed (k : Nat) (b : Bool) : (s.putB k b).confirmed = s.confirmed := rfl
@[simp] theorem putB_uncommitted (k : Nat) (b : Bool) : (s.putB k b).uncommitted = s.uncommitted := rfl
@[simp] theorem putB_nodes (k : Nat) (b : Bool) : (s.putB k b).nodes = s.nodes := rfl
@[simp] theorem putB_nodeWrites (k : Nat) (b : Bool) : (s.putB k b).nodeWrites = s.nodeWrites := rfl
@[simp] theorem putB_clk (k : Nat) (b : Bool) : (s.putB k b).clk = s.clk := rfl
@[simp] theorem putB_col (k : Nat) (b : Bool) : (s.putB k b).col = s.col := rfl
@[simp] theorem putB_ms (k : Nat) (b : Bool) : (s.putB k b).ms = s.ms := rfl
@[simp] theorem putB_fb (k : Nat) (b : Bool) : (s.putB k b).fb = s.fb := rfl
@[simp] theorem putB_sn (k : Nat) (b : Bool) : (s.putB k b).sn = s.sn := rfl
@[simp] theorem putB_hall (k : Nat) (b : Bool) : (s.putB k b).hall = s.hall := rfl
@[simp] theorem putB_ob (k : Nat) (b : Bool) : (s.putB k b).ob = s.ob := rfl
@[simp] theorem putB_lp (k : Nat) (b : Bool) : (s.putB k b).lp = s.lp := rfl
@[simp] theorem putB_ax (k : Nat) (b : Bool) : (s.putB k b).ax = s.ax := rfl
@[simp] theorem putB_link (k : Nat) (b : Bool) : (s.putB k b).link = s.link := rfl
@[simp] theorem putB_mx (k : Nat) (b : Bool) : (s.putB k b).mx = s.mx := rfl
@[simp] theorem putB_vs (k : Nat) (b : Bool) : (s.putB k b).vs = s.vs := rfl
@[simp] theorem putB_sol (k : Nat) (b : Bool) : (s.putB k b).sol = s.sol := rfl
@[simp] theorem putB_su (k : Nat) (b : Bool) : (s.putB k b).su = s.su := rfl
@[simp] theorem putB_bl (k : Nat) (b : Bool) : (s.putB k b).bl = s.bl := rfl
@[simp] theorem putB_st (k : Nat) (b : Bool) : (s.putB k b).st = s.st := rfl
@[simp] theorem putB_ch (k : Nat) (b : Bool) : (s.putB k b).ch = s.ch := rfl
@[simp] theorem putB_ld (k : Nat) (b : Bool) : (s.putB k b).ld = s.ld := rfl
@[simp] theorem putB_az (k : Nat) (b : Bool) : (s.putB k b).az = s.az := rfl
@[simp] theorem putB_ra (k : Nat) (b : Bool) : (s.putB k b).ra = s.ra := rfl
@[simp] theorem putB_rc (k : Nat) (b : Bool) : (s.putB k b).rc = s.rc := rfl
@[simp] theorem putB_me (k : Nat) (b : Bool) : (s.putB k b).me = s.me := rfl
@[simp] theorem putB_pw (k : Nat) (b : Bool) : (s.putB k b).pw = s.pw := rfl
@[simp] theorem putB_th (k : Nat) (b : Bool) : (s.putB k b).th = s.th := rfl
@[simp] theorem putB_sp (k : Nat) (b : Bool) : (s.putB k b).sp = s.sp := rfl
@[simp] theorem putB_se (k : Nat) (b : Bool) : (s.putB k b).se = s.se := rfl

/-! ### A bit of an entry. -/

@[simp] theorem putBit_pending (k i : Nat) (b : Bool) : (s.putBit k i b).pending = s.pending := rfl
@[simp] theorem putBit_out (k i : Nat) (b : Bool) : (s.putBit k i b).out = s.out := rfl
@[simp] theorem putBit_free (k i : Nat) (b : Bool) : (s.putBit k i b).free = s.free := rfl
@[simp] theorem putBit_sealedSet (k i : Nat) (b : Bool) : (s.putBit k i b).sealedSet = s.sealedSet := rfl
@[simp] theorem putBit_staged (k i : Nat) (b : Bool) : (s.putBit k i b).staged = s.staged := rfl
@[simp] theorem putBit_confirmed (k i : Nat) (b : Bool) : (s.putBit k i b).confirmed = s.confirmed := rfl
@[simp] theorem putBit_uncommitted (k i : Nat) (b : Bool) : (s.putBit k i b).uncommitted = s.uncommitted := rfl
@[simp] theorem putBit_nodes (k i : Nat) (b : Bool) : (s.putBit k i b).nodes = s.nodes := rfl
@[simp] theorem putBit_nodeWrites (k i : Nat) (b : Bool) : (s.putBit k i b).nodeWrites = s.nodeWrites := rfl
@[simp] theorem putBit_clk (k i : Nat) (b : Bool) : (s.putBit k i b).clk = s.clk := rfl
@[simp] theorem putBit_col (k i : Nat) (b : Bool) : (s.putBit k i b).col = s.col := rfl
@[simp] theorem putBit_ms (k i : Nat) (b : Bool) : (s.putBit k i b).ms = s.ms := rfl
@[simp] theorem putBit_fb (k i : Nat) (b : Bool) : (s.putBit k i b).fb = s.fb := rfl
@[simp] theorem putBit_sn (k i : Nat) (b : Bool) : (s.putBit k i b).sn = s.sn := rfl
@[simp] theorem putBit_hall (k i : Nat) (b : Bool) : (s.putBit k i b).hall = s.hall := rfl
@[simp] theorem putBit_ob (k i : Nat) (b : Bool) : (s.putBit k i b).ob = s.ob := rfl
@[simp] theorem putBit_lp (k i : Nat) (b : Bool) : (s.putBit k i b).lp = s.lp := rfl
@[simp] theorem putBit_ax (k i : Nat) (b : Bool) : (s.putBit k i b).ax = s.ax := rfl
@[simp] theorem putBit_link (k i : Nat) (b : Bool) : (s.putBit k i b).link = s.link := rfl
@[simp] theorem putBit_mx (k i : Nat) (b : Bool) : (s.putBit k i b).mx = s.mx := rfl
@[simp] theorem putBit_vs (k i : Nat) (b : Bool) : (s.putBit k i b).vs = s.vs := rfl
@[simp] theorem putBit_sol (k i : Nat) (b : Bool) : (s.putBit k i b).sol = s.sol := rfl
@[simp] theorem putBit_su (k i : Nat) (b : Bool) : (s.putBit k i b).su = s.su := rfl
@[simp] theorem putBit_bl (k i : Nat) (b : Bool) : (s.putBit k i b).bl = s.bl := rfl
@[simp] theorem putBit_st (k i : Nat) (b : Bool) : (s.putBit k i b).st = s.st := rfl
@[simp] theorem putBit_ch (k i : Nat) (b : Bool) : (s.putBit k i b).ch = s.ch := rfl
@[simp] theorem putBit_ld (k i : Nat) (b : Bool) : (s.putBit k i b).ld = s.ld := rfl
@[simp] theorem putBit_az (k i : Nat) (b : Bool) : (s.putBit k i b).az = s.az := rfl
@[simp] theorem putBit_ra (k i : Nat) (b : Bool) : (s.putBit k i b).ra = s.ra := rfl
@[simp] theorem putBit_rc (k i : Nat) (b : Bool) : (s.putBit k i b).rc = s.rc := rfl
@[simp] theorem putBit_me (k i : Nat) (b : Bool) : (s.putBit k i b).me = s.me := rfl
@[simp] theorem putBit_pw (k i : Nat) (b : Bool) : (s.putBit k i b).pw = s.pw := rfl
@[simp] theorem putBit_th (k i : Nat) (b : Bool) : (s.putBit k i b).th = s.th := rfl
@[simp] theorem putBit_sp (k i : Nat) (b : Bool) : (s.putBit k i b).sp = s.sp := rfl
@[simp] theorem putBit_se (k i : Nat) (b : Bool) : (s.putBit k i b).se = s.se := rfl

/-! ### A wrapping counter. -/

@[simp] theorem count_pending (k n : Nat) : (s.count k n).pending = s.pending := rfl
@[simp] theorem count_out (k n : Nat) : (s.count k n).out = s.out := rfl
@[simp] theorem count_free (k n : Nat) : (s.count k n).free = s.free := rfl
@[simp] theorem count_sealedSet (k n : Nat) : (s.count k n).sealedSet = s.sealedSet := rfl
@[simp] theorem count_staged (k n : Nat) : (s.count k n).staged = s.staged := rfl
@[simp] theorem count_confirmed (k n : Nat) : (s.count k n).confirmed = s.confirmed := rfl
@[simp] theorem count_uncommitted (k n : Nat) : (s.count k n).uncommitted = s.uncommitted := rfl
@[simp] theorem count_nodes (k n : Nat) : (s.count k n).nodes = s.nodes := rfl
@[simp] theorem count_nodeWrites (k n : Nat) : (s.count k n).nodeWrites = s.nodeWrites := rfl
@[simp] theorem count_clk (k n : Nat) : (s.count k n).clk = s.clk := rfl
@[simp] theorem count_col (k n : Nat) : (s.count k n).col = s.col := rfl
@[simp] theorem count_ms (k n : Nat) : (s.count k n).ms = s.ms := rfl
@[simp] theorem count_fb (k n : Nat) : (s.count k n).fb = s.fb := rfl
@[simp] theorem count_sn (k n : Nat) : (s.count k n).sn = s.sn := rfl
@[simp] theorem count_hall (k n : Nat) : (s.count k n).hall = s.hall := rfl
@[simp] theorem count_ob (k n : Nat) : (s.count k n).ob = s.ob := rfl
@[simp] theorem count_lp (k n : Nat) : (s.count k n).lp = s.lp := rfl
@[simp] theorem count_ax (k n : Nat) : (s.count k n).ax = s.ax := rfl
@[simp] theorem count_link (k n : Nat) : (s.count k n).link = s.link := rfl
@[simp] theorem count_mx (k n : Nat) : (s.count k n).mx = s.mx := rfl
@[simp] theorem count_vs (k n : Nat) : (s.count k n).vs = s.vs := rfl
@[simp] theorem count_sol (k n : Nat) : (s.count k n).sol = s.sol := rfl
@[simp] theorem count_su (k n : Nat) : (s.count k n).su = s.su := rfl
@[simp] theorem count_bl (k n : Nat) : (s.count k n).bl = s.bl := rfl
@[simp] theorem count_st (k n : Nat) : (s.count k n).st = s.st := rfl
@[simp] theorem count_ch (k n : Nat) : (s.count k n).ch = s.ch := rfl
@[simp] theorem count_ld (k n : Nat) : (s.count k n).ld = s.ld := rfl
@[simp] theorem count_az (k n : Nat) : (s.count k n).az = s.az := rfl
@[simp] theorem count_ra (k n : Nat) : (s.count k n).ra = s.ra := rfl
@[simp] theorem count_rc (k n : Nat) : (s.count k n).rc = s.rc := rfl
@[simp] theorem count_me (k n : Nat) : (s.count k n).me = s.me := rfl
@[simp] theorem count_pw (k n : Nat) : (s.count k n).pw = s.pw := rfl
@[simp] theorem count_th (k n : Nat) : (s.count k n).th = s.th := rfl
@[simp] theorem count_sp (k n : Nat) : (s.count k n).sp = s.sp := rfl
@[simp] theorem count_se (k n : Nat) : (s.count k n).se = s.se := rfl

/-! ### A counter that holds. -/

@[simp] theorem countHold_pending (k : Nat) (v : Int) : (s.countHold k v).pending = s.pending := rfl
@[simp] theorem countHold_out (k : Nat) (v : Int) : (s.countHold k v).out = s.out := rfl
@[simp] theorem countHold_free (k : Nat) (v : Int) : (s.countHold k v).free = s.free := rfl
@[simp] theorem countHold_sealedSet (k : Nat) (v : Int) : (s.countHold k v).sealedSet = s.sealedSet := rfl
@[simp] theorem countHold_staged (k : Nat) (v : Int) : (s.countHold k v).staged = s.staged := rfl
@[simp] theorem countHold_confirmed (k : Nat) (v : Int) : (s.countHold k v).confirmed = s.confirmed := rfl
@[simp] theorem countHold_uncommitted (k : Nat) (v : Int) : (s.countHold k v).uncommitted = s.uncommitted := rfl
@[simp] theorem countHold_nodes (k : Nat) (v : Int) : (s.countHold k v).nodes = s.nodes := rfl
@[simp] theorem countHold_nodeWrites (k : Nat) (v : Int) : (s.countHold k v).nodeWrites = s.nodeWrites := rfl
@[simp] theorem countHold_clk (k : Nat) (v : Int) : (s.countHold k v).clk = s.clk := rfl
@[simp] theorem countHold_col (k : Nat) (v : Int) : (s.countHold k v).col = s.col := rfl
@[simp] theorem countHold_ms (k : Nat) (v : Int) : (s.countHold k v).ms = s.ms := rfl
@[simp] theorem countHold_fb (k : Nat) (v : Int) : (s.countHold k v).fb = s.fb := rfl
@[simp] theorem countHold_sn (k : Nat) (v : Int) : (s.countHold k v).sn = s.sn := rfl
@[simp] theorem countHold_hall (k : Nat) (v : Int) : (s.countHold k v).hall = s.hall := rfl
@[simp] theorem countHold_ob (k : Nat) (v : Int) : (s.countHold k v).ob = s.ob := rfl
@[simp] theorem countHold_lp (k : Nat) (v : Int) : (s.countHold k v).lp = s.lp := rfl
@[simp] theorem countHold_ax (k : Nat) (v : Int) : (s.countHold k v).ax = s.ax := rfl
@[simp] theorem countHold_link (k : Nat) (v : Int) : (s.countHold k v).link = s.link := rfl
@[simp] theorem countHold_mx (k : Nat) (v : Int) : (s.countHold k v).mx = s.mx := rfl
@[simp] theorem countHold_vs (k : Nat) (v : Int) : (s.countHold k v).vs = s.vs := rfl
@[simp] theorem countHold_sol (k : Nat) (v : Int) : (s.countHold k v).sol = s.sol := rfl
@[simp] theorem countHold_su (k : Nat) (v : Int) : (s.countHold k v).su = s.su := rfl
@[simp] theorem countHold_bl (k : Nat) (v : Int) : (s.countHold k v).bl = s.bl := rfl
@[simp] theorem countHold_st (k : Nat) (v : Int) : (s.countHold k v).st = s.st := rfl
@[simp] theorem countHold_ch (k : Nat) (v : Int) : (s.countHold k v).ch = s.ch := rfl
@[simp] theorem countHold_ld (k : Nat) (v : Int) : (s.countHold k v).ld = s.ld := rfl
@[simp] theorem countHold_az (k : Nat) (v : Int) : (s.countHold k v).az = s.az := rfl
@[simp] theorem countHold_ra (k : Nat) (v : Int) : (s.countHold k v).ra = s.ra := rfl
@[simp] theorem countHold_rc (k : Nat) (v : Int) : (s.countHold k v).rc = s.rc := rfl
@[simp] theorem countHold_me (k : Nat) (v : Int) : (s.countHold k v).me = s.me := rfl
@[simp] theorem countHold_pw (k : Nat) (v : Int) : (s.countHold k v).pw = s.pw := rfl
@[simp] theorem countHold_th (k : Nat) (v : Int) : (s.countHold k v).th = s.th := rfl
@[simp] theorem countHold_sp (k : Nat) (v : Int) : (s.countHold k v).sp = s.sp := rfl
@[simp] theorem countHold_se (k : Nat) (v : Int) : (s.countHold k v).se = s.se := rfl

/-! ### An entry's return to its default. -/

@[simp] theorem clear_pending (k : Nat) : (s.clear k).pending = s.pending := rfl
@[simp] theorem clear_out (k : Nat) : (s.clear k).out = s.out := rfl
@[simp] theorem clear_free (k : Nat) : (s.clear k).free = s.free := rfl
@[simp] theorem clear_sealedSet (k : Nat) : (s.clear k).sealedSet = s.sealedSet := rfl
@[simp] theorem clear_staged (k : Nat) : (s.clear k).staged = s.staged := rfl
@[simp] theorem clear_confirmed (k : Nat) : (s.clear k).confirmed = s.confirmed := rfl
@[simp] theorem clear_uncommitted (k : Nat) : (s.clear k).uncommitted = s.uncommitted := rfl
@[simp] theorem clear_nodes (k : Nat) : (s.clear k).nodes = s.nodes := rfl
@[simp] theorem clear_nodeWrites (k : Nat) : (s.clear k).nodeWrites = s.nodeWrites := rfl
@[simp] theorem clear_clk (k : Nat) : (s.clear k).clk = s.clk := rfl
@[simp] theorem clear_col (k : Nat) : (s.clear k).col = s.col := rfl
@[simp] theorem clear_ms (k : Nat) : (s.clear k).ms = s.ms := rfl
@[simp] theorem clear_fb (k : Nat) : (s.clear k).fb = s.fb := rfl
@[simp] theorem clear_sn (k : Nat) : (s.clear k).sn = s.sn := rfl
@[simp] theorem clear_hall (k : Nat) : (s.clear k).hall = s.hall := rfl
@[simp] theorem clear_ob (k : Nat) : (s.clear k).ob = s.ob := rfl
@[simp] theorem clear_lp (k : Nat) : (s.clear k).lp = s.lp := rfl
@[simp] theorem clear_ax (k : Nat) : (s.clear k).ax = s.ax := rfl
@[simp] theorem clear_link (k : Nat) : (s.clear k).link = s.link := rfl
@[simp] theorem clear_mx (k : Nat) : (s.clear k).mx = s.mx := rfl
@[simp] theorem clear_vs (k : Nat) : (s.clear k).vs = s.vs := rfl
@[simp] theorem clear_sol (k : Nat) : (s.clear k).sol = s.sol := rfl
@[simp] theorem clear_su (k : Nat) : (s.clear k).su = s.su := rfl
@[simp] theorem clear_bl (k : Nat) : (s.clear k).bl = s.bl := rfl
@[simp] theorem clear_st (k : Nat) : (s.clear k).st = s.st := rfl
@[simp] theorem clear_ch (k : Nat) : (s.clear k).ch = s.ch := rfl
@[simp] theorem clear_ld (k : Nat) : (s.clear k).ld = s.ld := rfl
@[simp] theorem clear_az (k : Nat) : (s.clear k).az = s.az := rfl
@[simp] theorem clear_ra (k : Nat) : (s.clear k).ra = s.ra := rfl
@[simp] theorem clear_rc (k : Nat) : (s.clear k).rc = s.rc := rfl
@[simp] theorem clear_me (k : Nat) : (s.clear k).me = s.me := rfl
@[simp] theorem clear_pw (k : Nat) : (s.clear k).pw = s.pw := rfl
@[simp] theorem clear_th (k : Nat) : (s.clear k).th = s.th := rfl
@[simp] theorem clear_sp (k : Nat) : (s.clear k).sp = s.sp := rfl
@[simp] theorem clear_se (k : Nat) : (s.clear k).se = s.se := rfl

/-! ### A node written at once. -/

@[simp] theorem setNodeW_pending (n : Nat) (v : Word) : (s.setNodeW n v).pending = s.pending := rfl
@[simp] theorem setNodeW_out (n : Nat) (v : Word) : (s.setNodeW n v).out = s.out := rfl
@[simp] theorem setNodeW_free (n : Nat) (v : Word) : (s.setNodeW n v).free = s.free := rfl
@[simp] theorem setNodeW_dict (n : Nat) (v : Word) : (s.setNodeW n v).dict = s.dict := rfl
@[simp] theorem setNodeW_sealedSet (n : Nat) (v : Word) : (s.setNodeW n v).sealedSet = s.sealedSet := rfl
@[simp] theorem setNodeW_staged (n : Nat) (v : Word) : (s.setNodeW n v).staged = s.staged := rfl
@[simp] theorem setNodeW_confirmed (n : Nat) (v : Word) : (s.setNodeW n v).confirmed = s.confirmed := rfl
@[simp] theorem setNodeW_uncommitted (n : Nat) (v : Word) : (s.setNodeW n v).uncommitted = s.uncommitted := rfl
@[simp] theorem setNodeW_nodeWrites (n : Nat) (v : Word) : (s.setNodeW n v).nodeWrites = s.nodeWrites := rfl
@[simp] theorem setNodeW_clk (n : Nat) (v : Word) : (s.setNodeW n v).clk = s.clk := rfl
@[simp] theorem setNodeW_col (n : Nat) (v : Word) : (s.setNodeW n v).col = s.col := rfl
@[simp] theorem setNodeW_ms (n : Nat) (v : Word) : (s.setNodeW n v).ms = s.ms := rfl
@[simp] theorem setNodeW_fb (n : Nat) (v : Word) : (s.setNodeW n v).fb = s.fb := rfl
@[simp] theorem setNodeW_sn (n : Nat) (v : Word) : (s.setNodeW n v).sn = s.sn := rfl
@[simp] theorem setNodeW_hall (n : Nat) (v : Word) : (s.setNodeW n v).hall = s.hall := rfl
@[simp] theorem setNodeW_ob (n : Nat) (v : Word) : (s.setNodeW n v).ob = s.ob := rfl
@[simp] theorem setNodeW_lp (n : Nat) (v : Word) : (s.setNodeW n v).lp = s.lp := rfl
@[simp] theorem setNodeW_ax (n : Nat) (v : Word) : (s.setNodeW n v).ax = s.ax := rfl
@[simp] theorem setNodeW_link (n : Nat) (v : Word) : (s.setNodeW n v).link = s.link := rfl
@[simp] theorem setNodeW_mx (n : Nat) (v : Word) : (s.setNodeW n v).mx = s.mx := rfl
@[simp] theorem setNodeW_vs (n : Nat) (v : Word) : (s.setNodeW n v).vs = s.vs := rfl
@[simp] theorem setNodeW_sol (n : Nat) (v : Word) : (s.setNodeW n v).sol = s.sol := rfl
@[simp] theorem setNodeW_su (n : Nat) (v : Word) : (s.setNodeW n v).su = s.su := rfl
@[simp] theorem setNodeW_bl (n : Nat) (v : Word) : (s.setNodeW n v).bl = s.bl := rfl
@[simp] theorem setNodeW_st (n : Nat) (v : Word) : (s.setNodeW n v).st = s.st := rfl
@[simp] theorem setNodeW_ch (n : Nat) (v : Word) : (s.setNodeW n v).ch = s.ch := rfl
@[simp] theorem setNodeW_ld (n : Nat) (v : Word) : (s.setNodeW n v).ld = s.ld := rfl
@[simp] theorem setNodeW_az (n : Nat) (v : Word) : (s.setNodeW n v).az = s.az := rfl
@[simp] theorem setNodeW_ra (n : Nat) (v : Word) : (s.setNodeW n v).ra = s.ra := rfl
@[simp] theorem setNodeW_rc (n : Nat) (v : Word) : (s.setNodeW n v).rc = s.rc := rfl
@[simp] theorem setNodeW_me (n : Nat) (v : Word) : (s.setNodeW n v).me = s.me := rfl
@[simp] theorem setNodeW_pw (n : Nat) (v : Word) : (s.setNodeW n v).pw = s.pw := rfl
@[simp] theorem setNodeW_th (n : Nat) (v : Word) : (s.setNodeW n v).th = s.th := rfl
@[simp] theorem setNodeW_sp (n : Nat) (v : Word) : (s.setNodeW n v).sp = s.sp := rfl
@[simp] theorem setNodeW_se (n : Nat) (v : Word) : (s.setNodeW n v).se = s.se := rfl

/-! ### A node written with an integer. -/

@[simp] theorem setNode_pending (n : Nat) (v : Int) : (s.setNode n v).pending = s.pending := rfl
@[simp] theorem setNode_out (n : Nat) (v : Int) : (s.setNode n v).out = s.out := rfl
@[simp] theorem setNode_free (n : Nat) (v : Int) : (s.setNode n v).free = s.free := rfl
@[simp] theorem setNode_dict (n : Nat) (v : Int) : (s.setNode n v).dict = s.dict := rfl
@[simp] theorem setNode_sealedSet (n : Nat) (v : Int) : (s.setNode n v).sealedSet = s.sealedSet := rfl
@[simp] theorem setNode_staged (n : Nat) (v : Int) : (s.setNode n v).staged = s.staged := rfl
@[simp] theorem setNode_confirmed (n : Nat) (v : Int) : (s.setNode n v).confirmed = s.confirmed := rfl
@[simp] theorem setNode_uncommitted (n : Nat) (v : Int) : (s.setNode n v).uncommitted = s.uncommitted := rfl
@[simp] theorem setNode_nodeWrites (n : Nat) (v : Int) : (s.setNode n v).nodeWrites = s.nodeWrites := rfl
@[simp] theorem setNode_clk (n : Nat) (v : Int) : (s.setNode n v).clk = s.clk := rfl
@[simp] theorem setNode_col (n : Nat) (v : Int) : (s.setNode n v).col = s.col := rfl
@[simp] theorem setNode_ms (n : Nat) (v : Int) : (s.setNode n v).ms = s.ms := rfl
@[simp] theorem setNode_fb (n : Nat) (v : Int) : (s.setNode n v).fb = s.fb := rfl
@[simp] theorem setNode_sn (n : Nat) (v : Int) : (s.setNode n v).sn = s.sn := rfl
@[simp] theorem setNode_hall (n : Nat) (v : Int) : (s.setNode n v).hall = s.hall := rfl
@[simp] theorem setNode_ob (n : Nat) (v : Int) : (s.setNode n v).ob = s.ob := rfl
@[simp] theorem setNode_lp (n : Nat) (v : Int) : (s.setNode n v).lp = s.lp := rfl
@[simp] theorem setNode_ax (n : Nat) (v : Int) : (s.setNode n v).ax = s.ax := rfl
@[simp] theorem setNode_link (n : Nat) (v : Int) : (s.setNode n v).link = s.link := rfl
@[simp] theorem setNode_mx (n : Nat) (v : Int) : (s.setNode n v).mx = s.mx := rfl
@[simp] theorem setNode_vs (n : Nat) (v : Int) : (s.setNode n v).vs = s.vs := rfl
@[simp] theorem setNode_sol (n : Nat) (v : Int) : (s.setNode n v).sol = s.sol := rfl
@[simp] theorem setNode_su (n : Nat) (v : Int) : (s.setNode n v).su = s.su := rfl
@[simp] theorem setNode_bl (n : Nat) (v : Int) : (s.setNode n v).bl = s.bl := rfl
@[simp] theorem setNode_st (n : Nat) (v : Int) : (s.setNode n v).st = s.st := rfl
@[simp] theorem setNode_ch (n : Nat) (v : Int) : (s.setNode n v).ch = s.ch := rfl
@[simp] theorem setNode_ld (n : Nat) (v : Int) : (s.setNode n v).ld = s.ld := rfl
@[simp] theorem setNode_az (n : Nat) (v : Int) : (s.setNode n v).az = s.az := rfl
@[simp] theorem setNode_ra (n : Nat) (v : Int) : (s.setNode n v).ra = s.ra := rfl
@[simp] theorem setNode_rc (n : Nat) (v : Int) : (s.setNode n v).rc = s.rc := rfl
@[simp] theorem setNode_me (n : Nat) (v : Int) : (s.setNode n v).me = s.me := rfl
@[simp] theorem setNode_pw (n : Nat) (v : Int) : (s.setNode n v).pw = s.pw := rfl
@[simp] theorem setNode_th (n : Nat) (v : Int) : (s.setNode n v).th = s.th := rfl
@[simp] theorem setNode_sp (n : Nat) (v : Int) : (s.setNode n v).sp = s.sp := rfl
@[simp] theorem setNode_se (n : Nat) (v : Int) : (s.setNode n v).se = s.se := rfl

/-! ### A node write taken at the next tick edge. -/

@[simp] theorem writeNode_pending (n : Nat) (v : Int) : (s.writeNode n v).pending = s.pending := rfl
@[simp] theorem writeNode_out (n : Nat) (v : Int) : (s.writeNode n v).out = s.out := rfl
@[simp] theorem writeNode_free (n : Nat) (v : Int) : (s.writeNode n v).free = s.free := rfl
@[simp] theorem writeNode_dict (n : Nat) (v : Int) : (s.writeNode n v).dict = s.dict := rfl
@[simp] theorem writeNode_sealedSet (n : Nat) (v : Int) : (s.writeNode n v).sealedSet = s.sealedSet := rfl
@[simp] theorem writeNode_staged (n : Nat) (v : Int) : (s.writeNode n v).staged = s.staged := rfl
@[simp] theorem writeNode_confirmed (n : Nat) (v : Int) : (s.writeNode n v).confirmed = s.confirmed := rfl
@[simp] theorem writeNode_uncommitted (n : Nat) (v : Int) : (s.writeNode n v).uncommitted = s.uncommitted := rfl
@[simp] theorem writeNode_nodes (n : Nat) (v : Int) : (s.writeNode n v).nodes = s.nodes := rfl
@[simp] theorem writeNode_clk (n : Nat) (v : Int) : (s.writeNode n v).clk = s.clk := rfl
@[simp] theorem writeNode_col (n : Nat) (v : Int) : (s.writeNode n v).col = s.col := rfl
@[simp] theorem writeNode_ms (n : Nat) (v : Int) : (s.writeNode n v).ms = s.ms := rfl
@[simp] theorem writeNode_fb (n : Nat) (v : Int) : (s.writeNode n v).fb = s.fb := rfl
@[simp] theorem writeNode_sn (n : Nat) (v : Int) : (s.writeNode n v).sn = s.sn := rfl
@[simp] theorem writeNode_hall (n : Nat) (v : Int) : (s.writeNode n v).hall = s.hall := rfl
@[simp] theorem writeNode_ob (n : Nat) (v : Int) : (s.writeNode n v).ob = s.ob := rfl
@[simp] theorem writeNode_lp (n : Nat) (v : Int) : (s.writeNode n v).lp = s.lp := rfl
@[simp] theorem writeNode_ax (n : Nat) (v : Int) : (s.writeNode n v).ax = s.ax := rfl
@[simp] theorem writeNode_link (n : Nat) (v : Int) : (s.writeNode n v).link = s.link := rfl
@[simp] theorem writeNode_mx (n : Nat) (v : Int) : (s.writeNode n v).mx = s.mx := rfl
@[simp] theorem writeNode_vs (n : Nat) (v : Int) : (s.writeNode n v).vs = s.vs := rfl
@[simp] theorem writeNode_sol (n : Nat) (v : Int) : (s.writeNode n v).sol = s.sol := rfl
@[simp] theorem writeNode_su (n : Nat) (v : Int) : (s.writeNode n v).su = s.su := rfl
@[simp] theorem writeNode_bl (n : Nat) (v : Int) : (s.writeNode n v).bl = s.bl := rfl
@[simp] theorem writeNode_st (n : Nat) (v : Int) : (s.writeNode n v).st = s.st := rfl
@[simp] theorem writeNode_ch (n : Nat) (v : Int) : (s.writeNode n v).ch = s.ch := rfl
@[simp] theorem writeNode_ld (n : Nat) (v : Int) : (s.writeNode n v).ld = s.ld := rfl
@[simp] theorem writeNode_az (n : Nat) (v : Int) : (s.writeNode n v).az = s.az := rfl
@[simp] theorem writeNode_ra (n : Nat) (v : Int) : (s.writeNode n v).ra = s.ra := rfl
@[simp] theorem writeNode_rc (n : Nat) (v : Int) : (s.writeNode n v).rc = s.rc := rfl
@[simp] theorem writeNode_me (n : Nat) (v : Int) : (s.writeNode n v).me = s.me := rfl
@[simp] theorem writeNode_pw (n : Nat) (v : Int) : (s.writeNode n v).pw = s.pw := rfl
@[simp] theorem writeNode_th (n : Nat) (v : Int) : (s.writeNode n v).th = s.th := rfl
@[simp] theorem writeNode_sp (n : Nat) (v : Int) : (s.writeNode n v).sp = s.sp := rfl
@[simp] theorem writeNode_se (n : Nat) (v : Int) : (s.writeNode n v).se = s.se := rfl

/-! ### What the lane sends. -/

@[simp] theorem emit_pending (e : Emission) : (s.emit e).pending = s.pending := rfl
@[simp] theorem emit_free (e : Emission) : (s.emit e).free = s.free := rfl
@[simp] theorem emit_dict (e : Emission) : (s.emit e).dict = s.dict := rfl
@[simp] theorem emit_sealedSet (e : Emission) : (s.emit e).sealedSet = s.sealedSet := rfl
@[simp] theorem emit_staged (e : Emission) : (s.emit e).staged = s.staged := rfl
@[simp] theorem emit_confirmed (e : Emission) : (s.emit e).confirmed = s.confirmed := rfl
@[simp] theorem emit_uncommitted (e : Emission) : (s.emit e).uncommitted = s.uncommitted := rfl
@[simp] theorem emit_nodes (e : Emission) : (s.emit e).nodes = s.nodes := rfl
@[simp] theorem emit_nodeWrites (e : Emission) : (s.emit e).nodeWrites = s.nodeWrites := rfl
@[simp] theorem emit_clk (e : Emission) : (s.emit e).clk = s.clk := rfl
@[simp] theorem emit_col (e : Emission) : (s.emit e).col = s.col := rfl
@[simp] theorem emit_ms (e : Emission) : (s.emit e).ms = s.ms := rfl
@[simp] theorem emit_fb (e : Emission) : (s.emit e).fb = s.fb := rfl
@[simp] theorem emit_sn (e : Emission) : (s.emit e).sn = s.sn := rfl
@[simp] theorem emit_hall (e : Emission) : (s.emit e).hall = s.hall := rfl
@[simp] theorem emit_ob (e : Emission) : (s.emit e).ob = s.ob := rfl
@[simp] theorem emit_lp (e : Emission) : (s.emit e).lp = s.lp := rfl
@[simp] theorem emit_ax (e : Emission) : (s.emit e).ax = s.ax := rfl
@[simp] theorem emit_link (e : Emission) : (s.emit e).link = s.link := rfl
@[simp] theorem emit_mx (e : Emission) : (s.emit e).mx = s.mx := rfl
@[simp] theorem emit_vs (e : Emission) : (s.emit e).vs = s.vs := rfl
@[simp] theorem emit_sol (e : Emission) : (s.emit e).sol = s.sol := rfl
@[simp] theorem emit_su (e : Emission) : (s.emit e).su = s.su := rfl
@[simp] theorem emit_bl (e : Emission) : (s.emit e).bl = s.bl := rfl
@[simp] theorem emit_st (e : Emission) : (s.emit e).st = s.st := rfl
@[simp] theorem emit_ch (e : Emission) : (s.emit e).ch = s.ch := rfl
@[simp] theorem emit_ld (e : Emission) : (s.emit e).ld = s.ld := rfl
@[simp] theorem emit_az (e : Emission) : (s.emit e).az = s.az := rfl
@[simp] theorem emit_ra (e : Emission) : (s.emit e).ra = s.ra := rfl
@[simp] theorem emit_rc (e : Emission) : (s.emit e).rc = s.rc := rfl
@[simp] theorem emit_me (e : Emission) : (s.emit e).me = s.me := rfl
@[simp] theorem emit_pw (e : Emission) : (s.emit e).pw = s.pw := rfl
@[simp] theorem emit_th (e : Emission) : (s.emit e).th = s.th := rfl
@[simp] theorem emit_sp (e : Emission) : (s.emit e).sp = s.sp := rfl
@[simp] theorem emit_se (e : Emission) : (s.emit e).se = s.se := rfl

/-! ### What reads find. -/

/-- A written entry reads as its value; every other entry as before. -/
theorem get_put (j k : Nat) (v : Val) : (s.put k v).get j = if j = k then v else s.get j := get_set _ _ _ _ _
theorem get_putN (j k : Nat) (v : Int) : (s.putN k v).get j = if j = k then .num v else s.get j := get_put s j k _
@[simp] theorem get_put_self (k : Nat) (v : Val) : (s.put k v).get k = v := get_set_self _ _ _ _
@[simp] theorem n_putN_self (k : Nat) (v : Int) : (s.putN k v).n k = v := by simp [State.n, State.putN]
@[simp] theorem nat_putN_self (k : Nat) (v : Int) : (s.putN k v).nat k = v.toNat := by simp [State.nat]
theorem get_put_ne {j k : Nat} (v : Val) (h : j ≠ k) : (s.put k v).get j = s.get j := get_set_ne _ _ _ h
theorem get_putN_ne {j k : Nat} (v : Int) (h : j ≠ k) : (s.putN k v).get j = s.get j := get_put_ne s _ h
theorem n_putN_ne {j k : Nat} (v : Int) (h : j ≠ k) : (s.putN k v).n j = s.n j := by simp [State.n, get_putN_ne s v h]
theorem nat_putN_ne {j k : Nat} (v : Int) (h : j ≠ k) : (s.putN k v).nat j = s.nat j := by simp [State.nat, n_putN_ne s v h]
@[simp] theorem get_setNodeW (k n : Nat) (v : Word) : (s.setNodeW n v).get k = s.get k := rfl
@[simp] theorem get_setNode (k n : Nat) (v : Int) : (s.setNode n v).get k = s.get k := rfl
@[simp] theorem get_writeNode (k n : Nat) (v : Int) : (s.writeNode n v).get k = s.get k := rfl
@[simp] theorem get_emit (k : Nat) (e : Emission) : (s.emit e).get k = s.get k := rfl
/-- A written node reads as its word; every other node as before. -/
theorem nodeW_setNodeW (m n : Nat) (v : Word) : (s.setNodeW n v).nodeW m = if m = n then v else s.nodeW m := get_set _ _ _ _ _
@[simp] theorem nodeW_setNodeW_self (n : Nat) (v : Word) : (s.setNodeW n v).nodeW n = v := get_set_self _ _ _ _
@[simp] theorem nodeW_put (m k : Nat) (v : Val) : (s.put k v).nodeW m = s.nodeW m := rfl
@[simp] theorem nodeW_putN (m k : Nat) (v : Int) : (s.putN k v).nodeW m = s.nodeW m := rfl

/-! ### The canonical form of the dictionary and of the node RAM. -/

/-- The node RAM in its canonical form. -/
theorem setNodeW_wf (n : Nat) (v : Word) (h : Sparse.wf nodeReset s.nodes = true) :
    Sparse.wf nodeReset (s.setNodeW n v).nodes = true := set_wf _ _ _ _ h
theorem setNode_wf (n : Nat) (v : Int) (h : Sparse.wf nodeReset s.nodes = true) :
    Sparse.wf nodeReset (s.setNode n v).nodes = true := set_wf _ _ _ _ h
theorem put_wf (k : Nat) (v : Val) (h : Sparse.wf defaultOf s.dict = true) : Sparse.wf defaultOf (s.put k v).dict = true :=
  set_wf _ _ _ _ h
theorem reset_nodes_wf : Sparse.wf nodeReset State.reset.nodes = true := rfl
theorem reset_dict_wf : Sparse.wf defaultOf State.reset.dict = true := rfl

end Sys2Proof.Laws
end

