-- ==== Sys2Proof/Laws/Chaperone.lean ====
section
/-!
SUPPORT. Laws/Chaperone.lean: what raising a fault, dropping an arm signal and settling the chaperone's logic can do, said once
(R379, R391, R510–R517).
-/
namespace Sys2Proof.Laws
open Sys2Proof.Machine

/-! ### Raising a fault. -/

/-- What a fault message touches: the collector, the drawn values and the count of drops. -/
structure Told (s t : State) : Prop where
  get : ∀ k, k ≠ Obj.FAULT_DROPS → t.get k = s.get k
  same : { t with dict := s.dict, col := s.col, free := s.free } = s

theorem Told.refl (s : State) : Told s s := ⟨fun _ _ => rfl, rfl⟩
theorem Told.trans {s t u : State} (h : Told s t) (h' : Told t u) : Told s u := by
  refine ⟨fun k hk => (h'.get k hk).trans (h.get k hk), ?_⟩
  have a := h.same
  have b := h'.same
  rw [← a, ← b]

theorem enqueue_told (s : State) (m : FaultMsg) : Told s (s.enqueue m) := by
  unfold State.enqueue
  split
  · exact ⟨fun _ _ => rfl, rfl⟩
  · split
    · exact ⟨fun k hk => get_putN_ne s _ hk, rfl⟩
    · exact ⟨fun _ _ => rfl, rfl⟩

theorem nextMsg_told (s : State) (cls src kind qual : Nat) (d : Option Int) : Told s (s.nextMsg cls src kind qual d).2 := by
  cases d <;> exact ⟨fun _ _ => rfl, rfl⟩

theorem raiseAs_told (s : State) (cls src kind qual : Nat) (d : Option Int) : Told s (s.raiseAs cls src kind qual d) := by
  have h := (nextMsg_told s cls src kind qual d).trans (enqueue_told _ (s.nextMsg cls src kind qual d).1)
  unfold State.raiseAs
  simp only
  split
  · exact h.trans ⟨fun _ _ => rfl, rfl⟩
  · exact h

/-- Everything that raising a fault can touch. -/
theorem raise_told (s : State) (src kind qual : Nat) (d : Option Int) : Told s (s.raise src kind qual d) := raiseAs_told ..

theorem when_told (s : State) (c : Bool) (f : State → State) (h : Told s (f s)) : Told s (s.when c f) := by
  cases c
  · exact Told.refl s
  · exact h

/-! ### An output turns off. -/

/-- What turning an output off leaves alone: every entry but the states of the axes, the chaperone, the supplies, time, sessions,
the sealed set, leadership, the queue and what was sent. -/
structure Off (s t : State) : Prop where
  get : ∀ k, k ≠ Obj.FAULT_DROPS → (∀ n, k ≠ Obj.AX_STATE n) → (∀ n, k ≠ Obj.AX_STATUS n) → t.get k = s.get k
  ch : t.ch = s.ch
  su : t.su = s.su
  clk : t.clk = s.clk
  se : t.se = s.se
  sealedSet : t.sealedSet = s.sealedSet
  staged : t.staged = s.staged
  ld : t.ld = s.ld
  pending : t.pending = s.pending
  out : t.out = s.out

theorem Off.refl (s : State) : Off s s := ⟨fun _ _ _ _ => rfl, rfl, rfl, rfl, rfl, rfl, rfl, rfl, rfl, rfl⟩
theorem Off.trans {s t u : State} (h : Off s t) (h' : Off t u) : Off s u :=
  ⟨fun k a b c => (h'.get k a b c).trans (h.get k a b c), h'.ch.trans h.ch, h'.su.trans h.su, h'.clk.trans h.clk, h'.se.trans h.se,
    h'.sealedSet.trans h.sealedSet, h'.staged.trans h.staged, h'.ld.trans h.ld, h'.pending.trans h.pending, h'.out.trans h.out⟩

theorem Told.off {s t : State} (h : Told s t) : Off s t := by
  have e {α : Type} (f : State → α) (hf : ∀ d c n, f { t with dict := d, col := c, free := n } = f t) : f t = f s := by
    rw [← hf s.dict s.col s.free, h.same]
  exact ⟨fun k x _ _ => h.get k x, e State.ch fun _ _ _ => rfl, e State.su fun _ _ _ => rfl, e State.clk fun _ _ _ => rfl,
    e State.se fun _ _ _ => rfl, e State.sealedSet fun _ _ _ => rfl, e State.staged fun _ _ _ => rfl, e State.ld fun _ _ _ => rfl,
    e State.pending fun _ _ _ => rfl, e State.out fun _ _ _ => rfl⟩

theorem putN_off (s : State) (k : Nat) (v : Int) (h : (∃ n, k = Obj.AX_STATE n) ∨ ∃ n, k = Obj.AX_STATUS n) : Off s (s.putN k v) := by
  refine ⟨fun j _ b c => get_putN_ne s v ?_, rfl, rfl, rfl, rfl, rfl, rfl, rfl, rfl, rfl⟩
  rcases h with ⟨n, rfl⟩ | ⟨n, rfl⟩
  · exact b n
  · exact c n
theorem setAxState_off (s : State) (n c : Nat) : Off s (s.setAxState n c) :=
  (putN_off s _ _ (.inl ⟨n, rfl⟩)).trans (putN_off _ _ _ (.inr ⟨n, rfl⟩))
theorem axMod_off (s : State) (n : Nat) (f : Axis → Axis) : Off s (s.axMod n f) :=
  ⟨fun _ _ _ _ => rfl, rfl, rfl, rfl, rfl, rfl, rfl, rfl, rfl, rfl⟩
theorem stepMod_off (s : State) (k : Nat) (f : Stepper → Stepper) : Off s (s.stepMod k f) :=
  ⟨fun _ _ _ _ => rfl, rfl, rfl, rfl, rfl, rfl, rfl, rfl, rfl, rfl⟩
theorem solMod_off (s : State) (m : Nat) (f : Solenoid → Solenoid) : Off s (s.solMod m f) :=
  ⟨fun _ _ _ _ => rfl, rfl, rfl, rfl, rfl, rfl, rfl, rfl, rfl, rfl⟩
theorem setNode_off (s : State) (n : Nat) (v : Int) : Off s (s.setNode n v) :=
  ⟨fun _ _ _ _ => rfl, rfl, rfl, rfl, rfl, rfl, rfl, rfl, rfl, rfl⟩

theorem axOffNow_off (s : State) (n : Nat) (soft : Bool) : Off s (s.axOffNow n soft) := by
  refine (setAxState_off s n 0).trans ?_
  exact ⟨fun _ _ _ _ => rfl, rfl, rfl, rfl, rfl, rfl, rfl, rfl, rfl, rfl⟩

theorem axLeave_off (s : State) (n q : Nat) : Off s (s.axLeave n q) := by
  unfold State.axLeave
  simp only
  split
  · exact (axOffNow_off s n _).trans ((setAxState_off _ n _).trans ((axMod_off _ n _).trans (raise_told _ _ _ _ _).off))
  · exact axOffNow_off s n _

theorem axWithdraw_off (s : State) (n : Nat) : Off s (s.axWithdraw n) := by
  unfold State.axWithdraw
  simp only
  split
  · exact (axMod_off s n _).trans (axLeave_off _ n 2)
  · exact (axMod_off s n _).trans (axOffNow_off _ n _)
  · exact axMod_off s n _

theorem solCentre_off (s : State) (m : Nat) : Off s (s.solCentre m) := (solMod_off s m _).trans (setNode_off _ _ _)

theorem valveWithdraw_off (s : State) (b : Nat) : Off s (s.valveWithdraw b) := by
  unfold State.valveWithdraw
  split
  · exact (stepMod_off s _ _).trans (stepMod_off _ _ _)
  · split
    · exact ((solMod_off s _ _).trans (solMod_off _ _ _)).trans (solCentre_off _ _)
    · exact Off.refl s

theorem outWithdraw_off (s : State) (b : Nat) : Off s (s.outWithdraw b) := by
  unfold State.outWithdraw
  split
  · exact axWithdraw_off s b
  · exact valveWithdraw_off s b

/-! ### An arm signal deasserts (R379). -/

/-- What the loss of arm signals leaves alone: as `Off`, and of the chaperone all but its arm signals, of which none appears. -/
structure Disarmed (s t : State) : Prop where
  get : ∀ k, k ≠ Obj.FAULT_DROPS → (∀ n, k ≠ Obj.AX_STATE n) → (∀ n, k ≠ Obj.AX_STATUS n) → t.get k = s.get k
  ch : t.ch = { s.ch with armed := t.ch.armed }
  armed : ∀ c, t.ch.armed.testBit c = true → s.ch.armed.testBit c = true
  su : t.su = s.su
  clk : t.clk = s.clk
  se : t.se = s.se
  sealedSet : t.sealedSet = s.sealedSet
  staged : t.staged = s.staged
  ld : t.ld = s.ld
  pending : t.pending = s.pending
  out : t.out = s.out

theorem Disarmed.refl (s : State) : Disarmed s s := ⟨fun _ _ _ _ => rfl, rfl, fun _ h => h, rfl, rfl, rfl, rfl, rfl, rfl, rfl, rfl⟩
theorem Disarmed.trans {s t u : State} (h : Disarmed s t) (h' : Disarmed t u) : Disarmed s u := by
  refine ⟨fun k a b c => (h'.get k a b c).trans (h.get k a b c), ?_, fun c hc => h.armed c (h'.armed c hc), h'.su.trans h.su,
    h'.clk.trans h.clk, h'.se.trans h.se, h'.sealedSet.trans h.sealedSet, h'.staged.trans h.staged, h'.ld.trans h.ld,
    h'.pending.trans h.pending, h'.out.trans h.out⟩
  rw [h'.ch, h.ch]
theorem Off.disarmed {s t : State} (h : Off s t) : Disarmed s t :=
  ⟨h.get, by rw [h.ch], fun c hc => by rw [h.ch] at hc; exact hc, h.su, h.clk, h.se, h.sealedSet, h.staged, h.ld, h.pending, h.out⟩

theorem testBit_drop {m b : Nat} (h : m.testBit b = true) (c : Nat) :
    (m - 2 ^ b).testBit c = (m.testBit c && decide (c ≠ b)) := by
  have hm : m = 2 ^ (b + 1) * (m / 2 ^ (b + 1)) + (2 ^ b + m % 2 ^ b) := by
    have h1 : m / 2 ^ b % 2 = 1 := by simpa [Nat.testBit_eq_decide_div_mod_eq] using h
    have h2 := Nat.div_add_mod m (2 ^ b)
    have h3 := Nat.div_add_mod (m / 2 ^ b) 2
    rw [Nat.div_div_eq_div_mul, ← Nat.pow_succ, h1] at h3
    rw [← h3] at h2
    rw [Nat.pow_succ] at *
    linarith
  have hr : m % 2 ^ b < 2 ^ b := Nat.mod_lt _ (by positivity)
  have hp : 2 ^ (b + 1) = 2 ^ b + 2 ^ b := by rw [Nat.pow_succ]; omega
  generalize m / 2 ^ (b + 1) = q at hm
  generalize m % 2 ^ b = r at hm hr
  subst hm
  have e : 2 ^ (b + 1) * q + (2 ^ b + r) - 2 ^ b = 2 ^ (b + 1) * q + r := by omega
  rw [e, Nat.testBit_two_pow_mul_add _ (by omega), Nat.testBit_two_pow_mul_add _ (by omega)]
  by_cases hc : c < b + 1
  · rcases Nat.lt_or_ge c b with hlt | hge
    · simp [hc, Nat.testBit_two_pow_add_gt hlt, Nat.ne_of_lt hlt]
    · have : c = b := by omega
      subst this
      simp [Nat.testBit_lt_two_pow hr]
  · have : c ≠ b := by omega
    simp [hc, this]

theorem armClear_disarmed (s : State) (b : Nat) (h : s.ch.armed.testBit b = true) : Disarmed s (s.armClear b) :=
  ⟨fun _ _ _ _ => rfl, rfl, fun c hc => by
    have : (s.ch.armed - 2 ^ b).testBit c = true := hc
    rw [testBit_drop h] at this
    exact (Bool.and_eq_true _ _ ▸ this).1, rfl, rfl, rfl, rfl, rfl, rfl, rfl, rfl⟩

/-- Everything that dropping an arm signal leaves alone. -/
theorem armDrop_disarmed (s : State) (b : Nat) : Disarmed s (s.armDrop b) := by
  unfold State.armDrop
  split
  · next h => exact (armClear_disarmed s b h).trans (outWithdraw_off _ b).disarmed
  · exact Disarmed.refl s

/-- A dropped arm signal is off, and every other one stands as before. -/
theorem armDrop_armed (s : State) (b c : Nat) :
    (s.armDrop b).ch.armed.testBit c = (s.ch.armed.testBit c && decide (c ≠ b)) := by
  unfold State.armDrop
  split
  · next h =>
    rw [(outWithdraw_off _ b).ch]
    exact testBit_drop h c
  · next h =>
    by_cases hc : c = b
    · subst hc; simpa using h
    · simp [hc]

/-! ### The conditions of an arm signal. -/

/-- An arm signal's conditions rest on entries that no loss of an arm signal touches. -/
theorem Disarmed.armOk {s t : State} (h : Disarmed s t) (b : Nat) : t.armOk b = s.armOk b := by
  have g (k : Nat) (a : k ≠ Obj.FAULT_DROPS) (c : ∀ n, k ≠ Obj.AX_STATE n) (d : ∀ n, k ≠ Obj.AX_STATUS n) : t.n k = s.n k := by
    unfold State.n
    rw [h.get k a c d]
  have c0 := g Obj.CHAP_STATE (by decide) (by intro n; unfold Obj.AX_STATE Obj.CHAP_STATE; omega) (by intro n; unfold Obj.AX_STATUS Obj.CHAP_STATE; omega)
  have c1 := g Obj.WDG_ERRORS (by decide) (by intro n; unfold Obj.AX_STATE Obj.WDG_ERRORS; omega) (by intro n; unfold Obj.AX_STATUS Obj.WDG_ERRORS; omega)
  have c2 := g Obj.WDG_LIMIT (by decide) (by intro n; unfold Obj.AX_STATE Obj.WDG_LIMIT; omega) (by intro n; unfold Obj.AX_STATUS Obj.WDG_LIMIT; omega)
  have c3 := g Obj.LEAD_MODE (by decide) (by intro n; unfold Obj.AX_STATE Obj.LEAD_MODE; omega) (by intro n; unfold Obj.AX_STATUS Obj.LEAD_MODE; omega)
  have c4 := g Obj.DOMAIN_STATUS (by decide) (by intro n; unfold Obj.AX_STATE Obj.DOMAIN_STATUS; omega) (by intro n; unfold Obj.AX_STATUS Obj.DOMAIN_STATUS; omega)
  have e0 (k : Nat) := g (Obj.AX_ENABLE k) (by unfold Obj.AX_ENABLE Obj.FAULT_DROPS; omega) (by intro n; unfold Obj.AX_STATE Obj.AX_ENABLE; omega) (by intro n; unfold Obj.AX_STATUS Obj.AX_ENABLE; omega)
  have e1 (k : Nat) (hk : k < 4) := g (Obj.VS_ENABLE k) (by unfold Obj.VS_ENABLE Obj.FAULT_DROPS; omega) (by intro n; unfold Obj.AX_STATE Obj.VS_ENABLE; omega) (by intro n; unfold Obj.AX_STATUS Obj.VS_ENABLE; omega)
  have e2 (k : Nat) (hk : k < 16) := g (Obj.SOL_ENABLE k) (by unfold Obj.SOL_ENABLE Obj.FAULT_DROPS; omega) (by intro n; unfold Obj.AX_STATE Obj.SOL_ENABLE; omega) (by intro n; unfold Obj.AX_STATUS Obj.SOL_ENABLE; omega)
  have out : t.outEnable b = s.outEnable b := by
    unfold State.outEnable State.on
    split
    · rw [e0]
    · split
      · rw [e1 _ (by omega)]
      · split
        · rw [e2 _ (by omega)]
        · rfl
  have chr : t.ch.request = s.ch.request ∧ t.ch.leadOut = s.ch.leadOut ∧ t.ch.peers = s.ch.peers ∧ t.ch.peerHold = s.ch.peerHold ∧
      t.ch.lease = s.ch.lease ∧ t.ch.scan = s.ch.scan ∧ t.ch.scanTest = s.ch.scanTest := by
    rw [h.ch]
    simp
  obtain ⟨r1, r2, r3, r4, r5, r6, r7⟩ := chr
  unfold State.armOk State.leadCondition State.armSupply State.chapState State.bit State.nat
  rw [out, c0, c1, c2, c3, c4, r1, r2, r3, r4, r5, r6, r7, h.su]

/-- R379: one output judged. -/
theorem judge_one (s : State) (b : Nat) :
    Disarmed s (if s.ch.armed.testBit b && !s.armOk b then s.armDrop b else s) := by
  split
  · exact armDrop_disarmed s b
  · exact Disarmed.refl s

theorem judge_fold (l : List Nat) (s : State) :
    Disarmed s (l.foldl (fun s b => if s.ch.armed.testBit b && !s.armOk b then s.armDrop b else s) s) ∧
      ∀ b ∈ l, (l.foldl (fun s b => if s.ch.armed.testBit b && !s.armOk b then s.armDrop b else s) s).ch.armed.testBit b = true →
        s.armOk b = true := by
  induction l generalizing s with
  | nil => exact ⟨Disarmed.refl s, by simp⟩
  | cons a l ih =>
    have h1 := judge_one s a
    obtain ⟨h2, h3⟩ := ih (if s.ch.armed.testBit a && !s.armOk a then s.armDrop a else s)
    refine ⟨h1.trans h2, ?_⟩
    intro b hb ht
    rw [List.foldl_cons] at ht
    rcases List.mem_cons.1 hb with rfl | hb
    · have ht' := h2.armed b ht
      by_contra hn
      have hf : s.armOk b = false := by simpa using hn
      by_cases ha : s.ch.armed.testBit b = true
      · simp [ha, hf, armDrop_armed] at ht'
      · simp [ha] at ht'
    · have := h3 b hb ht
      rwa [h1.armOk] at this

/-- What judging the arm signals leaves alone. -/
theorem armJudge_disarmed (s : State) : Disarmed s s.armJudge := (judge_fold (List.range 26) s).1
/-- After they are judged, every armed output meets its conditions. -/
theorem armJudge_kept (s : State) : ArmKept s.armJudge := by
  intro b hb ht
  rw [(armJudge_disarmed s).armOk]
  exact (judge_fold (List.range 26) s).2 b (List.mem_range.2 hb) ht

end Sys2Proof.Laws
end

