-- ==== Sys2Proof/Laws/Runs.lean ====
section
/-!
SUPPORT. Laws/Runs.lean: what a command does is its run, settled: one lemma per command, and the way from a run to its effect.
-/
namespace Sys2Proof.Machine

/-- The settling of an answered run is the settling of its state. -/
@[simp] theorem settled_next (u : State) : settled (.next u) = .next u.settle := rfl

/-- A command whose run answers a state has that effect. -/
theorem Gives.of_run {c : Instr} {s u : State} {r : Res} (h : exec c s = settled r) (hr : r = .next u) : Gives c s u := by
  unfold Gives; rw [h, hr]; rfl

theorem exec_tickEdge (cycles stalls failed : Nat) (s : State) : exec (.tickEdge cycles stalls failed) s = settled (runTickEdge cycles stalls failed s) := rfl
theorem exec_cellWindowClose (s : State) : exec .cellWindowClose s = settled (runCellWindowClose s) := rfl
theorem exec_beatBoundary (sc : Vector Charge 16) (late : Bool) (s : State) : exec (.beatBoundary sc late) s = settled (runBeatBoundary sc late s) := rfl
theorem exec_appPartitionRestart (cause : Fin 5) (s : State) : exec (.appPartitionRestart cause) s = settled (runAppPartitionRestart cause s) := rfl
theorem exec_appRestartComplete (s : State) : exec .appRestartComplete s = settled (runAppRestartComplete s) := rfl
theorem exec_keeperFault (s : State) : exec .keeperFault s = settled (runKeeperFault s) := rfl
theorem exec_chaperoneReset (s : State) : exec .chaperoneReset s = settled (runChaperoneReset s) := rfl
theorem exec_chaperoneResetRelease (first again : StrapReads) (tick : Nat) (s : State) : exec (.chaperoneResetRelease first again tick) s = settled (runChaperoneResetRelease first again tick s) := rfl
theorem exec_strapServiceRead (word : BitVec 24) (s : State) : exec (.strapServiceRead word) s = settled (runStrapServiceRead word s) := rfl
theorem exec_chapClockFail (s : State) : exec .chapClockFail s = settled (runChapClockFail s) := rfl
theorem exec_supplyUndervoltage (k : Fin 5) (action : Bool) (tick : Nat) (s : State) : exec (.supplyUndervoltage k action tick) s = settled (runSupplyUndervoltage k action tick s) := rfl
theorem exec_supplyOvervoltage (k : Fin 5) (s : State) : exec (.supplyOvervoltage k) s = settled (runSupplyOvervoltage k s) := rfl
theorem exec_supplyRecovery (k : Fin 5) (level : Fin 3) (s : State) : exec (.supplyRecovery k level) s = settled (runSupplyRecovery k level s) := rfl
theorem exec_brownOut (tick : Nat) (s : State) : exec (.brownOut tick) s = settled (runBrownOut tick s) := rfl
theorem exec_pinReset (width : Nat) (taken : Bool) (tick : Nat) (s : State) : exec (.pinReset width taken tick) s = settled (runPinReset width taken tick s) := rfl
theorem exec_boundaryScanInstruction (extOrInt trst : Bool) (s : State) : exec (.boundaryScanInstruction extOrInt trst) s = settled (runBoundaryScanInstruction extOrInt trst s) := rfl
theorem exec_holdReadbackChange (level : Bool) (s : State) : exec (.holdReadbackChange level) s = settled (runHoldReadbackChange level s) := rfl
theorem exec_peerLeadInChange (p : Fin 2) (level : Bool) (now : Nat) (s : State) : exec (.peerLeadInChange p level now) s = settled (runPeerLeadInChange p level now s) := rfl
theorem exec_clockDeviation (q : Fin 5) (ppm : Int) (s : State) : exec (.clockDeviation q ppm) s = settled (runClockDeviation q ppm s) := rfl
theorem exec_timebaseStartTimeout (s : State) : exec .timebaseStartTimeout s = settled (runTimebaseStartTimeout s) := rfl
theorem exec_voteChange (client : Fin 5) (mask : BitVec 5) (s : State) : exec (.voteChange client mask) s = settled (runVoteChange client mask s) := rfl
theorem exec_holdoffExpiry (d : Fin 4) (s : State) : exec (.holdoffExpiry d) s = settled (runHoldoffExpiry d s) := rfl
theorem exec_domainPowerGood (d : Fin 4) (s : State) : exec (.domainPowerGood d) s = settled (runDomainPowerGood d s) := rfl
theorem exec_dozeCommit (s : State) : exec .dozeCommit s = settled (runDozeCommit s) := rfl
theorem exec_parkedCommit (s : State) : exec .parkedCommit s = settled (runParkedCommit s) := rfl
theorem exec_dozeMaxExpiry (s : State) : exec .dozeMaxExpiry s = settled (runDozeMaxExpiry s) := rfl
theorem exec_wakeLingerExpiry (s : State) : exec .wakeLingerExpiry s = settled (runWakeLingerExpiry s) := rfl
theorem exec_portActivityLapse (p : Fin 4) (s : State) : exec (.portActivityLapse p) s = settled (runPortActivityLapse p s) := rfl
theorem exec_partnerVoteLapse (p : Fin 2) (s : State) : exec (.partnerVoteLapse p) s = settled (runPartnerVoteLapse p s) := rfl
theorem exec_keyChange (level : Bool) (w : WakeAt) (s : State) : exec (.keyChange level w) s = settled (runKeyChange level w s) := rfl
theorem exec_wakePinEdge (rising : Bool) (w : WakeAt) (s : State) : exec (.wakePinEdge rising w) s = settled (runWakePinEdge rising w s) := rfl
theorem exec_cueFrame (p : Fin 2) (f : CueFrame) (w : WakeAt) (s : State) : exec (.cueFrame p f w) s = settled (runCueFrame p f w s) := rfl
theorem exec_wakeUpPattern (p : Fin 2) (w : WakeAt) (s : State) : exec (.wakeUpPattern p w) s = settled (runWakeUpPattern p w s) := rfl
theorem exec_dominantActivity (p : Fin 2) (width : Nat) (taken : Bool) (w : WakeAt) (s : State) : exec (.dominantActivity p width taken w) s = settled (runDominantActivity p width taken w s) := rfl
theorem exec_aonTimerWake (w : WakeAt) (s : State) : exec (.aonTimerWake w) s = settled (runAonTimerWake w s) := rfl
theorem exec_streamSignalDetect (w : WakeAt) (s : State) : exec (.streamSignalDetect w) s = settled (runStreamSignalDetect w s) := rfl
theorem exec_vbatArrival (tick : Nat) (s : State) : exec (.vbatArrival tick) s = settled (runVbatArrival tick s) := rfl
theorem exec_vbatWaitTimeout (s : State) : exec .vbatWaitTimeout s = settled (runVbatWaitTimeout s) := rfl
theorem exec_startSequence (x : StartInput) (s : State) : exec (.startSequence x) s = settled (runStartSequence x s) := rfl
theorem exec_backgroundInitDone (s : State) : exec .backgroundInitDone s = settled (runBackgroundInitDone s) := rfl
theorem exec_startPartnerWaitExpiry (s : State) : exec .startPartnerWaitExpiry s = settled (runStartPartnerWaitExpiry s) := rfl
theorem exec_startCardRetry (now : Nat) (s : State) : exec (.startCardRetry now) s = settled (runStartCardRetry now s) := rfl
theorem exec_startSupervisionTimeout (tick : Nat) (s : State) : exec (.startSupervisionTimeout tick) s = settled (runStartSupervisionTimeout tick s) := rfl
theorem exec_recoveryDelayExpiry (tick : Nat) (s : State) : exec (.recoveryDelayExpiry tick) s = settled (runRecoveryDelayExpiry tick s) := rfl
theorem exec_resetRequest (w : Writer) (s : State) : exec (.resetRequest w) s = settled (runResetRequest w s) := rfl
theorem exec_slotPreferredWrite (w : Writer) (slot : Byte) (s : State) : exec (.slotPreferredWrite w slot) s = settled (runSlotPreferredWrite w slot s) := rfl
theorem exec_slotConfirm (w : Writer) (s : State) : exec (.slotConfirm w) s = settled (runSlotConfirm w s) := rfl
theorem exec_storedWriteCommit (key : BitVec 24) (s : State) : exec (.storedWriteCommit key) s = settled (runStoredWriteCommit key s) := rfl
theorem exec_sstPhaseEnd (r : SstResult) (s : State) : exec (.sstPhaseEnd r) s = settled (runSstPhaseEnd r s) := rfl
theorem exec_readInit (p : Pdu) (s : State) : exec (.readInit p) s = settled (runReadInit p s) := rfl
theorem exec_readSeg (p : Pdu) (s : State) : exec (.readSeg p) s = settled (runReadSeg p s) := rfl
theorem exec_writeInit (p : Pdu) (s : State) : exec (.writeInit p) s = settled (runWriteInit p s) := rfl
theorem exec_writeSeg (p : Pdu) (s : State) : exec (.writeSeg p) s = settled (runWriteSeg p s) := rfl
theorem exec_abort (p : Pdu) (s : State) : exec (.abort p) s = settled (runAbort p s) := rfl
theorem exec_unknownService (p : Pdu) (s : State) : exec (.unknownService p) s = settled (runUnknownService p s) := rfl
theorem exec_registerWrite (w : Writer) (key : BitVec 24) (bytes : List Byte) (s : State) : exec (.registerWrite w key bytes) s = settled (runRegisterWrite w key bytes s) := rfl
theorem exec_sealedEntryWrite (w : Writer) (key : BitVec 24) (bytes : List Byte) (s : State) : exec (.sealedEntryWrite w key bytes) s = settled (runSealedEntryWrite w key bytes s) := rfl
theorem exec_sigConfirm (w : Writer) (crc : Word) (s : State) : exec (.sigConfirm w crc) s = settled (runSigConfirm w crc s) := rfl
theorem exec_keyEntryWrite (w : Writer) (k : Fin 3) (bytes : List Byte) (s : State) : exec (.keyEntryWrite w k bytes) s = settled (runKeyEntryWrite w k bytes s) := rfl
theorem exec_segTimeout (c : Client) (tag : Byte) (s : State) : exec (.segTimeout c tag) s = settled (runSegTimeout c tag s) := rfl
theorem exec_sessionOpen (p : Pdu) (code : Byte) (nonce : BitVec 128) (s : State) : exec (.sessionOpen p code nonce) s = settled (runSessionOpen p code nonce s) := rfl
theorem exec_sessionResponse (p : Pdu) (mac : BitVec 256) (s : State) : exec (.sessionResponse p mac) s = settled (runSessionResponse p mac s) := rfl
theorem exec_sessionClose (p : Pdu) (s : State) : exec (.sessionClose p) s = settled (runSessionClose p s) := rfl
theorem exec_sessionIdleExpiry (s : State) : exec .sessionIdleExpiry s = settled (runSessionIdleExpiry s) := rfl
theorem exec_sessionOwnerSilence (s : State) : exec .sessionOwnerSilence s = settled (runSessionOwnerSilence s) := rfl
theorem exec_challengeLapse (s : State) : exec .challengeLapse s = settled (runChallengeLapse s) := rfl
theorem exec_lockoutExpiry (s : State) : exec .lockoutExpiry s = settled (runLockoutExpiry s) := rfl
theorem exec_icIntegrationStart (n : Fin 18) (s : State) : exec (.icIntegrationStart n) s = settled (runIcIntegrationStart n s) := rfl
theorem exec_icIntegrationEnd (n : Fin 18) (c : Charge) (s : State) : exec (.icIntegrationEnd n c) s = settled (runIcIntegrationEnd n c s) := rfl
theorem exec_shuntOffsetAverage (n : Fin 18) (s : State) : exec (.shuntOffsetAverage n) s = settled (runShuntOffsetAverage n s) := rfl
theorem exec_gcSettleEnd (g : Fin 4) (s : State) : exec (.gcSettleEnd g) s = settled (runGcSettleEnd g s) := rfl
theorem exec_gcWindowEnd (g : Fin 4) (c : Charge) (s : State) : exec (.gcWindowEnd g c) s = settled (runGcWindowEnd g c s) := rfl
theorem exec_refSettledSet (r : Ref) (s : State) : exec (.refSettledSet r) s = settled (runRefSettledSet r s) := rfl
theorem exec_refSettledClear (r : Ref) (s : State) : exec (.refSettledClear r) s = settled (runRefSettledClear r s) := rfl
theorem exec_refSettleTimeout (r : Ref) (s : State) : exec (.refSettleTimeout r) s = settled (runRefSettleTimeout r s) := rfl
theorem exec_calStart (w : Writer) (s : State) : exec (.calStart w) s = settled (runCalStart w s) := rfl
theorem exec_calibrationComplete (res : List CalResult) (s : State) : exec (.calibrationComplete res) s = settled (runCalibrationComplete res s) := rfl
theorem exec_supFault (k : Fin 4) (high : Bool) (s : State) : exec (.supFault k high) s = settled (runSupFault k high s) := rfl
theorem exec_supRetry (k : Fin 4) (ok : Bool) (s : State) : exec (.supRetry k ok) s = settled (runSupRetry k ok s) := rfl
theorem exec_supRestart (w : Writer) (s : State) : exec (.supRestart w) s = settled (runSupRestart w s) := rfl
theorem exec_fbInputEdge (n : Fin 12) (e : FbEvent) (clock : Nat) (s : State) : exec (.fbInputEdge n e clock) s = settled (runFbInputEdge n e clock s) := rfl
theorem exec_extensionRead (n : Fin 12) (s : State) : exec (.extensionRead n) s = settled (runExtensionRead n s) := rfl
theorem exec_fbExtRebase (w : Writer) (n : Fin 12) (v : BitVec 64) (s : State) : exec (.fbExtRebase w n v) s = settled (runFbExtRebase w n v s) := rfl
theorem exec_indexEvent (n : Fin 12) (clock : Nat) (s : State) : exec (.indexEvent n clock) s = settled (runIndexEvent n clock s) := rfl
theorem exec_slipCountClear (w : Writer) (n : Fin 12) (s : State) : exec (.slipCountClear w n) s = settled (runSlipCountClear w n s) := rfl
theorem exec_fbCounterPreset (w : Writer) (n : Fin 12) (v : Word) (s : State) : exec (.fbCounterPreset w n v) s = settled (runFbCounterPreset w n v s) := rfl
theorem exec_fbClassWrite (w : Writer) (n : Fin 12) (v : Byte) (s : State) : exec (.fbClassWrite w n v) s = settled (runFbClassWrite w n v s) := rfl
theorem exec_indexCprWrite (w : Writer) (n : Fin 12) (v : Word) (s : State) : exec (.indexCprWrite w n v) s = settled (runIndexCprWrite w n v s) := rfl
theorem exec_latchInputEdge (k : Fin 4) (rising : Bool) (time : Nat) (s : State) : exec (.latchInputEdge k rising time) s = settled (runLatchInputEdge k rising time s) := rfl
theorem exec_latchCommandLatch (w : Writer) (n : Fin 12) (s : State) : exec (.latchCommandLatch w n) s = settled (runLatchCommandLatch w n s) := rfl
theorem exec_latchRearm (w : Writer) (n : Fin 12) (s : State) : exec (.latchRearm w n) s = settled (runLatchRearm w n s) := rfl
theorem exec_sentFrame (n : Fin 8) (f : SentFrame) (s : State) : exec (.sentFrame n f) s = settled (runSentFrame n f s) := rfl
theorem exec_sentTimeout (n : Fin 8) (micros : Nat) (s : State) : exec (.sentTimeout n micros) s = settled (runSentTimeout n micros s) := rfl
theorem exec_hallEdge (a : Fin 6) (code : Fin 8) (clock : HallAt) (s : State) : exec (.hallEdge a code clock) s = settled (runHallEdge a code clock s) := rfl
theorem exec_hallInvalidCode (a : Fin 6) (s : State) : exec (.hallInvalidCode a) s = settled (runHallInvalidCode a s) := rfl
theorem exec_observerCoast (o : Fin 12) (s : State) : exec (.observerCoast o) s = settled (runObserverCoast o s) := rfl
theorem exec_obCommand (w : Writer) (o : Fin 12) (s : State) : exec (.obCommand w o) s = settled (runObCommand w o s) := rfl
theorem exec_cellStateWrite (w : Writer) (n : Fin 256) (second : Bool) (v : Word) (s : State) : exec (.cellStateWrite w n second v) s = settled (runCellStateWrite w n second v s) := rfl
theorem exec_cellStatusClear (w : Writer) (n : Fin 256) (s : State) : exec (.cellStatusClear w n) s = settled (runCellStatusClear w n s) := rfl
theorem exec_loopLoadPeakClear (w : Writer) (s : State) : exec (.loopLoadPeakClear w) s = settled (runLoopLoadPeakClear w s) := rfl
theorem exec_traceArm (w : Writer) (s : State) : exec (.traceArm w) s = settled (runTraceArm w s) := rfl
theorem exec_traceForceTrigger (w : Writer) (s : State) : exec (.traceForceTrigger w) s = settled (runTraceForceTrigger w s) := rfl
theorem exec_traceFreeze (w : Writer) (s : State) : exec (.traceFreeze w) s = settled (runTraceFreeze w s) := rfl
theorem exec_bootstrapUndervoltage (n : Fin 6) (leg : BootLeg) (s : State) : exec (.bootstrapUndervoltage n leg) s = settled (runBootstrapUndervoltage n leg s) := rfl
theorem exec_gateStateMismatch (n : Fin 6) (leg : Fin 3) (high on : Bool) (s : State) : exec (.gateStateMismatch n leg high on) s = settled (runGateStateMismatch n leg high on s) := rfl
theorem exec_desatTrip (n : Fin 6) (leg : Fin 3) (high : Bool) (s : State) : exec (.desatTrip n leg high) s = settled (runDesatTrip n leg high s) := rfl
theorem exec_shuntOcTrip (n : Fin 6) (leg : Fin 3) (s : State) : exec (.shuntOcTrip n leg) s = settled (runShuntOcTrip n leg s) := rfl
theorem exec_ascExit (n : Fin 6) (s : State) : exec (.ascExit n) s = settled (runAscExit n s) := rfl
theorem exec_armGrant (bit : Fin 26) (s : State) : exec (.armGrant bit) s = settled (runArmGrant bit s) := rfl
theorem exec_armWithdraw (bit : Fin 26) (s : State) : exec (.armWithdraw bit) s = settled (runArmWithdraw bit s) := rfl
theorem exec_emfComparatorCrossing (n : Fin 6) (thresh : Bool) (clock : Nat) (s : State) : exec (.emfComparatorCrossing n thresh clock) s = settled (runEmfComparatorCrossing n thresh clock s) := rfl
theorem exec_axIdentify (w : Writer) (n : Fin 6) (s : State) : exec (.axIdentify w n) s = settled (runAxIdentify w n s) := rfl
theorem exec_axIdentifyComplete (n : Fin 6) (s : State) : exec (.axIdentifyComplete n) s = settled (runAxIdentifyComplete n s) := rfl
theorem exec_keTrendAppend (n : Fin 6) (s : State) : exec (.keTrendAppend n) s = settled (runKeTrendAppend n s) := rfl
theorem exec_linkGuardCrossing (mv : Nat) (s : State) : exec (.linkGuardCrossing mv) s = settled (runLinkGuardCrossing mv s) := rfl
theorem exec_dumpMaxOnExpiry (s : State) : exec .dumpMaxOnExpiry s = settled (runDumpMaxOnExpiry s) := rfl
theorem exec_generatorStep (m : Fin 12) (s : State) : exec (.generatorStep m) s = settled (runGeneratorStep m s) := rfl
theorem exec_mxGo (w : Writer) (m : Fin 12) (s : State) : exec (.mxGo w m) s = settled (runMxGo w m s) := rfl
theorem exec_mxStop (w : Writer) (m : Fin 12) (s : State) : exec (.mxStop w m) s = settled (runMxStop w m s) := rfl
theorem exec_mxModeWrite (w : Writer) (m : Fin 12) (v : Byte) (s : State) : exec (.mxModeWrite w m v) s = settled (runMxModeWrite w m v s) := rfl
theorem exec_gearTableRequestWrite (w : Writer) (m : Fin 12) (v : Byte) (s : State) : exec (.gearTableRequestWrite w m v) s = settled (runGearTableRequestWrite w m v s) := rfl
theorem exec_gearTableSwitch (m : Fin 12) (s : State) : exec (.gearTableSwitch m) s = settled (runGearTableSwitch m s) := rfl
theorem exec_cmpPositionWrite (w : Writer) (n : Fin 12) (u : Fin 4) (v : Word) (s : State) : exec (.cmpPositionWrite w n u v) s = settled (runCmpPositionWrite w n u v s) := rfl
theorem exec_cmpControlWrite (w : Writer) (n : Fin 12) (u : Fin 4) (v : Byte) (s : State) : exec (.cmpControlWrite w n u v) s = settled (runCmpControlWrite w n u v s) := rfl
theorem exec_chopperCurrentReached (k : Fin 4) (c : Fin 2) (s : State) : exec (.chopperCurrentReached k c) s = settled (runChopperCurrentReached k c s) := rfl
theorem exec_chopperTonMax (k : Fin 4) (c : Fin 2) (s : State) : exec (.chopperTonMax k c) s = settled (runChopperTonMax k c s) := rfl
theorem exec_fastDecayEnd (k : Fin 4) (c : Fin 2) (i : Int) (s : State) : exec (.fastDecayEnd k c i) s = settled (runFastDecayEnd k c i s) := rfl
theorem exec_chopperOfftimeEnd (k : Fin 4) (c : Fin 2) (i : Int) (s : State) : exec (.chopperOfftimeEnd k c i) s = settled (runChopperOfftimeEnd k c i s) := rfl
theorem exec_vsOvercurrent (k : Fin 4) (c : Fin 2) (qual : Fin 3) (s : State) : exec (.vsOvercurrent k c qual) s = settled (runVsOvercurrent k c qual s) := rfl
theorem exec_vsClearShort (w : Writer) (k : Fin 4) (s : State) : exec (.vsClearShort w k) s = settled (runVsClearShort w k s) := rfl
theorem exec_solUpperCrossing (m : Fin 16) (i : Nat) (s : State) : exec (.solUpperCrossing m i) s = settled (runSolUpperCrossing m i s) := rfl
theorem exec_solProbe (m : Fin 16) (s : State) : exec (.solProbe m) s = settled (runSolProbe m s) := rfl
theorem exec_solProbeEnd (m : Fin 16) (i : Nat) (s : State) : exec (.solProbeEnd m i) s = settled (runSolProbeEnd m i s) := rfl
theorem exec_pullinEnd (m : Fin 16) (s : State) : exec (.pullinEnd m) s = settled (runPullinEnd m s) := rfl
theorem exec_solOvercurrent (m : Fin 16) (mv : Nat) (s : State) : exec (.solOvercurrent m mv) s = settled (runSolOvercurrent m mv s) := rfl
theorem exec_solShortToSupply (m : Fin 16) (mv : Nat) (s : State) : exec (.solShortToSupply m mv) s = settled (runSolShortToSupply m mv s) := rfl
theorem exec_solOpenLoadOn (m : Fin 16) (s : State) : exec (.solOpenLoadOn m) s = settled (runSolOpenLoadOn m s) := rfl
theorem exec_solOpenLoadOff (m : Fin 16) (mv : Nat) (s : State) : exec (.solOpenLoadOff m mv) s = settled (runSolOpenLoadOff m mv s) := rfl
theorem exec_solClearFaults (w : Writer) (m : Fin 16) (s : State) : exec (.solClearFaults w m) s = settled (runSolClearFaults w m s) := rfl
theorem exec_pedalDisagreeTimeout (s : State) : exec .pedalDisagreeTimeout s = settled (runPedalDisagreeTimeout s) := rfl
theorem exec_peerLinesQuiet (s : State) : exec .peerLinesQuiet s = settled (runPeerLinesQuiet s) := rfl
theorem exec_rankDelayExpiry (s : State) : exec .rankDelayExpiry s = settled (runRankDelayExpiry s) := rfl
theorem exec_leadRecheckEnd (s : State) : exec .leadRecheckEnd s = settled (runLeadRecheckEnd s) := rfl
theorem exec_leadRequestGiveUp (w : Writer) (s : State) : exec (.leadRequestGiveUp w) s = settled (runLeadRequestGiveUp w s) := rfl
theorem exec_leadRequestLineTest (w : Writer) (s : State) : exec (.leadRequestLineTest w) s = settled (runLeadRequestLineTest w s) := rfl
theorem exec_cardIssueMessage (p : Fin 2) (m : Card) (now : Nat) (s : State) : exec (.cardIssueMessage p m now) s = settled (runCardIssueMessage p m now s) := rfl
theorem exec_cardRenewMessage (p : Fin 2) (m : Card) (s : State) : exec (.cardRenewMessage p m) s = settled (runCardRenewMessage p m s) := rfl
theorem exec_cardPassMessage (p : Fin 2) (m : Card) (s : State) : exec (.cardPassMessage p m) s = settled (runCardPassMessage p m s) := rfl
theorem exec_cardReleaseMessage (p : Fin 2) (m : Card) (s : State) : exec (.cardReleaseMessage p m) s = settled (runCardReleaseMessage p m s) := rfl
theorem exec_cardRenewTimer (now : Nat) (s : State) : exec (.cardRenewTimer now) s = settled (runCardRenewTimer now s) := rfl
theorem exec_cardLeaseExpiry (s : State) : exec .cardLeaseExpiry s = settled (runCardLeaseExpiry s) := rfl
theorem exec_cardHandoverEdge (s : State) : exec .cardHandoverEdge s = settled (runCardHandoverEdge s) := rfl
theorem exec_cardSuccessionIssue (now : Nat) (s : State) : exec (.cardSuccessionIssue now) s = settled (runCardSuccessionIssue now s) := rfl
theorem exec_lineTestPulse (k : Fin 4) (seen : Bool) (s : State) : exec (.lineTestPulse k seen) s = settled (runLineTestPulse k seen s) := rfl
theorem exec_lineTestEvaluate (now : Nat) (s : State) : exec (.lineTestEvaluate now) s = settled (runLineTestEvaluate now s) := rfl
theorem exec_lineTestPeriodExpiry (now : Nat) (s : State) : exec (.lineTestPeriodExpiry now) s = settled (runLineTestPeriodExpiry now s) := rfl
theorem exec_laneAnnouncement (p : Fin 2) (a : Announcement) (s : State) : exec (.laneAnnouncement p a) s = settled (runLaneAnnouncement p a s) := rfl
theorem exec_shadowRecord (r : ShadowRecord) (s : State) : exec (.shadowRecord r) s = settled (runShadowRecord r s) := rfl
theorem exec_healthBlock (p : Fin 2) (word : Word) (votes obs : Byte) (s : State) : exec (.healthBlock p word votes obs) s = settled (runHealthBlock p word votes obs s) := rfl
theorem exec_peerWordsTimeout (p : Fin 2) (s : State) : exec (.peerWordsTimeout p) s = settled (runPeerWordsTimeout p s) := rfl
theorem exec_chapRequest (r : Request) (s : State) : exec (.chapRequest r) s = settled (runChapRequest r s) := rfl
theorem exec_sidePathMessage (good : Bool) (ebMv : SideRead) (s : State) : exec (.sidePathMessage good ebMv) s = settled (runSidePathMessage good ebMv s) := rfl
theorem exec_steerRateTimeout (n : AxisAt) (s : State) : exec (.steerRateTimeout n) s = settled (runSteerRateTimeout n s) := rfl
theorem exec_brakeEnvelopeTimeout (high : Bool) (s : State) : exec (.brakeEnvelopeTimeout high) s = settled (runBrakeEnvelopeTimeout high s) := rfl
theorem exec_chapReferenceObserved (r : RefSeen) (s : State) : exec (.chapReferenceObserved r) s = settled (runChapReferenceObserved r s) := rfl
theorem exec_guardCoastExpiry (s : State) : exec .guardCoastExpiry s = settled (runGuardCoastExpiry s) := rfl
theorem exec_guardianBlock (port : Fin 4) (window : BitVec 8) (s : State) : exec (.guardianBlock port window) s = settled (runGuardianBlock port window s) := rfl
theorem exec_guardianCut (port : Fin 4) (window : BitVec 8) (s : State) : exec (.guardianCut port window) s = settled (runGuardianCut port window s) := rfl
theorem exec_chapConfigRecheck (found : Word) (s : State) : exec (.chapConfigRecheck found) s = settled (runChapConfigRecheck found s) := rfl
theorem exec_wdgPeriodStart (s : State) : exec .wdgPeriodStart s = settled (runWdgPeriodStart s) := rfl
theorem exec_wdgAnswer (answer : Word) (micros : Nat) (eb : Bool) (s : State) : exec (.wdgAnswer answer micros eb) s = settled (runWdgAnswer answer micros eb s) := rfl
theorem exec_wdgWindowClose (s : State) : exec .wdgWindowClose s = settled (runWdgWindowClose s) := rfl
theorem exec_ascGrantWithdraw (n : AxisAt) (s : State) : exec (.ascGrantWithdraw n) s = settled (runAscGrantWithdraw n s) := rfl
theorem exec_ebSilentRelease (s : State) : exec .ebSilentRelease s = settled (runEbSilentRelease s) := rfl
theorem exec_ladderWaltzDelayExpiry (s : State) : exec .ladderWaltzDelayExpiry s = settled (runLadderWaltzDelayExpiry s) := rfl
theorem exec_ladderRequestClear (s : State) : exec .ladderRequestClear s = settled (runLadderRequestClear s) := rfl
theorem exec_waltzWaitExpiry (now : Nat) (s : State) : exec (.waltzWaitExpiry now) s = settled (runWaltzWaitExpiry now s) := rfl
theorem exec_waltzRankDelay (s : State) : exec .waltzRankDelay s = settled (runWaltzRankDelay s) := rfl
theorem exec_waltzRecheck (s : State) : exec .waltzRecheck s = settled (runWaltzRecheck s) := rfl
theorem exec_waltzHoldEnd (s : State) : exec .waltzHoldEnd s = settled (runWaltzHoldEnd s) := rfl
theorem exec_ebRampPeriod (now : Nat) (s : State) : exec (.ebRampPeriod now) s = settled (runEbRampPeriod now s) := rfl
theorem exec_ebRampEnd (s : State) : exec .ebRampEnd s = settled (runEbRampEnd s) := rfl
theorem exec_frameLatch (p : Fin 4) (w : Fin 24) (now : Nat) (s : State) : exec (.frameLatch p w now) s = settled (runFrameLatch p w now s) := rfl
theorem exec_windowTransmit (p : Fin 4) (w : Fin 24) (now : Nat) (s : State) : exec (.windowTransmit p w now) s = settled (runWindowTransmit p w now s) := rfl
theorem exec_raluneFrameReceived (p : Fin 4) (f : RxFrame) (now : Nat) (s : State) : exec (.raluneFrameReceived p f now) s = settled (runRaluneFrameReceived p f now s) := rfl
theorem exec_referenceFrame (p : Fin 4) (f : RefFrame) (s : State) : exec (.referenceFrame p f) s = settled (runReferenceFrame p f s) := rfl
theorem exec_syncTimeout (s : State) : exec .syncTimeout s = settled (runSyncTimeout s) := rfl
theorem exec_portDown (p : Fin 4) (qual : Fin 5) (elapsed : Nat) (s : State) : exec (.portDown p qual elapsed) s = settled (runPortDown p qual elapsed s) := rfl
theorem exec_coldStartSilence (p : Fin 4) (s : State) : exec (.coldStartSilence p) s = settled (runColdStartSilence p s) := rfl
theorem exec_coldStartDelay (p : Fin 4) (s : State) : exec (.coldStartDelay p) s = settled (runColdStartDelay p s) := rfl
theorem exec_referenceCollision (p : Fin 4) (now : Nat) (s : State) : exec (.referenceCollision p now) s = settled (runReferenceCollision p now s) := rfl
theorem exec_timeStepApply (s : State) : exec .timeStepApply s = settled (runTimeStepApply s) := rfl
theorem exec_spareSilence (p : Fin 4) (idx : Fin 32) (s : State) : exec (.spareSilence p idx) s = settled (runSpareSilence p idx s) := rfl
theorem exec_networkAnnouncement (p : Fin 4) (addr : BitVec 7) (content : BitVec 192) (now : Nat) (s : State) : exec (.networkAnnouncement p addr content now) s = settled (runNetworkAnnouncement p addr content now s) := rfl
theorem exec_announceRepeatTimer (s : State) : exec .announceRepeatTimer s = settled (runAnnounceRepeatTimer s) := rfl
theorem exec_azsinTimeout (c : Fin 1024) (s : State) : exec (.azsinTimeout c) s = settled (runAzsinTimeout c s) := rfl
theorem exec_azCommandRecover (w : Writer) (c : Fin 1024) (s : State) : exec (.azCommandRecover w c) s = settled (runAzCommandRecover w c s) := rfl
theorem exec_routeWaitExpiry (s : State) : exec .routeWaitExpiry s = settled (runRouteWaitExpiry s) := rfl
theorem exec_streamClockDetect (s : State) : exec .streamClockDetect s = settled (runStreamClockDetect s) := rfl
theorem exec_streamTsReceived (credits0 credits1 : BitVec 16) (ts : TsSeen) (micros : BitVec 32) (s : State) : exec (.streamTsReceived credits0 credits1 ts micros) s = settled (runStreamTsReceived credits0 credits1 ts micros s) := rfl
theorem exec_streamTrainingTimeout (lanes : BitVec 4) (s : State) : exec (.streamTrainingTimeout lanes) s = settled (runStreamTrainingTimeout lanes s) := rfl
theorem exec_streamIdleEnd (s : State) : exec .streamIdleEnd s = settled (runStreamIdleEnd s) := rfl
theorem exec_streamLinkLoss (qual : Fin 6) (lanes : BitVec 4) (errors : Nat) (s : State) : exec (.streamLinkLoss qual lanes errors) s = settled (runStreamLinkLoss qual lanes errors s) := rfl
theorem exec_streamFrameReceived (f : StreamFrame) (now : Nat) (s : State) : exec (.streamFrameReceived f now) s = settled (runStreamFrameReceived f now s) := rfl
theorem exec_imageLoadIdle (s : State) : exec .imageLoadIdle s = settled (runImageLoadIdle s) := rfl
theorem exec_creditColumn (cls : Fin 2) (count : BitVec 16) (s : State) : exec (.creditColumn cls count) s = settled (runCreditColumn cls count s) := rfl
theorem exec_streamFrameSend (now : Nat) (s : State) : exec (.streamFrameSend now) s = settled (runStreamFrameSend now s) := rfl
theorem exec_streamCreditTimeout (cls : Fin 2) (s : State) : exec (.streamCreditTimeout cls) s = settled (runStreamCreditTimeout cls s) := rfl
theorem exec_streamEnableWrite (w : Writer) (on : Bool) (s : State) : exec (.streamEnableWrite w on) s = settled (runStreamEnableWrite w on s) := rfl
theorem exec_eccError (e : EccError) (s : State) : exec (.eccError e) s = settled (runEccError e s) := rfl
theorem exec_remapCopyDone (m : Fin 11) (base : BitVec 32) (s : State) : exec (.remapCopyDone m base) s = settled (runRemapCopyDone m base s) := rfl
theorem exec_retirementCommit (m : Fin 11) (base : BitVec 32) (s : State) : exec (.retirementCommit m base) s = settled (runRetirementCommit m base s) := rfl
theorem exec_watchEntryAgeOut (m : Fin 11) (word : BitVec 32) (s : State) : exec (.watchEntryAgeOut m word) s = settled (runWatchEntryAgeOut m word s) := rfl
theorem exec_scrubLapEnd (m : Fin 11) (ms : BitVec 32) (s : State) : exec (.scrubLapEnd m ms) s = settled (runScrubLapEnd m ms s) := rfl
theorem exec_scrubLapLimitExpiry (m : Fin 11) (s : State) : exec (.scrubLapLimitExpiry m) s = settled (runScrubLapLimitExpiry m s) := rfl
theorem exec_dmaDescriptorWrite (ch : Fin 16) (d : Descriptor) (s : State) : exec (.dmaDescriptorWrite ch d) s = settled (runDmaDescriptorWrite ch d s) := rfl
theorem exec_dmaComplete (ch : Fin 16) (s : State) : exec (.dmaComplete ch) s = settled (runDmaComplete ch s) := rfl
theorem exec_recordTriggerCommand (w : Writer) (s : State) : exec (.recordTriggerCommand w) s = settled (runRecordTriggerCommand w s) := rfl
theorem exec_recordErase (w : Writer) (s : State) : exec (.recordErase w) s = settled (runRecordErase w s) := rfl
theorem exec_recordDownload (w : Writer) (slot : Byte) (s : State) : exec (.recordDownload w slot) s = settled (runRecordDownload w slot s) := rfl
theorem exec_commitPageWrite (bad : Option EccError) (s : State) : exec (.commitPageWrite bad) s = settled (runCommitPageWrite bad s) := rfl
theorem exec_recordPostEnd (s : State) : exec .recordPostEnd s = settled (runRecordPostEnd s) := rfl
theorem exec_commitTrailerDone (s : State) : exec .commitTrailerDone s = settled (runCommitTrailerDone s) := rfl
theorem exec_slotEraseDone (s : State) : exec .slotEraseDone s = settled (runSlotEraseDone s) := rfl
theorem exec_faultMessage (s : State) : exec .faultMessage s = settled (runFaultMessage s) := rfl
theorem exec_criticalLine (s : State) : exec .criticalLine s = settled (runCriticalLine s) := rfl
theorem exec_faultReactExpiry (src : BitVec 10) (kind : Byte) (s : State) : exec (.faultReactExpiry src kind) s = settled (runFaultReactExpiry src kind s) := rfl
theorem exec_faultAcknowledge (src : BitVec 10) (kind seq : Byte) (s : State) : exec (.faultAcknowledge src kind seq) s = settled (runFaultAcknowledge src kind seq s) := rfl
theorem exec_faultRowClear (src : BitVec 10) (kind : Byte) (s : State) : exec (.faultRowClear src kind) s = settled (runFaultRowClear src kind s) := rfl
theorem exec_faultClearWrite (w : Writer) (v : Word) (s : State) : exec (.faultClearWrite w v) s = settled (runFaultClearWrite w v s) := rfl
theorem exec_faultLogCommit (s : State) : exec .faultLogCommit s = settled (runFaultLogCommit s) := rfl
theorem exec_governorSample (t1 t2 : BitVec 16) (s : State) : exec (.governorSample t1 t2) s = settled (runGovernorSample t1 t2 s) := rfl
theorem exec_stageShutdown (t : BitVec 16) (s : State) : exec (.stageShutdown t) s = settled (runStageShutdown t s) := rfl
theorem exec_tjPowerPeakClear (w : Writer) (s : State) : exec (.tjPowerPeakClear w) s = settled (runTjPowerPeakClear w s) := rfl
theorem exec_hourlyCommit (s : State) : exec .hourlyCommit s = settled (runHourlyCommit s) := rfl
theorem exec_powerOn (first again : StrapReads) (s : State) : exec (.powerOn first again) s = settled (runPowerOn first again s) := rfl
theorem exec_dumpForcedOffEnd (s : State) : exec .dumpForcedOffEnd s = settled (runDumpForcedOffEnd s) := rfl
theorem exec_waltzToffEnd (n : Fin 6) (s : State) : exec (.waltzToffEnd n) s = settled (runWaltzToffEnd n s) := rfl
theorem exec_stepPulseEnd (k : Fin 4) (s : State) : exec (.stepPulseEnd k) s = settled (runStepPulseEnd k s) := rfl
theorem exec_chopperBlankEnd (k : Fin 4) (c : Fin 2) (reached : Bool) (s : State) : exec (.chopperBlankEnd k c reached) s = settled (runChopperBlankEnd k c reached s) := rfl
theorem exec_solMinOnEnd (m : Fin 16) (i : Nat) (s : State) : exec (.solMinOnEnd m i) s = settled (runSolMinOnEnd m i s) := rfl
theorem exec_vsOpenLoadOff (k : Fin 4) (c : Fin 2) (s : State) : exec (.vsOpenLoadOff k c) s = settled (runVsOpenLoadOff k c s) := rfl
theorem exec_busOffRecovery (p : Fin 4) (s : State) : exec (.busOffRecovery p) s = settled (runBusOffRecovery p s) := rfl
theorem exec_creditColumnSend (cls : Fin 2) (s : State) : exec (.creditColumnSend cls) s = settled (runCreditColumnSend cls s) := rfl
theorem exec_streamAzsinLatch (now : Nat) (s : State) : exec (.streamAzsinLatch now) s = settled (runStreamAzsinLatch now s) := rfl
theorem exec_sidePathMissing (s : State) : exec .sidePathMissing s = settled (runSidePathMissing s) := rfl
theorem exec_frameTransmitted (p : Fin 4) (w : Fin 24) (own : Bool) (now : Nat) (s : State) : exec (.frameTransmitted p w own now) s = settled (runFrameTransmitted p w own now s) := rfl

end Sys2Proof.Machine
end

