-- ==== Sys2Proof/Laws/Writes.lean ====
section
/-!
SUPPORT. Laws/Writes.lean: what a completed write of one entry does once its judgement lets it stand (R551): the object-table row of
every entry that a command names, and the behaviour its write reaches.
-/
namespace Sys2Proof.Laws
open Sys2Proof.Machine

/-- The object-table row of a key has this type, access, persistence, level and range. -/
def rowIs (key : Nat) (ty : Ty) (acc : Access) (p : Persist) (l : Level) (c : Chk) : Bool :=
  match rowOf key with
  | some r => decide (r.ty = ty) && decide (r.acc = acc) && decide (r.persist = p) && decide (r.level = l) && decide (r.chk = c)
  | none => false

theorem rowIs_some {key : Nat} {ty : Ty} {acc : Access} {p : Persist} {l : Level} {c : Chk} (h : rowIs key ty acc p l c = true) :
    ∃ r, rowOf key = some r ∧ r.ty = ty ∧ r.acc = acc ∧ r.persist = p ∧ r.level = l ∧ r.chk = c := by
  unfold rowIs at h
  split at h
  · next r hr =>
    simp only [Bool.and_eq_true, decide_eq_true_eq] at h
    obtain ⟨⟨⟨⟨a, b⟩, c⟩, d⟩, e⟩ := h
    exact ⟨r, hr, a, b, c, d, e⟩
  · cases h

/-- The least session that an entry of a level and persistence needs. -/
def needOf (p : Persist) (l : Level) : Nat := if l = .expert then 2 else if p = .stored ∨ p = .sealed then 1 else 0

/-- A write that its judgement lets stand, of an entry that is neither sealed nor at rest only: its behaviour runs. -/
theorem write_stands {s : State} {w : Writer} {n key : Nat} {bytes : List Byte} {ty : Ty} {acc : Access} {p : Persist} {l : Level}
    {c : Chk} {x : Int} (hw : MayWrite s w n) (hr : rowIs key ty acc p l c = true) (hn : max (needOf p l) (namedLevel key bytes) ≤ n)
    (ha : acc = .wo ∨ acc = .rw ∨ (acc = .rwr ∧ s.unitRest key = true)) (hp : p ≠ .sealed) (hd : ty.decode bytes = .ok (.num x))
    (hv : c.judge x = none) (hz : s.depends key (.num x) = 0) :
    ∃ r, r.acc = acc ∧ r.persist = p ∧ s.clientWrite w key bytes = .next (s.effect w r key (.num x)).1 := by
  obtain ⟨r, h0, rfl, rfl, rfl, rfl, rfl⟩ := rowIs_some hr
  refine ⟨r, rfl, rfl, ?_⟩
  have hneed : max (writeNeed r) (namedLevel key bytes) ≤ s.level w.client := le_trans hn hw.2
  have hj : s.writeJudge w.client key bytes = .ok (r, .num x) := by
    unfold State.writeJudge
    rw [h0]
    have h1 : r.acc ≠ .ro := by rcases ha with h | h | h <;> simp_all
    have h2 : r.acc ≠ .rwc := by rcases ha with h | h | h <;> simp_all
    have h3 : ¬ s.level w.client < max (writeNeed r) (namedLevel key bytes) := by omega
    simp only [h1, h2, h3, hp, if_false, false_and, hd, valueJudge, hv]
    simp
  unfold State.clientWrite State.dictWrite
  rw [hw.1, hj]
  have h4 : ¬ (r.acc = .rwr ∧ !s.unitRest key) := by
    rintro ⟨h, h'⟩
    rcases ha with h'' | h'' | h''
    · simp [h] at h''
    · simp [h] at h''
    · simp [h''.2] at h'
  simp only [h4, if_false, hz, hp, if_true, ne_eq, not_true_eq_false]

/-! ### The rows of the entries that a command writes. -/

theorem row_resetRequest : rowIs Obj.RESET_REQUEST .u8 .wo .volUnit .basic (.set [90]) = true := by decide
theorem row_slotPreferred : rowIs Obj.SLOT_PREFERRED .u8 .rw .stored .basic (.set [0, 1]) = true := by decide
theorem row_slotConfirm : rowIs Obj.SLOT_CONFIRM .u8 .wo .volUnit .basic (.set [165]) = true := by decide
theorem row_sigConfirm : rowIs Obj.SIG_CONFIRM .u32 .wo .volUnit .basic .any = true := by decide
theorem row_keys : ∀ k : Fin 3, rowIs (Obj.KEY_SERVICE + k) (.octets 16) .wo .stored .expert .any = true := by decide
theorem row_calStart : rowIs Obj.CAL_START .u8 .wo .volUnit .basic (.set [197]) = true := by decide
theorem row_supRestart : rowIs Obj.SUP_RESTART .u8 .wo .volUnit .basic (.set [90]) = true := by decide
theorem row_fbExtRebase : ∀ n : Fin 12, rowIs (Obj.FB_EXT_REBASE n) .i64 .wo .volUnit .basic .any = true := by decide
theorem row_slipCount : ∀ n : Fin 12, rowIs (Obj.SLIP_COUNT n) .u8 .rw .volUnit .basic (.set [0]) = true := by decide
theorem row_fbCounter : ∀ n : Fin 12, rowIs (Obj.FB_COUNTER n) .u32 .rwr .volUnit .basic .any = true := by decide
theorem row_fbClass : ∀ n : Fin 12, rowIs (Obj.FB_CLASS n) .u8 .rwr .stored .basic (.set [0, 1, 2]) = true := by decide
theorem row_indexCpr : ∀ n : Fin 12, rowIs (Obj.INDEX_CPR n) .u32 .rwr .stored .basic .any = true := by decide
theorem row_latchCommand : ∀ n : Fin 12, rowIs (Obj.LATCH_COMMAND n) .u8 .wo .volUnit .basic (.set [76, 65]) = true := by decide
theorem row_obCommand : ∀ n : Fin 12, rowIs (Obj.OB_COMMAND n) .u8 .wo .volUnit .basic (.set [73]) = true := by decide
theorem row_cellState0 : ∀ n : Fin 256, rowIs (Obj.CELL_STATE0 n) .i32 .rw .volUnit .expert .any = true := by decide +kernel
theorem row_cellState1 : ∀ n : Fin 256, rowIs (Obj.CELL_STATE1 n) .i32 .rw .volUnit .expert .any = true := by decide +kernel
theorem row_cellStatus : ∀ n : Fin 256, rowIs (Obj.CELL_STATUS n) .u32 .rw .volUnit .expert (.set [0]) = true := by decide +kernel
theorem row_loopLoadPeak : rowIs Obj.LOOP_LOAD_PEAK .u32 .rw .volUnit .expert (.set [0]) = true := by decide
theorem row_traceCommand : rowIs Obj.TRACE_COMMAND .u8 .wo .volUnit .expert (.set [65, 84, 83]) = true := by decide
theorem row_axIdentify : ∀ n : Fin 6, rowIs (Obj.AX_IDENTIFY n) .u8 .wo .volUnit .expert (.set [82]) = true := by decide
theorem row_mxCommand : ∀ n : Fin 12, rowIs (Obj.MX_COMMAND n) .u8 .wo .volUnit .basic (.set [71, 83]) = true := by decide
theorem row_mxMode : ∀ n : Fin 12, rowIs (Obj.MX_MODE n) .u8 .rwr .volUnit .basic (.set [0, 1, 2, 3]) = true := by decide
theorem row_gearTableRequest : ∀ n : Fin 12, rowIs (Obj.GEAR_TABLE_REQUEST n) .u8 .rw .volUnit .basic (.set [0, 1]) = true := by decide
theorem row_cmpPosition : ∀ n : Fin 12, ∀ u : Fin 4, rowIs (Obj.CMP_POSITION n u) .u32 .rw .volUnit .basic .any = true := by decide +kernel
theorem row_cmpControl : ∀ n : Fin 12, ∀ u : Fin 4, rowIs (Obj.CMP_CONTROL n u) .u8 .rw .volUnit .basic .cmpControl = true := by decide +kernel
theorem row_vsCommand : ∀ n : Fin 4, rowIs (Obj.VS_COMMAND n) .u8 .wo .volUnit .basic (.set [82]) = true := by decide
theorem row_solCommand : ∀ n : Fin 16, rowIs (Obj.SOL_COMMAND n) .u8 .wo .volUnit .basic (.set [82]) = true := by decide
theorem row_leadRequest : rowIs Obj.LEAD_REQUEST .u8 .wo .volUnit .basic (.set [71, 84]) = true := by decide
theorem row_azCommand : ∀ n : Fin 1024, rowIs (Obj.AZ_COMMAND n) .u8 .wo .volApp .basic (.set [82]) = true := by decide +kernel
theorem row_streamEnable : rowIs Obj.STREAM_ENABLE .bool .rw .stored .basic .any = true := by decide
theorem row_recordCommand : rowIs Obj.RECORD_COMMAND .u8 .wo .volUnit .basic (.set [84, 69]) = true := by decide
theorem row_recordDownload : rowIs Obj.RECORD_DOWNLOAD .u8 .wo .volUnit .basic (.rng 0 7) = true := by decide
theorem row_faultClear : rowIs Obj.FAULT_CLEAR .u32 .wo .volUnit .basic .any = true := by decide
theorem row_tjPowerPeak : rowIs Obj.TJ_POWER_PEAK .i16 .rw .volUnit .expert (.set [0]) = true := by decide

/-! ### The behaviour each of these writes reaches. -/

theorem effect_resetRequest (s : State) (w : Writer) (r : ObjRow) (x : Int) :
    (s.effect w r Obj.RESET_REQUEST (.num x)).1 = s.keeperReset w.tick := by rfl
theorem effect_slotPreferred (s : State) (w : Writer) (r : ObjRow) (x : Int) :
    (s.effect w r Obj.SLOT_PREFERRED (.num x)).1 = s.slotPrefer x.toNat := by rfl
theorem effect_slotConfirm (s : State) (w : Writer) (r : ObjRow) (x : Int) :
    (s.effect w r Obj.SLOT_CONFIRM (.num x)).1 = (s.orReject s.slotConfirm).1 := by rfl
theorem effect_sigConfirm (s : State) (w : Writer) (r : ObjRow) (x : Int) :
    (s.effect w r Obj.SIG_CONFIRM (.num x)).1 = (s.sigConfirm x.toNat w.flash).1 := by rfl
theorem effect_calStart (s : State) (w : Writer) (r : ObjRow) (x : Int) :
    (s.effect w r Obj.CAL_START (.num x)).1 = (s.orReject s.calStart).1 := by rfl
theorem effect_supRestart (s : State) (w : Writer) (r : ObjRow) (x : Int) : (s.effect w r Obj.SUP_RESTART (.num x)).1 = s.supRestart := by rfl
theorem effect_fbExtRebase (n : Fin 12) (s : State) (w : Writer) (r : ObjRow) (x : Int) :
    (s.effect w r (Obj.FB_EXT_REBASE n) (.num x)).1 = (s.fbExtRebase n x).gearsFollow n := by
  have h1 : (Obj.FB_EXT_REBASE n / 256 - 0x4000) / 64 = n := by have := n.isLt; unfold Obj.FB_EXT_REBASE; omega
  have h2 : Obj.FB_EXT_REBASE n / 256 < 0x4300 ∧ 0x4000 ≤ Obj.FB_EXT_REBASE n / 256 := by
    have := n.isLt; unfold Obj.FB_EXT_REBASE; omega
  unfold State.effect
  simp only [h1]
  rw [if_neg (by unfold Obj.FB_EXT_REBASE Obj.LOOP_LOAD_PEAK; omega), if_pos ⟨h2.2, h2.1⟩]
  simp [State.fbWrite, valInt]
theorem effect_slipCount (n : Fin 12) (s : State) (w : Writer) (r : ObjRow) (x : Int) :
    (s.effect w r (Obj.SLIP_COUNT n) (.num x)).1 = s.slipClear n := by fin_cases n <;> rfl
theorem effect_fbCounter (n : Fin 12) (s : State) (w : Writer) (r : ObjRow) (x : Int) :
    (s.effect w r (Obj.FB_COUNTER n) (.num x)).1 = s.fbPreset n x := by fin_cases n <;> rfl
theorem effect_fbClass (n : Fin 12) (s : State) (w : Writer) (r : ObjRow) (x : Int) :
    (s.effect w r (Obj.FB_CLASS n) (.num x)).1 = (s.putStored (Obj.FB_CLASS n) (.num x)).fbClassWrite n x := by fin_cases n <;> rfl
theorem effect_indexCpr (n : Fin 12) (s : State) (w : Writer) (r : ObjRow) (x : Int) :
    (s.effect w r (Obj.INDEX_CPR n) (.num x)).1 = (s.putStored (Obj.INDEX_CPR n) (.num x)).indexCprWrite n x := by fin_cases n <;> rfl
theorem effect_latchCommand (n : Fin 12) (s : State) (w : Writer) (r : ObjRow) (x : Int) :
    (s.effect w r (Obj.LATCH_COMMAND n) (.num x)).1 = s.latchCommand n x w.now := by fin_cases n <;> rfl
theorem effect_obCommand (n : Fin 12) (s : State) (w : Writer) (r : ObjRow) (x : Int) :
    (s.effect w r (Obj.OB_COMMAND n) (.num x)).1 = s.obsInit n := by fin_cases n <;> rfl
theorem effect_cellState0 (n : Fin 256) (s : State) (w : Writer) (r : ObjRow) (x : Int) :
    (s.effect w r (Obj.CELL_STATE0 n) (.num x)).1 = s.cellStateWrite n true x := by 
  have h1 : Obj.CELL_STATE0 n / 256 = 0x5100 + n := by unfold Obj.CELL_STATE0; omega
  have := n.isLt
  unfold State.effect
  simp only [h1]
  rw [if_neg (by unfold Obj.CELL_STATE0 Obj.LOOP_LOAD_PEAK; omega), if_neg (by omega), if_neg (by omega), if_pos (by omega)]
  simp [State.cellWrite, valInt]
theorem effect_cellState1 (n : Fin 256) (s : State) (w : Writer) (r : ObjRow) (x : Int) :
    (s.effect w r (Obj.CELL_STATE1 n) (.num x)).1 = s.cellStateWrite n false x := by 
  have h1 : Obj.CELL_STATE1 n / 256 = 0x5100 + n := by unfold Obj.CELL_STATE1; omega
  have := n.isLt
  unfold State.effect
  simp only [h1]
  rw [if_neg (by unfold Obj.CELL_STATE1 Obj.LOOP_LOAD_PEAK; omega), if_neg (by omega), if_neg (by omega), if_pos (by omega)]
  simp [State.cellWrite, valInt, Obj.CELL_STATE0, Obj.CELL_STATE1]
theorem effect_cellStatus (n : Fin 256) (s : State) (w : Writer) (r : ObjRow) (x : Int) :
    (s.effect w r (Obj.CELL_STATUS n) (.num x)).1 = s.cellStatusClear n := by 
  have h1 : Obj.CELL_STATUS n / 256 = 0x5100 + n := by unfold Obj.CELL_STATUS; omega
  have := n.isLt
  unfold State.effect
  simp only [h1]
  rw [if_neg (by unfold Obj.CELL_STATUS Obj.LOOP_LOAD_PEAK; omega), if_neg (by omega), if_neg (by omega), if_pos (by omega)]
  simp [State.cellWrite, Obj.CELL_STATE0, Obj.CELL_STATE1, Obj.CELL_STATUS]
theorem effect_loopLoadPeak (s : State) (w : Writer) (r : ObjRow) (x : Int) :
    (s.effect w r Obj.LOOP_LOAD_PEAK (.num x)).1 = s.putN Obj.LOOP_LOAD_PEAK 0 := by rfl
theorem effect_traceCommand (s : State) (w : Writer) (r : ObjRow) (x : Int) :
    (s.effect w r Obj.TRACE_COMMAND (.num x)).1 = s.traceCommand x := by rfl
theorem effect_axIdentify (n : Fin 6) (s : State) (w : Writer) (r : ObjRow) (x : Int) :
    (s.effect w r (Obj.AX_IDENTIFY n) (.num x)).1 = (s.orReject (s.axIdentify n)).1 := by fin_cases n <;> rfl
theorem effect_mxCommand (n : Fin 12) (s : State) (w : Writer) (r : ObjRow) (x : Int) :
    (s.effect w r (Obj.MX_COMMAND n) (.num x)).1 = (s.mxCommand n x).1 := by fin_cases n <;> rfl
theorem effect_mxMode (n : Fin 12) (s : State) (w : Writer) (r : ObjRow) (x : Int) :
    (s.effect w r (Obj.MX_MODE n) (.num x)).1 = s.mxModeWrite n x := by fin_cases n <;> rfl
theorem effect_gearTableRequest (n : Fin 12) (s : State) (w : Writer) (r : ObjRow) (x : Int) :
    (s.effect w r (Obj.GEAR_TABLE_REQUEST n) (.num x)).1 = s.gearRequest n x := by fin_cases n <;> rfl
theorem effect_cmpPosition (n : Fin 12) (u : Fin 4) (s : State) (w : Writer) (r : ObjRow) (x : Int) :
    (s.effect w r (Obj.CMP_POSITION n u) (.num x)).1 = s.cmpPosition n u (.num x) := by fin_cases n <;> fin_cases u <;> rfl
theorem effect_cmpControl (n : Fin 12) (u : Fin 4) (s : State) (w : Writer) (r : ObjRow) (x : Int) :
    (s.effect w r (Obj.CMP_CONTROL n u) (.num x)).1 = s.cmpControl n u (.num x) := by fin_cases n <;> fin_cases u <;> rfl
theorem effect_vsCommand (n : Fin 4) (s : State) (w : Writer) (r : ObjRow) (x : Int) :
    (s.effect w r (Obj.VS_COMMAND n) (.num x)).1 = s.vsClearShort n := by fin_cases n <;> rfl
theorem effect_solCommand (n : Fin 16) (s : State) (w : Writer) (r : ObjRow) (x : Int) :
    (s.effect w r (Obj.SOL_COMMAND n) (.num x)).1 = s.solClear n := by fin_cases n <;> rfl
theorem effect_leadRequest (s : State) (w : Writer) (r : ObjRow) (x : Int) :
    (s.effect w r Obj.LEAD_REQUEST (.num x)).1 = (s.orReject (s.leadRequest x.toNat w.now)).1 := by rfl
theorem effect_azCommand (n : Fin 1024) (s : State) (w : Writer) (r : ObjRow) (x : Int) :
    (s.effect w r (Obj.AZ_COMMAND n) (.num x)).1 = s.azRecover n := by 
  have h1 : Obj.AZ_COMMAND n / 256 = 0xB000 + n := by unfold Obj.AZ_COMMAND; omega
  have := n.isLt
  unfold State.effect
  simp only [h1]
  rw [if_neg (by unfold Obj.AZ_COMMAND Obj.LOOP_LOAD_PEAK; omega)]
  iterate 9 rw [if_neg (by omega)]
  rw [if_pos (by omega)]
  simp
theorem effect_streamEnable (s : State) (w : Writer) (r : ObjRow) (x : Int) :
    (s.effect w r Obj.STREAM_ENABLE (.num x)).1 = s.streamEnable (x != 0) := by rfl
theorem effect_recordCommand (s : State) (w : Writer) (r : ObjRow) (x : Int) :
    (s.effect w r Obj.RECORD_COMMAND (.num x)).1 = s.recordCommand x := by rfl
theorem effect_recordDownload (s : State) (w : Writer) (r : ObjRow) (x : Int) :
    (s.effect w r Obj.RECORD_DOWNLOAD (.num x)).1 = (s.recordDownload w.client x.toNat).1 := by rfl
theorem effect_faultClear (s : State) (w : Writer) (r : ObjRow) (x : Int) :
    (s.effect w r Obj.FAULT_CLEAR (.num x)).1 = (s.orReject (s.faultClear x.toNat)).1 := by rfl
theorem effect_tjPowerPeak (s : State) (w : Writer) (r : ObjRow) (x : Int) : (s.effect w r Obj.TJ_POWER_PEAK (.num x)).1 = s.peakClear := by rfl

end Sys2Proof.Laws
end

