-- ==== Sys2Proof/WellFormed.lean ====
section
/-!
DEFINITION. WellFormed.lean: which commands a T740 can meet: the ranges that the rules give a command's operands where their
types leave more.
-/
namespace Sys2Proof

/-- R30: a time in 10 ns counts since the epoch. -/
def time64 (t : Nat) : Bool := decide (t < 2 ^ 64)
/-- R114: the always-on tick count. -/
def tick32 (t : Nat) : Bool := decide (t < 2 ^ 32)
/-- R418: network numbers have 4 bits, node addresses 7. -/
def Client.wf : Client → Bool
  | .ralune net node => decide (net.toNat < 16 ∧ node.toNat < 128)
  | .stream => true
/-- R135, R551: a write by a client at a time. -/
def Writer.wf (w : Writer) : Bool := w.client.wf && time64 w.now && tick32 w.tick
/-- R142: the data one message of a transport holds. -/
def Via.limit : Via → Nat
  | .fd _ => 50
  | .xl _ => 1024
  | .stream => 65536
/-- R140, R142: a message of the service: its client uses the transport, and its data fits it. -/
def Pdu.wf (p : Pdu) : Bool :=
  p.writer.wf && decide (p.data.length ≤ p.via.limit) &&
    match p.via, p.writer.client with
    | .stream, .stream => true
    | .fd _, .ralune _ _ => true
    | .xl _, .ralune _ _ => true
    | _, _ => false
/-- R155: an integration passes at most one reference packet a count clock. -/
def Charge.wf (c : Charge) : Bool := decide (c.packets.natAbs ≤ c.w)
/-- R173: at most one result for each of the 38 converters. -/
def calWf (l : List CalResult) : Bool := decide (l.length ≤ 38)
/-- R201: a SENT frame has a status nibble, one to six data nibbles and a CRC nibble. -/
def SentFrame.wf (f : SentFrame) : Bool := decide (3 ≤ f.nibbles.length ∧ f.nibbles.length ≤ 8) && time64 f.start
/-- R360: the message's type, a reason of 0 to 3, lanes 1 to 3, and widths of number and expiry. -/
def Card.wf (m : Card) (type : Nat) : Bool :=
  decide (m.type = type ∧ m.reason ≤ 3 ∧ 1 ≤ m.issuer ∧ m.issuer ≤ 3 ∧ 1 ≤ m.holder ∧ m.holder ≤ 3 ∧ m.number < 2 ^ 32) && time64 m.expiry
/-- R368, R416: at most 32 cells of the 256, and one pair for each of six axes. -/
def ShadowRecord.wf (r : ShadowRecord) : Bool :=
  decide (r.cells.length ≤ 32 ∧ r.pairs.length ≤ 6) && r.cells.all (fun x => decide (x.cell < 256)) && time64 r.time
/-- R39, R419: lanes 1 to 3 of a set of two or three. -/
def Announcement.wf (a : Announcement) : Bool := decide (1 ≤ a.lane ∧ a.lane ≤ a.size ∧ 2 ≤ a.size ∧ a.size ≤ 3 ∧ a.signature < 2 ^ 32)
/-- R17: the speed mirror has 16 bits. -/
def Request.wf (r : Request) : Bool := decide (r.speed.getD 0 < 2 ^ 16)
/-- R407: a CAN FD frame holds 64 bytes, a CAN XL frame 2,048, and every payload has its header (R418). -/
def RxFrame.wf (f : RxFrame) : Bool := decide (4 ≤ f.payload.length ∧ f.payload.length ≤ if f.fd then 64 else 2048) && time64 f.start
/-- R422: at most 32 confirmations of 16 bits. -/
def confirmsWf (l : List Nat) : Bool := decide (l.length ≤ 32) && l.all fun x => decide (x < 65536)
/-- R422: a sender's address, a time of 64 bits, a reel of 32, a beat in reel of 8, a priority of 2 and a signature of 32. -/
def RefFrame.wf (f : RefFrame) : Bool :=
  decide (f.sender < 128 ∧ f.signature < 2 ^ 32 ∧ f.reel < 2 ^ 32 ∧ f.beat < 256 ∧ f.prio < 4) && time64 f.time && confirmsWf f.confirms
/-- R422: the time and the confirmations of a reference frame. -/
def RefSeen.wf (r : RefSeen) : Bool := time64 r.time && confirmsWf r.confirms
/-- R484, R489, R490: an address within the memory, and a corrected error loses no entry, copy or page. -/
def EccError.wf (e : EccError) : Bool :=
  decide (e.addr.toNat < memSize e.m) && e.found && (!e.corrected || (e.lost.isNone && e.copy.isNone && e.page.isNone))
/-- R85: a wake at an always-on tick and a time. -/
def WakeAt.wf (w : WakeAt) : Bool := tick32 w.tick && time64 w.now
/-- R92: as many data bytes as the length code says, and 11 identifier bits but for an extended frame. -/
def CueFrame.wf (f : CueFrame) : Bool := decide (f.data.length = f.dlc.val ∧ (f.extended = false → f.id.toNat < 2 ^ 11))
/-- R106: the two calibration runs of a start. -/
def StartInput.wf (x : StartInput) : Bool := calWf x.cal1 && calWf x.cal2
/-- R472: a stream payload is at most a DICT frame's, 65,546 bytes. -/
def StreamFrame.wf (f : StreamFrame) : Bool := decide (f.payload.length ≤ 65546)

/-- A command whose operands a T740 can meet. -/
def Instr.wellFormed : Instr → Bool
  | .tickEdge _ _ failed => decide (failed < 64)
  | .beatBoundary sc _ => sc.toList.all Charge.wf
  | .chaperoneResetRelease _ _ tick => tick32 tick
  | .supplyUndervoltage _ _ tick => tick32 tick
  | .brownOut tick => tick32 tick
  | .pinReset _ _ tick => tick32 tick
  | .peerLeadInChange _ _ now => time64 now
  | .keyChange _ w => w.wf
  | .wakePinEdge _ w => w.wf
  | .cueFrame _ f w => f.wf && w.wf
  | .wakeUpPattern _ w => w.wf
  | .dominantActivity _ _ _ w => w.wf
  | .aonTimerWake w => w.wf
  | .streamSignalDetect w => w.wf
  | .vbatArrival tick => tick32 tick
  | .startSequence x => x.wf
  | .startCardRetry now => time64 now
  | .startSupervisionTimeout tick => tick32 tick
  | .recoveryDelayExpiry tick => tick32 tick
  | .resetRequest w => w.wf
  | .slotPreferredWrite w _ => w.wf
  | .slotConfirm w => w.wf
  | .readInit p => p.wf
  | .readSeg p => p.wf
  | .writeInit p => p.wf
  | .writeSeg p => p.wf
  | .abort p => p.wf
  | .unknownService p => p.wf
  | .registerWrite w _ bytes => w.wf && decide (bytes.length < 2 ^ 32)
  | .sealedEntryWrite w _ bytes => w.wf && decide (bytes.length < 2 ^ 32)
  | .sigConfirm w _ => w.wf
  | .keyEntryWrite w _ bytes => w.wf && decide (bytes.length < 2 ^ 32)
  | .segTimeout c _ => c.wf
  | .sessionOpen p _ _ => p.wf
  | .sessionResponse p _ => p.wf
  | .sessionClose p => p.wf
  | .chapReferenceObserved r => r.wf
  | .commitPageWrite bad => bad.all EccError.wf
  | .icIntegrationEnd _ c => c.wf
  | .gcWindowEnd _ c => c.wf
  | .calStart w => w.wf
  | .calibrationComplete res => calWf res
  | .supRestart w => w.wf
  | .fbInputEdge _ _ clock => time64 clock
  | .fbExtRebase w _ _ => w.wf
  | .indexEvent _ clock => time64 clock
  | .slipCountClear w _ => w.wf
  | .fbCounterPreset w _ _ => w.wf
  | .fbClassWrite w _ _ => w.wf
  | .indexCprWrite w _ _ => w.wf
  | .latchInputEdge _ _ time => time64 time
  | .latchCommandLatch w _ => w.wf
  | .latchRearm w _ => w.wf
  | .sentFrame _ f => f.wf
  | .hallEdge _ _ x => time64 x.clock && time64 x.chap
  | .obCommand w _ => w.wf
  | .cellStateWrite w _ _ _ => w.wf
  | .cellStatusClear w _ => w.wf
  | .loopLoadPeakClear w => w.wf
  | .traceArm w => w.wf
  | .traceForceTrigger w => w.wf
  | .traceFreeze w => w.wf
  | .emfComparatorCrossing _ _ clock => time64 clock
  | .axIdentify w _ => w.wf
  | .mxGo w _ => w.wf
  | .mxStop w _ => w.wf
  | .mxModeWrite w _ _ => w.wf
  | .gearTableRequestWrite w _ _ => w.wf
  | .cmpPositionWrite w _ _ _ => w.wf
  | .cmpControlWrite w _ _ _ => w.wf
  | .vsClearShort w _ => w.wf
  | .solClearFaults w _ => w.wf
  | .leadRequestGiveUp w => w.wf
  | .leadRequestLineTest w => w.wf
  | .cardIssueMessage _ m now => m.wf 1 && time64 now
  | .cardRenewMessage _ m => m.wf 2
  | .cardPassMessage _ m => m.wf 3
  | .cardReleaseMessage _ m => m.wf 4
  | .cardRenewTimer now => time64 now
  | .cardSuccessionIssue now => time64 now
  | .lineTestEvaluate now => time64 now
  | .lineTestPeriodExpiry now => time64 now
  | .laneAnnouncement _ a => a.wf
  | .shadowRecord r => r.wf
  | .chapRequest r => r.wf && time64 r.chap
  | .sidePathMessage _ x => time64 x.chap
  | .steerRateTimeout x | .ascGrantWithdraw x => time64 x.chap
  | .waltzWaitExpiry now => time64 now
  | .ebRampPeriod now => time64 now
  | .frameLatch _ _ now => time64 now
  | .windowTransmit _ _ now => time64 now
  | .raluneFrameReceived _ f now => f.wf && time64 now
  | .referenceFrame _ f => f.wf
  | .referenceCollision _ now => time64 now
  | .networkAnnouncement _ _ _ now => time64 now
  | .azCommandRecover w _ => w.wf
  | .streamFrameReceived f now => f.wf && time64 now
  | .streamFrameSend now => time64 now
  | .streamEnableWrite w _ => w.wf
  | .eccError e => e.wf
  | .recordTriggerCommand w => w.wf
  | .recordErase w => w.wf
  | .recordDownload w _ => w.wf
  | .faultClearWrite w _ => w.wf
  | .tjPowerPeakClear w => w.wf
  | .streamAzsinLatch now => time64 now
  | .frameTransmitted _ _ _ now => time64 now
  | .cellWindowClose | .appPartitionRestart _ | .appRestartComplete | .keeperFault | .chaperoneReset
  | .strapServiceRead _ | .chapClockFail | .supplyOvervoltage _ | .supplyRecovery _ _ | .boundaryScanInstruction _ _
  | .holdReadbackChange _ | .clockDeviation _ _ | .timebaseStartTimeout | .voteChange _ _ | .holdoffExpiry _
  | .domainPowerGood _ | .dozeCommit | .parkedCommit | .dozeMaxExpiry | .wakeLingerExpiry | .portActivityLapse _
  | .partnerVoteLapse _ | .vbatWaitTimeout | .backgroundInitDone | .startPartnerWaitExpiry | .storedWriteCommit _
  | .sstPhaseEnd _ | .sessionIdleExpiry | .sessionOwnerSilence | .challengeLapse | .lockoutExpiry
  | .icIntegrationStart _ | .shuntOffsetAverage _ | .gcSettleEnd _ | .refSettledSet _ | .refSettledClear _
  | .refSettleTimeout _ | .supFault _ _ | .supRetry _ _ | .extensionRead _ | .sentTimeout _ _ | .hallInvalidCode _
  | .observerCoast _ | .bootstrapUndervoltage _ _ | .sidePathMissing | .gateStateMismatch _ _ _ _ | .desatTrip _ _ _ | .shuntOcTrip _ _
  | .ascExit _ | .armGrant _ | .armWithdraw _ | .axIdentifyComplete _ | .keTrendAppend _ | .linkGuardCrossing _
  | .dumpMaxOnExpiry | .generatorStep _ | .gearTableSwitch _ | .chopperCurrentReached _ _ | .chopperTonMax _ _
  | .fastDecayEnd _ _ _ | .chopperOfftimeEnd _ _ _ | .vsOvercurrent _ _ _ | .solUpperCrossing _ _ | .solProbe _
  | .solProbeEnd _ _ | .pullinEnd _ | .solOvercurrent _ _ | .solShortToSupply _ _ | .solOpenLoadOn _
  | .solOpenLoadOff _ _ | .pedalDisagreeTimeout | .peerLinesQuiet | .rankDelayExpiry | .leadRecheckEnd
  | .cardLeaseExpiry | .cardHandoverEdge | .lineTestPulse _ _ | .healthBlock _ _ _ _ | .peerWordsTimeout _
  | .brakeEnvelopeTimeout _
  | .guardCoastExpiry | .guardianBlock _ _ | .guardianCut _ _ | .chapConfigRecheck _ | .wdgPeriodStart
  | .wdgAnswer _ _ _ | .wdgWindowClose | .ebSilentRelease | .ladderWaltzDelayExpiry
  | .ladderRequestClear | .waltzRankDelay | .waltzRecheck | .waltzHoldEnd | .ebRampEnd | .syncTimeout
  | .portDown _ _ _ | .coldStartSilence _ | .coldStartDelay _ | .timeStepApply | .spareSilence _ _
  | .announceRepeatTimer | .azsinTimeout _ | .routeWaitExpiry | .streamClockDetect | .streamTsReceived _ _ _ _
  | .streamTrainingTimeout _ | .streamIdleEnd | .streamLinkLoss _ _ _ | .imageLoadIdle | .creditColumn _ _
  | .streamCreditTimeout _ | .remapCopyDone _ _ | .retirementCommit _ _ | .watchEntryAgeOut _ _ | .scrubLapEnd _ _
  | .scrubLapLimitExpiry _ | .dmaDescriptorWrite _ _ | .dmaComplete _ | .recordPostEnd
  | .commitTrailerDone | .slotEraseDone | .faultMessage | .criticalLine | .faultReactExpiry _ _
  | .faultAcknowledge _ _ _ | .faultRowClear _ _ | .faultLogCommit | .governorSample _ _ | .stageShutdown _
  | .hourlyCommit | .powerOn _ _ | .dumpForcedOffEnd | .waltzToffEnd _ | .stepPulseEnd _ | .chopperBlankEnd _ _ _
  | .solMinOnEnd _ _ | .vsOpenLoadOff _ _ | .busOffRecovery _ | .creditColumnSend _ => true

end Sys2Proof
end

