-- ==== Sys2Proof/Tests/Slice0.lean ====
section
/-!
SUPPORT. Tests/Slice0.lean: the smoke test of WellFormed, one small test for families of commands, and for every statement with
hypotheses a witness that meets them, clause by clause.
-/
namespace Sys2Proof.Tests
set_option Elab.async false
open Sys2Proof Sys2Proof.Machine

/-- The state after reset with some integer entries set. -/
def cfg (l : List (Nat × Int)) : State := l.foldl (fun s e => s.putN e.1 e.2) State.reset
/-- The stream client, at time 0. -/
def wr : Writer := ⟨.stream, 0, 0, true⟩
/-- A serving lane with some entries set, in which the stream client holds a session of a level. -/
def srv (n : Nat) (l : List (Nat × Int)) : State :=
  { cfg ((Obj.START_STEP, 12) :: (Obj.SESSION_CURRENT, n) :: l) with se.owner := if n = 0 then none else some .stream }
/-- What a run gave, as an option. -/
def ran (r : Res) : Option State :=
  match r with
  | .next t => some t
  | _ => none

/-! ### Witnesses: the queue, settling, layouts. -/

theorem witness_StepRunsFront :
    ({ State.reset with pending := [.keeperFault, .chapClockFail] } : State).pending = .keeperFault :: [.chapClockFail] ∧
    State.reset.pending = [] := by decide

/-- In OPERATE, armed in every output, by the interlock. -/
def armed : State :=
  { cfg ([(Obj.CHAP_STATE, 2), (Obj.DOMAIN_STATUS, 15), (Obj.WDG_LIMIT, 10), (Obj.LEAD_MODE, 0)] ++ (List.range 6).map (fun n => (Obj.AX_ENABLE n, 1)) ++
      (List.range 4).map (fun n => (Obj.VS_ENABLE n, 1)) ++ (List.range 16).map (fun n => (Obj.SOL_ENABLE n, 1))) with
    ch.leadOut := true, ch.request := 2 ^ 26 - 1, ch.armed := 2 ^ 26 - 1 }
/-- The same by a lease. -/
def leased : State := { armed.putN Obj.LEAD_MODE 1 with ch.lease := some 5, ch.leadOut := false }

theorem witness_SafeIsKept : (∀ b < 26, armed.ch.armed.testBit b = true → armed.armOk b = true) ∧ armed.ebLevel = some 0 ∧
    armed.nat Obj.EB_DUTY = 0 ∧ step armed = .next armed := ⟨by decide +kernel, by decide +kernel, by decide +kernel, rfl⟩

theorem witness_ArmedOnlyWhileAllowed :
    (∃ t, exec .wakeLingerExpiry armed = .next t ∧ (∀ b ∈ [0, 5, 6, 9, 10, 25], t.ch.armed.testBit b = true) ∧ t.nat Obj.LEAD_MODE = 0) ∧
    ∃ t, exec .wakeLingerExpiry leased = .next t ∧ (∀ b ∈ [0, 5, 6, 9, 10, 25], t.ch.armed.testBit b = true) ∧ t.nat Obj.LEAD_MODE ≠ 0 :=
  ⟨⟨_, rfl, by decide +kernel, by decide +kernel⟩, ⟨_, rfl, by decide +kernel, by decide +kernel⟩⟩

theorem witness_SettlingFrame : (∀ c < 26, armed.settle.ch.armed.testBit c = true) ∧ (∀ n < 6, State.reset.ch.armed.testBit n = false) ∧
    (∀ n < 4, State.reset.ch.armed.testBit (n + 6) = false) ∧ (∀ n < 16, State.reset.ch.armed.testBit (n + 10) = false) ∧
    (Obj.TICK_INDEX ≠ Obj.FAULT_DROPS ∧ Obj.TICK_INDEX ≠ Obj.EB_DUTY ∧ ∀ n < 6, Obj.TICK_INDEX ≠ Obj.AX_STATE n ∧ Obj.TICK_INDEX ≠ Obj.AX_STATUS n) ∧
    ∀ m < 16, 946 ≠ 947 + 4 * m := by decide +kernel

theorem witness_TickLengthsFillTheBeat : 0 < 1 ∧ 6 ≤ 6 ∧ 0 < 20 ∧ 0 ≤ 6 ∧ (0 % 2 = 0 ∧ 0 * 20 ≤ 2000 * 200) ∧
    (20000 % 2 = 0 ∧ 20000 * 20 ≤ 2000 * 200) ∧ 19 < 20 := by decide
theorem witness_NodeEntriesLieInOrder : 0 < 4096 ∧ 3583 < 4096 ∧ 3584 < 4096 ∧ 4095 < 4096 := by decide
theorem witness_HeaderAndClaimBytes : (255 < 256) ∧ (31 < 32) := by decide
theorem witness_RaisedFaultMeetsTheQueue : (1023 < 1024 ∧ 255 < 256 ∧ 3 < 4 ∧ 15 < 16 ∧ 255 < 256) ∧
    State.reset.col.queue.length < 64 ∧
    64 ≤ ({ State.reset with col.queue := List.replicate 64 ⟨0, 0, 0, 0, 0, 0, 0⟩ } : State).col.queue.length ∧
    State.reset.nat (Obj.FAULT_CLASS Kind.CUT_IN) ≤ 1 ∧ 2 ≤ State.reset.nat (Obj.FAULT_CLASS Kind.LAST_WALTZ) ∧
    State.reset.nat (Obj.FAULT_CLASS Kind.LAST_WALTZ) = 3 ∧ State.reset.nat (Obj.FAULT_CLASS Kind.CUT_IN) ≠ 3 := by decide +kernel
theorem witness_TypesRoundTrip : ((-2 ^ 63 : Int) ≤ 2 ^ 63 - 1 ∧ (2 ^ 63 - 1 : Int) < 2 ^ 63) ∧ (0 ≤ (2 ^ 64 - 1 : Int) ∧ (2 ^ 64 - 1 : Int) < 2 ^ 64) ∧
    (([] : List Byte).length ≠ 1 ∧ ([] : List Byte).length ≠ 2 ∧ ([] : List Byte).length ≠ 4 ∧ (zeros 9).length ≠ 8) := by decide

/-! ### Witnesses: writes. -/

theorem witness_RejectedWritesChangeNothing : State.reset.serves .stream = false ∧ rowOf 0 = none ∧
    (∃ r, rowOf Obj.TICK_INDEX = some r ∧ r.acc = .ro) ∧ (∃ r, rowOf Obj.TICKS_PER_BEAT = some r ∧ r.acc = .rwc ∧ State.reset.level .stream < 3) ∧
    (∃ r, rowOf Obj.CUE_ID = some r ∧ State.reset.level .stream < writeNeed r) ∧
    (∃ r, rowOf Obj.CUE_ID = some r ∧ r.ty.decode [] = .error 0x06040001) ∧
    (∃ r, rowOf Obj.CUE_ID = some r ∧ r.ty.decode (zeros 4) = .ok (.num 0)) ∧
    (∃ r, rowOf Obj.RESET_REQUEST = some r ∧ r.ty.decode [0#8] = .ok (.num 0) ∧ valueJudge r Obj.RESET_REQUEST (.num 0) ≠ 0) ∧
    isSealed Obj.CUE_ID = false := by
  refine ⟨by decide +kernel, by decide +kernel, ⟨_, rfl, by decide +kernel⟩, ⟨_, rfl, by decide +kernel, by decide +kernel⟩, ⟨_, rfl, by decide +kernel⟩,
    ⟨_, rfl, by decide +kernel⟩, ⟨_, rfl, by decide +kernel⟩, ⟨_, rfl, by decide +kernel, by decide +kernel⟩, by decide +kernel⟩

/-- The stream client may write what needs a session of a level. -/
theorem may0 : MayWrite (srv 0 []) wr 0 := ⟨by decide +kernel, by decide +kernel⟩
theorem may1 : MayWrite (srv 1 []) wr 1 := ⟨by decide +kernel, by decide +kernel⟩
theorem may2 : MayWrite (srv 2 []) wr 2 := ⟨by decide +kernel, by decide +kernel⟩
theorem may3 : MayWrite (srv 3 []) wr 3 := ⟨by decide +kernel, by decide +kernel⟩
/-- What a write's judgement lets through: the persistence and access of its entry. -/
def passed (s : State) (key : Nat) (bytes : List Byte) : Option (Persist × Access × AbortCode) :=
  match s.writeJudge .stream key bytes with
  | .ok (r, v) => some (r.persist, r.acc, s.depends key v)
  | .error _ => none

theorem witness_RegisterWritesTakeEffect : (3584 ≤ 3584 ∧ 4095 < 4096) ∧
    (rowOf Obj.SESSION_IDLE).map (fun r => r.chk.judge 300) = some none ∧ (rowOf Obj.CUE_ID_MASK).map (fun r => r.chk.judge 0) = some none ∧
    (Obj.SESSION_IDLE = Obj.SESSION_IDLE ∧ Obj.CUE_ID_MASK ≠ Obj.SESSION_IDLE) ∧ (srv 3 []).serves .stream = true ∧
    passed (srv 3 []) (Obj.SOL_I_MAX 3) (le 2 1500) = some (.sealed, .rwc, 0) := by decide +kernel

theorem witness_KeeperWrites : (1 ≤ 1 ∧ (0 : Nat) ≤ 1) ∧
    (srv 1 [(slotStateKey 1, 1)]).slotState 1 = 1 ∧ (srv 1 [(slotStateKey 1, 0)]).slotState 1 ≠ 1 ∧
    (srv 1 [(slotStateKey 0, 2), (Obj.SLOT_ACTIVE, 0)]).slotState 0 = 2 ∧ (srv 1 [(slotStateKey 0, 3)]).slotState 0 ≠ 2 ∧
    (zeros 16).length = 16 ∧ ((srv 0 []).ch.armed = 0 ∧ (srv 0 []).ms.calRun = 0) ∧ armed.ch.armed ≠ 0 := by decide +kernel

theorem witness_ConfirmationTakesAPassingSet :
    (srv 3 [(Obj.SIG_STATE, 1)]).staged = [] ∧ (srv 3 [(Obj.SIG_STATE, 1)]).nat Obj.SIG_STATE ≠ 0 ∧ (srv 3 [(Obj.SIG_STATE, 0)]).nat Obj.SIG_STATE = 0 ∧
    ({ srv 3 [] with staged := [(Obj.SOL_I_MAX 3, .num 1500)] } : State).staged ≠ [] := by decide +kernel

theorem witness_FeedbackAndLoopWrites : (srv 1 []).sourceUsed [0] [0] = false ∧ (2 ≤ 2) ∧ State.reset.lp.met = none ∧
    ({ State.reset with lp := { met := some (1, 7) } } : State).lp.met = some (1, 7) ∧
    ({ srv 1 [(Obj.GEAR_MASTER 0, 0), (Obj.MX_MODE 0, 3)] with mx := .replicate 12 { engaged := true } } : State).sourceUsed [0] [0] = true := by decide +kernel

theorem witness_MotionWrites :
    ((srv 3 []).nat Obj.SESSION_CURRENT = 3 ∧ (srv 3 []).axState 0 ≠ 2) ∧
    (∃ s : State, s = srv 3 [(Obj.AX_STATE 0, 2)] ∧ s.axState 0 = 2 ∧ s.axAtRest 0 (s.axSpeed 0) = true) ∧
    (∃ s : State, s = { srv 3 [(Obj.AX_STATE 0, 2)] with ax := .replicate 6 { emf := 2 ^ 62 } } ∧ s.axState 0 = 2 ∧ s.axAtRest 0 (s.axSpeed 0) = false) ∧
    (srv 0 [(Obj.MX_MODE 0, 0)]).genMode 0 = 0 ∧ (srv 0 [(Obj.MX_MODE 0, 3)]).genMode 0 = 3 ∧
    ((srv 0 [(Obj.MX_MODE 0, 1)]).genMode 0 ≠ 0 ∧ (srv 0 [(Obj.MX_MODE 0, 1)]).genMode 0 ≠ 3 ∧ (srv 0 [(Obj.MX_MODE 0, 1)]).genAtRest 0 = true) ∧
    ({ srv 0 [(Obj.MX_MODE 0, 1)] with mx := .replicate 12 { moving := true, v := 1 } } : State).genAtRest 0 = false ∧ (3 ≤ 3 ∧ 1 ≤ 1) ∧
    (srv 0 [(Obj.CMP_CONTROL 0 0, 128)]).bit (Obj.CMP_CONTROL 0 0) 7 = true ∧ (srv 0 []).bit (Obj.CMP_CONTROL 0 0) 7 = false ∧
    (192 % 32 = 0 ∧ 192 / 32 % 4 ≠ 3 ∧ 128 ≤ 192) ∧ (64 % 32 = 0 ∧ 64 / 32 % 4 ≠ 3 ∧ 64 < 128) ∧ 96 / 32 % 4 = 3 ∧ 255 / 32 % 4 = 3 := by
  refine ⟨by decide +kernel, ⟨_, rfl, by decide +kernel⟩, ⟨_, rfl, by decide +kernel⟩, by decide +kernel⟩

theorem witness_LaneWrites :
    ({ srv 1 [] with ld.leading := true } : State).ld.leading = true ∧ (srv 1 []).ld.leading = false ∧
    ((srv 0 [(Obj.AZ_STATE 0, 3)]).nat (Obj.AZ_STATE 0) = 3 ∧
      (srv 0 [(Obj.AZ_STATE 0, 3), (Obj.AZ_RECOVER 0, 5)]).nat (Obj.AZ_RECOVER 0) ≤
        (({ srv 0 [] with az.conns := [(0, { good := 5 })] } : State).azConn 0).good) ∧
    (srv 0 []).nat (Obj.AZ_STATE 0) ≠ 3 ∧ ((srv 0 []).azConn 0).good < (srv 0 [(Obj.AZ_RECOVER 0, 5)]).nat (Obj.AZ_RECOVER 0) ∧
    ((srv 1 []).streamState = 0 ∧ (srv 1 [(Obj.DOMAIN_STATUS, 1)]).domainUp 0 = true) ∧ (srv 1 [(Obj.STREAM_STATE, 3)]).streamState ≠ 0 ∧
    (srv 1 [(Obj.DOMAIN_STATUS, 0)]).domainUp 0 = false ∧
    (wr.client = .stream ∧ (srv 0 []).rc.event.map (·.slot) ≠ some 7 ∧ 7 ≤ 7) ∧ Client.ralune 0 1 ≠ .stream ∧
    (srv 1 []).row 0 0 = none ∧
    (∀ st ∈ [1, 2, 3, 4, 5], (({ srv 1 [] with col.rows := [{ src := 5, kind := 3, state := st, first := 0, cls := 1, count := 1, last := ⟨5, 3, 1, 0, 0, 0, 0⟩ }] } : State).row 5
      3).map (·.state) = some st) := by decide +kernel

/-! ### Witnesses: time, resets, supplies, power. -/

/-- A state with its clock set. -/
def clk (c : Clock) : State := { State.reset with clk := c }
theorem witness_TicksAndBeatsRunTheirStages :
    ((clk { running := true, opened := true }).clk.running = true ∧ (clk { running := true, opened := true }).clk.opened = true) ∧
    ((clk { running := true, lens := [12500, 12500] }).clk.running = true ∧ (clk { running := true, lens := [12500, 12500] }).lastTick = false) ∧
    State.reset.clk.running = false ∧ ((clk { running := true, lens := [12500] }).clk.opened = false ∧ (clk { running := true, lens := [12500] }).lastTick = true) ∧
    ((clk { windowOpen := true }).clk.windowOpen = true ∧ ({ (clk {}).overrunJudge with clk.windowOpen := false } : State).bit Obj.INIT_STATUS 7 = false) ∧
    ({ ({ cfg [(Obj.INIT_STATUS, 255)] with clk := { windowOpen := true } } : State).overrunJudge with clk.windowOpen := false } : State).bit Obj.INIT_STATUS 7 = true := by
  decide +kernel
theorem witness_OpeningATickMovesTimeAndNodes : (clk { opened := true }).clk.opened = true ∧ State.reset.clk.opened = false ∧ 0 ≠ Obj.TICK_INDEX ∧ 3 ≤ 3 := by
  decide +kernel
theorem witness_PartitionsRestart : ({ State.reset with ld := { restarting := true } } : State).ld.restarting = true ∧ State.reset.ld.restarting = false := by
  decide
/-- An entry has this persistence. -/
def persists (key : Nat) : Option Persist := (rowOf key).map (·.persist)
theorem witness_ResetKeepsByPersistence : (0 ≤ 7 ∧ 0 ≠ 5) ∧ (7 ≤ 7 ∧ 7 ≠ 5) ∧ (2 ≤ 2 ∧ 4 ≤ 4) ∧ State.reset.chapState ≠ 4 ∧ (cfg [(Obj.CHAP_STATE, 4)]).chapState = 4 ∧
    (∀ n < 6, Obj.TICK_INDEX ≠ Obj.AX_STATE n) ∧ State.reset.col.silentBy ≠ some Kind.LAST_WALTZ ∧
    ((persists Obj.TICK_INDEX = some .volUnit ∨ persists Obj.TICK_INDEX = some .volApp) ∧ chapEntry Obj.TICK_INDEX = false ∧ voteEntry Obj.TICK_INDEX = false ∧
      Obj.TICK_INDEX ≠ Obj.LAST_RESET_KIND ∧ Obj.TICK_INDEX ≠ Obj.AON_SECONDS) ∧
    (persists Obj.IDENT_HIGHEST ≠ none ∧ persists Obj.SESSION_IDLE = some .stored ∧ chapEntry Obj.SESSION_IDLE = false ∧
      Sparse.find State.reset.uncommitted Obj.SESSION_IDLE = none ∧ 3 ≤ 3 ∧
      (persists Obj.KEY_STATE = some .stored ∧ ∀ e ∈ State.reset.uncommitted, e.1 ∉ keyEntries) ∧
      ({ State.reset with uncommitted := [(Obj.SESSION_IDLE, .num 300)] } : State).uncommitted = [(Obj.SESSION_IDLE, .num 300)]) ∧
    (persists Obj.RECOVERY_LIMIT = some .sealed ∧ chapEntry Obj.RECOVERY_LIMIT = false) := by
  decide +kernel
theorem witness_ResetsByCause : State.reset.mainAlive = true ∧ ({ State.reset with pw := { sleep := 2 } } : State).mainAlive = false ∧
    (10000 ≤ 10000 ∧ 2000 ≤ 2000 ∧ 1999 < 2000 ∧ 9999 < 10000) ∧
    (({ State.reset with ch := { inReset := false } } : State).ch.inReset = false ∧ ({ State.reset with ch := { inReset := true, mainReset := false } } : State).ch.inReset = true ∧
      ({ State.reset with ch := { inReset := true, mainReset := false } } : State).ch.mainReset = false ∧
      ({ State.reset with ch := { inReset := true, mainReset := true } } : State).ch.mainReset = true) ∧
    (∃ o : State, o = { ({ State.reset with ch := { inReset := false } } : State).resetTo 0 0 with pw := {} } ∧ o.ch.inReset = false ∧ o.chapState ≠ 4) ∧
    (∃ o : State, o = { (cfg [(Obj.CHAP_STATE, 4)]).resetTo 0 0 with pw := {} } ∧ o.chapState = 4) ∧
    (∃ o : State, o = { ({ State.reset with ch := { inReset := true } } : State).resetTo 0 0 with pw := {} } ∧ o.ch.inReset = true) ∧
    (∃ s : State, s = cfg [(Obj.START_STEP, 7), (Obj.CHAP_STATE, 1)] ∧ s.st.presented = false ∧ s.nat Obj.START_STEP < 8 ∧ s.st.loader = false ∧ s.chapState = 1 ∧
      s.mainAlive = true) ∧
    8 ≤ (cfg [(Obj.START_STEP, 8)]).nat Obj.START_STEP ∧
    (∃ s : State, s = { cfg [(Obj.RECOVERY_ENABLE, 1), (Obj.RECOVERY_LIMIT, 3), (Obj.RECOVERY_COUNT, 2)] with col := { failSilent := true, silentBy := some Kind.SST_FAIL } } ∧
      s.col.failSilent = true ∧ s.n Obj.RECOVERY_ENABLE ≠ 0 ∧ s.nat Obj.RECOVERY_COUNT < s.nat Obj.RECOVERY_LIMIT ∧ s.col.silentBy = some Kind.SST_FAIL ∧
      Kind.SST_FAIL ∉ neverRecovered) ∧ ({ State.reset with col := { silentBy := some Kind.LAST_WALTZ } } : State).col.silentBy = some Kind.LAST_WALTZ ∧
    (cfg [(Obj.RECOVERY_LIMIT, 3), (Obj.RECOVERY_COUNT, 3)]).nat Obj.RECOVERY_LIMIT ≤ (cfg [(Obj.RECOVERY_LIMIT, 3), (Obj.RECOVERY_COUNT, 3)]).nat Obj.RECOVERY_COUNT := by
  refine ⟨by decide, by decide, by decide, by decide, ⟨_, rfl, by decide +kernel⟩, ⟨_, rfl, by decide +kernel⟩, ⟨_, rfl, by decide +kernel⟩, ⟨_, rfl, by decide +kernel⟩,
    by decide +kernel, ⟨_, rfl, by decide +kernel⟩, by decide, by decide +kernel⟩
theorem witness_SuppliesStrapsAndClocks : State.reset.bit Obj.SUPPLY_FLAGS 0 = false ∧ (cfg [(Obj.SUPPLY_FLAGS, 1)]).bit Obj.SUPPLY_FLAGS 0 = true ∧
    State.reset.bit Obj.SUPPLY_FLAGS 10 = false ∧ (cfg [(Obj.SUPPLY_FLAGS, 7936)]).bit Obj.SUPPLY_FLAGS 12 = true ∧
    State.reset.chapState = 0 ∧ (cfg [(Obj.CHAP_STATE, 1), (Obj.STRAP_WORD, 5)]).chapState ≠ 0 ∧ State.reset.ch.strapBad = false ∧
    (5#24).toNat = (cfg [(Obj.CHAP_STATE, 1), (Obj.STRAP_WORD, 5)]).nat Obj.STRAP_WORD ∧
    (4#24).toNat ≠ (cfg [(Obj.CHAP_STATE, 1), (Obj.STRAP_WORD, 5)]).nat Obj.STRAP_WORD ∧ State.reset.ch.strapOff = false ∧
    ({ State.reset with ch := { strapOff := true } } : State).ch.strapOff = true ∧ State.reset.st.due.isSome = true ∧
    ({ State.reset with st := { due := none } } : State).st.due = none ∧ State.reset.pw.sleep = 0 ∧ ({ State.reset with pw := { sleep := 1 } } : State).pw.sleep ≠ 0 ∧
    ((1 : Fin 5).val ≠ 2 ∧ (2 : Fin 5).val = 2 ∧ (3 : Fin 5).val = 3) ∧ (10000 < (10001 : Int).natAbs ∧ (-10000 : Int).natAbs ≤ 10000 ∧ 20000 < (-20001 : Int).natAbs) := by
  decide +kernel
/-- An awake lane with these domains up and this vote of the keeper. -/
def voted (up mask : Nat) (recal : Bool) (rising : Nat := 0) : State :=
  { cfg [(Obj.DOMAIN_STATUS, up), (Obj.VOTE_MASK 0, mask)] with pw := { recal := recal, recalDue := recal, rising := rising, linger := false } }
theorem witness_VotesAndDomains : State.reset.pw.sleep = 0 ∧ ({ State.reset with pw := { sleep := 1 } } : State).pw.sleep ≠ 0 ∧
    ((voted 15 0 false).pw.sleep = 0 ∧ (voted 15 0 false).pw.entry = 0 ∧ (voted 15 0 false).domainUp 3 = true ∧ (voted 15 0 false).wanted.testBit 3 = false) ∧
    ((voted 1 11 false).domainUp 1 = false ∧ (voted 1 11 false).wanted.testBit 1 = true ∧ (voted 1 11 false).domainUp 0 = true ∧ (1 : Fin 4) ≠ 3 ∧ (1 : Fin 4) ≠ 0 ∧
      (voted 1 11 false).pw.recalDue = false ∧ (voted 1 11 false).wanted.testBit 2 = false ∧ (voted 1 11 false).pw.rising.testBit 2 = false) ∧
    ((voted 1 0 false 8).wanted.testBit 3 = false ∧ (voted 3 0 false 8).pw.rising.testBit 3 = true ∧ (voted 3 0 false 8).domainUp 3 = false ∧ (voted 3 0 false 8).domainUp 1 = true) ∧
    ((voted 1 15 false).domainUp 2 = false ∧ (voted 1 15 false).wanted.testBit 2 = true) ∧ (voted 5 15 false).domainUp 2 = true ∧
    ((voted 3 11 false).domainUp 3 = false ∧ (voted 3 11 false).wanted.testBit 3 = true ∧ (voted 3 11 false).domainUp 1 = true) ∧
    ((voted 1 11 true).domainUp 1 = false ∧ (voted 1 11 true).wanted.testBit 1 = true ∧ (voted 1 11 true).pw.recalDue = true) ∧
    (voted 0 11 false).domainUp 0 = false ∧
    (({ State.reset with pw := { entry := 1 } } : State).pw.entry = 1) ∧ (({ State.reset with pw := { entry := 2 } } : State).pw.entry = 2 ∧ State.reset.st.phase = 0) ∧
    ({ State.reset with st := { phase := 1 } } : State).st.phase ≠ 0 ∧
    (({ cfg [(Obj.DOZE_MAX, 5)] with pw := { sleep := 1 } } : State).pw.sleep = 1 ∧ (cfg [(Obj.DOZE_MAX, 5)]).n Obj.DOZE_MAX ≠ 0 ∧ persists Obj.START_STEP ≠ none) ∧
    (cfg [(Obj.DOZE_MAX, 0)]).n Obj.DOZE_MAX = 0 ∧
    ({ State.reset with pw := { ports := 15, partners := 3 } } : State).pw.ports.testBit 3 = true ∧ ({ State.reset with pw := { ports := 15, partners := 3 } } : State).pw.partners.testBit 1 = true ∧
    State.reset.pw.ports.testBit 0 = false ∧ State.reset.pw.partners.testBit 0 = false := by decide +kernel
/-- A lane in this power state and entry. -/
def inPower (sleep entry : Nat) (waking : Bool := false) : State := { State.reset with pw := { sleep := sleep, entry := entry, waking := waking } }
/-- A wake at tick 7, in step 4 of an entry. -/
def wake7 (step : Fin 5) : WakeAt := ⟨7, step, 0, ⟨0, 0, 0, 0, 0⟩, ⟨0, 0, 0, 0, 0⟩⟩
theorem witness_WakesWakeTheLane : ({ State.reset with pw := { wokeTick := some 7 } } : State).sameTick 7 = true ∧ State.reset.sameTick 7 = false ∧
    ((inPower 1 0).pw.sleep = 1 ∧ (inPower 1 0).sameTick 7 = false) ∧ ((inPower 2 0).pw.sleep = 2 ∧ (inPower 2 0).pw.waking = false) ∧
    (inPower 2 0 true).pw.waking = true ∧
    (({ inPower 0 0 true with su := { low := 1 } } : State).supplyPresent 0 = false ∧ ({ inPower 0 0 true with su := { low := 1 } } : State).pw.waking = true) ∧
    (({ inPower 0 0 with su := { low := 1 } } : State).supplyPresent 0 = false ∧ (inPower 0 0).pw.waking = false ∧ (inPower 0 0).supplyPresent 0 = true) ∧ ((inPower 0 1).pw.entry = 1 ∧ (inPower 0 2).pw.entry = 2 ∧ (inPower 0 2).pw.sleep = 0) ∧ (3 < 4) := by
  refine ⟨by decide +kernel, by decide +kernel, by decide +kernel, by decide +kernel, by decide +kernel, by decide +kernel, by decide +kernel, by decide +kernel, by decide⟩
/-- A frame that matches the cue after reset, and one that is not good. -/
def cue (good foreign : Bool) (id : BitVec 29) : CueFrame := { good := good, foreign := foreign, extended := false, id := id, dlc := 0, data := [] }
theorem witness_WakesWakeTheLane_sources : (State.reset.pw.key = false ∧ (inPower 1 0).wakes (wake7 0) true = true) ∧
    ({ State.reset with pw := { key := true } } : State).pw.key = true ∧ State.reset.wakes (wake7 0) true = false ∧
    ((cfg [(Obj.WAKE_EDGE, 2)]).nat Obj.WAKE_EDGE = 2 ∧ (cfg [(Obj.WAKE_EDGE, 0)]).nat Obj.WAKE_EDGE = 0 ∧ (cfg [(Obj.WAKE_EDGE, 1)]).nat Obj.WAKE_EDGE ≠ 0) ∧
    (∃ s : State, s = { cfg [(Obj.PORT_A_WAKE, 3), (Obj.PORT_B_WAKE, 3), (Obj.CUE_ID, 0), (Obj.CUE_DLC, 0), (Obj.CUE_ID_MASK, 1)] with pw := { sleep := 1, cueErrors := .replicate 2 31 } } ∧ s.wakeMode 0 = 3 ∧ s.wakeFrom (wake7 0) = 1 ∧
      s.wakeMode 1 = 3 ∧ (cue true false 0).foreign = false ∧ s.cueMatches (cue true false 0) = true ∧ s.cueMatches (cue true false 1) = false ∧
      (cue false false 0).good = false ∧ 31 ≤ vget s.pw.cueErrors 1) ∧
    vget State.reset.pw.cueErrors 0 < 31 ∧ (cue true true 0).foreign = true ∧
    (inPower 2 0).wakeFrom (wake7 0) ≠ 1 ∧ State.reset.wakeFrom (wake7 0) = 0 ∧ (cfg [(Obj.PORT_A_WAKE, 3)]).wakeMode 0 = 3 ∧
    (cfg [(Obj.PORT_A_WAKE, 1)]).wakeMode 0 = 1 ∧ (cfg [(Obj.PORT_A_WAKE, 2)]).wakeMode 0 = 2 ∧ (1000 ≤ 1000 ∧ 500 ≤ 999 ∧ 499 < 500 ∧ 999 < 1000) ∧
    (∃ s : State, s = { cfg [(Obj.TIMER_WAKE, 9), (Obj.STREAM_WAKE, 1)] with pw := { sleep := 1 } } ∧ s.wakes (wake7 0) false = true ∧ s.n Obj.TIMER_WAKE ≠ 0 ∧ s.pw.sleep = 1 ∧ s.wakeFrom (wake7 0) = 1 ∧
      s.n Obj.STREAM_WAKE ≠ 0) ∧ (cfg [(Obj.TIMER_WAKE, 0), (Obj.STREAM_WAKE, 0)]).n Obj.TIMER_WAKE = 0 ∧ (cfg [(Obj.STREAM_WAKE, 0)]).n Obj.STREAM_WAKE = 0 ∧
    (∃ s : State, s = { State.reset with pw := { vbatWait := true }, su := { low := 1 } } ∧ s.pw.vbatWait = true ∧ s.supplyPresent 0 = false) ∧
    (∃ s : State, s = { State.reset with pw := { sleep := 2, vbatWait := true }, su := { low := 1 } } ∧ s.pw.vbatWait = true ∧ s.pw.sleep ≠ 0 ∧ s.supplyPresent 0 = false) ∧
    State.reset.pw.vbatWait = false ∧ State.reset.supplyPresent 0 = true := by
  refine ⟨by decide +kernel, by decide, by decide +kernel, by decide +kernel, ⟨_, rfl, by decide +kernel⟩, by decide +kernel, by decide, by decide +kernel, by decide +kernel,
    by decide +kernel, by decide +kernel, by decide +kernel, by decide, ⟨_, rfl, by decide +kernel⟩, by decide +kernel, by decide +kernel, ⟨_, rfl, by decide +kernel⟩,
    ⟨_, rfl, by decide +kernel⟩, by decide, by decide +kernel⟩
/-- A lane at step 9 that joined with two ports up and may issue a card. -/
def electable (l : List (Nat × Int)) : State :=
  { cfg ([(Obj.START_STEP, 9), (Obj.SIG_STATE, 1), (Obj.CHAP_STATE, 2), (Obj.STRAP_WORD, 1), (Obj.PORT_STATUS 0, 16), (Obj.PORT_STATUS 1, 16)] ++ l) with clk := { joined := true }, ms := { uncal := .replicate 38 false }, ld := { electing := true, wait := 1 } }
/-- The operands of a start as it runs without a failure. -/
def cleanStart (cal : List CalResult) : StartInput :=
  { keeperA := true, keeperB := true, record := true, checkers := 0, miss := 0, listA := true, listB := true, keeperTest := true, appTest := true, loopTest := true, app := true, profile := true
    repeat1 := false, repeat2 := false, repeat5 := false, cal1 := cal, cal2 := [], refs := 63, micros := 30000 }
theorem witness_StartAndSelfTest :
    (∃ x : StartInput, x = { cleanStart [] with keeperA := false, keeperB := false } ∧ x.keeperA = false ∧ x.keeperB = false) ∧
    ((cfg [(Obj.STRAP_WORD, 1)]).supplyPresent 0 = true ∧ (cfg [(Obj.STRAP_WORD, 1)]).pw.sleep = 0 ∧ (cfg [(Obj.STRAP_WORD, 1)]).pw.vbatWait = false ∧
      (cfg [(Obj.STRAP_WORD, 1)]).ch.strapBad = false ∧ (cfg [(Obj.STRAP_WORD, 1)]).nat Obj.STRAP_WORD ≠ 0 ∧ (cfg [(Obj.STRAP_WORD, 1)]).st.due = some 0) ∧
    State.reset.nat Obj.STRAP_WORD = 0 ∧ (cfg [(Obj.INIT_STATUS, 63)]).nat Obj.INIT_STATUS % 64 = 0x3F ∧ State.reset.nat Obj.INIT_STATUS % 64 ≠ 0x3F ∧
    ((electable []).nat Obj.START_STEP = 9 ∧ (electable []).ld.card.any = false ∧ (electable []).setRuns = false ∧ (electable []).lowerPresent = 0) ∧
    (({ electable [] with ch := { peers := .replicate 2 true } } : State).setRuns = true) ∧
    ((electable [(Obj.SIG_STATE, 0)]).nat Obj.SIG_STATE = 0 ∧ (electable [(Obj.SIG_STATE, 0)]).eligible = false ∧ (electable [(Obj.SIG_STATE, 0)]).setRuns = false) ∧
    State.reset.nat Obj.START_STEP ≠ 9 ∧ (electable []).ld.electing = true ∧ State.reset.ld.electing = false ∧
    ((inPower 0 2).pw.entry = 2 ∧ 1 ≤ ({ inPower 0 2 with st := { phase := 1 } } : State).st.phase ∧ ({ inPower 0 2 with st := { phase := 6 } } : State).st.phase = 6 ∧
      ({ inPower 0 2 with st := { phase := 5 } } : State).st.phase = 5) ∧ coverageOk 1 (sstCounted { passed := true, covA := 0, covB := 0, src := 0, ms := 0, temp := 0, units := [], lin := (List.range 38).map linPoints } 1) = true ∧
    (State.reset.pw.entry ≠ 2 ∧ State.reset.st.phase = 0) := ⟨⟨_, rfl, by decide⟩, by decide +kernel⟩
theorem witness_StartAndSelfTest_eligible : (electable []).eligible = true := by decide +kernel

/-! ### Witnesses: measurement, feedback and sensors, axes and the link. -/

/-- A charge of one clock. -/
def unitCharge : Charge := { packets := 0, residue := 0, w := 1, sat := false }
/-- The measuring unit in a state, with PD_MEAS up. -/
def measuring (x : Measure) : State := { cfg [(Obj.DOMAIN_STATUS, 3)] with ms := x }
/-- The general-purpose converters in a state. -/
def gcs (x : Gc) : State := measuring { gc := .replicate 4 x }
theorem witness_ConvertersDeliver :
    ((measuring { opened := true }).ms.opened = true ∧ vget (measuring { opened := true }).ms.whole (17 / 3) = false ∧ vget (measuring { opened := true }).ms.legs 17 = none) ∧
    (State.reset.ms.opened = false ∧ vget (measuring { opened := true, whole := .replicate 6 true }).ms.whole (17 / 3) = true ∧
      vget (measuring { opened := true, legs := .replicate 18 (some unitCharge) }).ms.legs 17 ≠ none) ∧
    (vget (measuring { integrating := .replicate 18 true }).ms.integrating 17 = true ∧ vget (measuring { integrating := .replicate 18 true }).ms.whole (17 / 3) = false) ∧
    (vget (measuring { integrating := .replicate 18 true, whole := .replicate 6 true }).ms.integrating 17 = true ∧
      vget (measuring { integrating := .replicate 18 true, whole := .replicate 6 true }).ms.whole (17 / 3) = true) ∧
    vget State.reset.ms.integrating 17 = false ∧ vget State.reset.ms.offCount 0 < 16 ∧
    (16 ≤ vget (measuring { offCount := .replicate 18 16 }).ms.offCount 17 ∧
      |vget (measuring { offCount := .replicate 18 16 }).ms.offSum 17| ≤ 16 * (measuring { offCount := .replicate 18 16 }).n Obj.SHUNT_OFFSET_LIMIT) ∧
    16 * State.reset.n Obj.SHUNT_OFFSET_LIMIT < |vget (measuring { offCount := .replicate 18 16, offSum := .replicate 18 (-10 ^ 9) }).ms.offSum 17| ∧
    vget State.reset.ms.offBeyond 0 = false ∧ vget ({ State.reset with ms := { offBeyond := .replicate 18 true } } : State).ms.offBeyond 17 = true ∧
    ((vget (gcs { table := [0] }).ms.gc 3).wait = false ∧ (vget (gcs { table := [0] }).ms.gc 3).window = false ∧ (gcs { table := [0] }).bit Obj.DOMAIN_STATUS 1 = true ∧
      scanTicks (((gcs { table := [0] }).gcTable 3).getD (vget (gcs { table := [0] }).ms.gc 3).row 0) = false) ∧
    (scanTicks (((gcs { table := [2 ^ 22] }).gcTable 3).getD (vget (gcs { table := [2 ^ 22] }).ms.gc 3).row 0) = true ∧
      (vget (gcs { wait := true }).ms.gc 3).wait = true ∧ (cfg [(Obj.DOMAIN_STATUS, 1)]).bit Obj.DOMAIN_STATUS 1 = false) ∧
    ((vget (gcs { window := true }).ms.gc 3).ended = true ∧ (vget (gcs { table := [2 ^ 22], window := true, left := 1 }).ms.gc 3).ended = false) ∧
    ({ State.reset with ms := { calRun := 1, calSet := [37] } } : State).calibrating (34 + 3) = true ∧ State.reset.calibrating (34 + 3) = false ∧
    State.reset.ms.calRun = 0 ∧ ({ State.reset with ms := { calRun := 1 } } : State).ms.calRun ≠ 0 := by decide +kernel

/-- The four sensor supplies on, with this many failed retries. -/
def supsOn (failed : Nat) (l : List (Nat × Int)) : State := { cfg l with ms := { sup := .replicate 4 { on := true, failed := failed } } }
theorem witness_ReferencesAndSensorSupplies :
    ((supsOn 0 [(Obj.DOMAIN_STATUS, 2)]).bit Obj.DOMAIN_STATUS 1 = true ∧ (∃ s : State, s = (supsOn 0 [(Obj.DOMAIN_STATUS, 2)]).setNode 379 (2 ^ 22) ∧ s.bit Obj.DOMAIN_STATUS 1 = true ∧
      2000 ≤ s.refinMv ∧ s.refinMv ≤ 3000) ∧ State.reset.nodeU 443 = 0x50 ∧
      (∃ s : State, s = State.reset.setNode 443 0x51 ∧ s.nodeU 443 ≠ 0x50 ∧ s.refinMv < 2000) ∧ (cfg [(Obj.DOMAIN_STATUS, 1)]).bit Obj.DOMAIN_STATUS 1 = false) ∧ (vget (supsOn 0 []).ms.sup 3).on = true ∧ (vget State.reset.ms.sup 3).on = false ∧
    (cfg [(Obj.REF_STATUS, 255)]).refSettled (refCode (.sup 3)) = true ∧ State.reset.refSettled (refCode (.sup 3)) = false ∧
    (cfg [(Obj.START_STEP, 11)]).nat Obj.START_STEP < 12 ∧ 12 ≤ (cfg [(Obj.START_STEP, 12)]).nat Obj.START_STEP ∧
    State.reset.bit Obj.SUP_STATUS 3 = false ∧ (cfg [(Obj.SUP_STATUS, 8), (Obj.DOMAIN_STATUS, 2)]).bit Obj.SUP_STATUS 3 = true ∧ (cfg [(Obj.SUP_STATUS, 8), (Obj.DOMAIN_STATUS, 2)]).bit Obj.SUP_STATUS (4 + 3) = false ∧ (cfg [(Obj.SUP_STATUS, 8), (Obj.DOMAIN_STATUS, 2)]).bit Obj.DOMAIN_STATUS 1 = true ∧
    (cfg [(Obj.SUP_STATUS, 136)]).bit Obj.SUP_STATUS (4 + 3) = true ∧
    (supsOn 2 [(Obj.SUP_RETRIES, 3)]).nat Obj.SUP_RETRIES ≤ (vget (supsOn 2 [(Obj.SUP_RETRIES, 3)]).ms.sup 0).failed + 1 ∧
    (vget (supsOn 1 [(Obj.SUP_RETRIES, 3)]).ms.sup 0).failed + 1 < (supsOn 1 [(Obj.SUP_RETRIES, 3)]).nat Obj.SUP_RETRIES := by
  refine ⟨⟨by decide +kernel, ⟨_, rfl, by decide +kernel⟩, by decide +kernel, ⟨_, rfl, by decide +kernel⟩, by decide +kernel⟩, by decide +kernel⟩

/-- All channels with these levels of A and B. -/
def balls (a b : Bool) (l : List (Nat × Int)) : State := { cfg l with fb := .replicate 12 { a := a, b := b } }
theorem witness_FeedbackCounts : ({ State.reset with ld := { restarting := true } } : State).appStopped = true ∧ State.reset.appStopped = false ∧ (cfg [(Obj.FB_STATUS 11, 128)]).bit (Obj.FB_STATUS 11) 7 = true ∧ State.reset.bit (Obj.FB_STATUS 11) 7 = false ∧
    ((cfg [(Obj.FB_CLASS 0, 0), (Obj.INDEX_GATE 0, 3)]).nat (Obj.FB_CLASS 0) = 0 ∧ 2 * b2n (vget State.reset.fb 0).b + b2n (vget State.reset.fb 0).a ≠
      (cfg [(Obj.INDEX_GATE 0, 3)]).nat (Obj.INDEX_GATE 0)) ∧
    (2 * b2n (vget (balls true true []).fb 0).b + b2n (vget (balls true true []).fb 0).a = (balls true true [(Obj.INDEX_GATE 0, 3)]).nat (Obj.INDEX_GATE 0) ∧
      (vget (balls true true []).fb 0).indexed = false) ∧ (cfg [(Obj.FB_CLASS 0, 2)]).nat (Obj.FB_CLASS 0) ≠ 0 ∧
    State.reset.bit (Obj.FB_STATUS 0) 5 = false ∧ (cfg [(Obj.FB_STATUS 0, 32)]).bit (Obj.FB_STATUS 0) 5 = true ∧
    (cfg [(Obj.INDEX_HOME 0, 1)]).nat (Obj.INDEX_HOME 0) = 1 ∧ (cfg [(Obj.INDEX_HOME 0, 0)]).nat (Obj.INDEX_HOME 0) ≠ 1 ∧
    (cfg [(Obj.INDEX_CPR 0, 0)]).n (Obj.INDEX_CPR 0) = 0 ∧ (cfg [(Obj.INDEX_CPR 0, 4096)]).n (Obj.INDEX_CPR 0) ≠ 0 ∧ slipOf 4096 4096 0 = 0 ∧ slipOf 4096 4097 0 ≠ 0 := by
  decide +kernel

theorem witness_InputEdgesCount :
    (∀ c ∈ [0, 1, 2], (cfg [(Obj.FB_CLASS 11, c)]).nat (Obj.FB_CLASS 11) = c.toNat) ∧
    (∀ m ∈ [1, 2, 4], (cfg [(Obj.FB_COUNT_MODE 11, m)]).nat (Obj.FB_COUNT_MODE 11) = m.toNat) ∧
    ((vget (balls true false []).fb 11).a = true ∧ (vget (balls true false []).fb 11).b = false) ∧ (cfg [(Obj.STEP_EDGE 11, 0)]).nat (Obj.STEP_EDGE 11) = 0 ∧
    (cfg [(Obj.STEP_EDGE 11, 1)]).nat (Obj.STEP_EDGE 11) ≠ 0 ∧
    (∃ t, (vget ({ State.reset with fb := .replicate 12 { lastA := some 7 } } : State).fb 11).lastA = some t ∧ t ≤ 7 ∧ 7 < t + State.reset.fbDelay 11 + 1) ∧
    ¬ ∃ t, (vget State.reset.fb 11).lastA = some t ∧ t ≤ 7 ∧ 7 < t + State.reset.fbDelay 11 + 1 := by
  refine ⟨by decide +kernel, by decide +kernel, by decide +kernel, by decide +kernel, by decide +kernel, ⟨7, by decide +kernel⟩, ?_⟩
  rintro ⟨t, h, -⟩
  have e : (vget State.reset.fb 11).lastA = none := rfl
  rw [e] at h
  cases h

/-- A SENT channel that is on, and a frame of six zero nibbles, whose CRC nibble is 5. -/
def sentOn (l : List (Nat × Int)) : State := cfg ((Obj.SN_ENABLE 0, 1) :: l)
def sentOk (cal : Nat) : SentFrame := { cal := cal, nibbles := [12, 12, 12, 12, 12, 12, 12, 17], pause := some 12, start := 0 }
/-- Sixteen status bits with a start bit, the ID and data 0, and each CRC. -/
def slowRows : List (List (Bool × Bool)) := (List.range 16).map fun c => (List.range 16).map fun i => (i == 0, decide (12 ≤ i) && c.testBit (15 - i))
theorem witness_SentFramesAreJudged : State.reset.n (Obj.SN_ENABLE 7) = 0 ∧ (sentOn []).n (Obj.SN_ENABLE 0) ≠ 0 ∧ (sentOn []).sentJudge 0 (sentOk 1) ≠ 0 ∧ (sentOn []).sentJudge 0 (sentOk 16800) = 0 ∧
    (vget State.reset.sn 0).rejected = 0 ∧ (vget ({ State.reset with sn := .replicate 8 { rejected := 1 } } : State).sn 0).rejected ≠ 0 ∧
    (sentOn [(Obj.SN_FORMAT 0, 1)]).nat (Obj.SN_FORMAT 0) = 1 ∧ (sentOn [(Obj.SN_FORMAT 0, 0)]).nat (Obj.SN_FORMAT 0) ≠ 1 ∧
    (sentOn [(Obj.SN_SLOW_MODE 0, 1)]).nat (Obj.SN_SLOW_MODE 0) ≠ 0 ∧ (sentOn [(Obj.SN_SLOW_MODE 0, 0)]).nat (Obj.SN_SLOW_MODE 0) = 0 ∧ (sentOn [(Obj.SN_SLOW_MODE 0, 1)]).slowMessage 0 [] = none ∧
    (slowRows.any fun r => match (sentOn [(Obj.SN_SLOW_MODE 0, 1)]).slowMessage 0 r with | some (_, _, ok) => ok | none => false) = true ∧
    (slowRows.any fun r => match (sentOn [(Obj.SN_SLOW_MODE 0, 1)]).slowMessage 0 r with | some (_, _, ok) => !ok | none => false) = true ∧
    (vget ({ State.reset with sn := .replicate 8 { timeout := true } } : State).sn 0).timeout = true ∧ (vget State.reset.sn 0).timeout = false := by decide +kernel

/-- The sector at which the hall set of axis 0 stands. -/
def sector (n : Int) : State := cfg [(Obj.HALL_SECTOR 0, n), (Obj.HALL_DIR 0, 0)]
theorem witness_HallsAndObservers :
    ((sector 7).hallEdge 0 0 0).2 = none ∧ ((List.range 8).map fun c => hallSector 0 c) ≠ [] ∧ hallSector 0 0 = 7 ∧
    (∃ c : Fin 8, hallSector 0 c = ((sector 0).nat (Obj.HALL_SECTOR 0) + 1) % 6 ∧ ((sector 0).hallEdge 0 c 0).2 ≠ none) ∧
    (∃ c : Fin 8, (sector 0).nat (Obj.HALL_SECTOR 0) = (hallSector 0 c + 1) % 6 ∧ hallSector 0 c < 6) ∧
    (∃ c : Fin 8, hallSector 0 c < 6 ∧ hallSector 0 c ≠ 0 ∧ hallSector 0 c ≠ 1 ∧ 0 ≠ (hallSector 0 c + 1) % 6) ∧
    (∃ s : State, s = { State.reset with hall := .replicate 6 { badTicks := 10 ^ 6 } } ∧ s.nat (Obj.HALL_BAD_TICKS 0) ≤ (vget s.hall 0).badTicks ∧
      (vget s.hall 0).badRaised = false) ∧ (vget State.reset.hall 0).badTicks < State.reset.nat (Obj.HALL_BAD_TICKS 0) ∧
    (∃ s : State, s = { cfg [(Obj.OB_SOURCE 11, 0x1F), (Obj.OB_COAST_MAX 11, 5)] with ob := .replicate 12 { valid := true } } ∧ 0x10 ≤ s.nat (Obj.OB_SOURCE 11) ∧
      s.nat (Obj.OB_SOURCE 11) ≤ 0x1F ∧ (vget s.ob 11).valid = true ∧ s.nat (Obj.OB_COAST_MAX 11) ≠ 0 ∧ (vget s.ob 11).coast = false) ∧
    (vget State.reset.ob 11).valid = false := by
  refine ⟨by decide +kernel, by decide, by decide +kernel, by decide +kernel, by decide +kernel, by decide +kernel, ⟨_, rfl, by decide +kernel⟩, by decide +kernel,
    ⟨_, rfl, by decide +kernel⟩, by decide +kernel⟩

/-- Axis 0 in a state, with some of its fields set. -/
def axis0 (st : Int) (x : Axis) : State := { cfg [(Obj.AX_STATE 0, st)] with ax := .replicate 6 x }
theorem witness_AxisEvents : (∀ st ∈ [0, 1, 2, 3, 4, 5], (axis0 st {}).axState 0 = st.toNat) ∧ State.reset.ch.waltz.driven.testBit 0 = false ∧
    ({ State.reset with ch := { waltz := { driven := 63 } } } : State).ch.waltz.driven.testBit 5 = true ∧
    2000000 ≤ ((axis0 3 { slow := 2000000 }).axis 0).slow ∧ ((axis0 3 {}).axis 0).slow < 2000000 ∧
    (armed.armOk 25 = true ∧ ({ armed with ch := { armed.ch with armed := 0 } } : State).armOk 25 = true ∧
      ({ armed with ch := { armed.ch with armed := 0 } } : State).ch.armed.testBit 25 = false) ∧ armed.ch.armed.testBit 25 = true ∧ State.reset.armOk 25 = false ∧
    ((axis0 0 { zeroAt := some 0 }).axis 0).zeroAt = some 0 ∧ ((axis0 0 {}).axis 0).zeroAt = none ∧ ((axis0 0 {}).axis 0).ident = none ∧
    ((axis0 0 { ident := some 5 }).axis 0).ident = some 5 ∧ ((axis0 0 { heldOff := 4 }).axis 0).heldOff.testBit 2 = true ∧
    ((axis0 0 {}).axis 0).heldOff.testBit 2 = false := by decide +kernel

theorem witness_LinkAndDump : (cfg [(Obj.LINK_STATUS, 4)]).bit Obj.LINK_STATUS 2 = true ∧ State.reset.bit Obj.LINK_STATUS 2 = false ∧
    ({ State.reset with link := { forced := true } } : State).link.forced = true ∧ State.reset.link.forced = false ∧ 3 ≠ 2 ∧ Obj.VACT_MV ≠ Obj.LINK_STATUS := by decide +kernel

/-! ### Witnesses: generators, valves, leadership on the lines. -/

/-- All generators alike. -/
def gens (x : Gen) (l : List (Nat × Int)) : State := { cfg l with mx := .replicate 12 x }
theorem witness_GeneratorsStep :
    (∃ s : State, s = gens { engaged := true, target := 1 } [(Obj.MX_ASSIGN 0, 0x20)] ∧ (s.gen 0).engaged = true ∧ (s.gen 0).stop = none ∧ (s.genStepPair 0).isSome = true ∧
      (s.gen 0).pulse = false ∧ s.n (Obj.MX_POSITION 0) ≠ (s.gen 0).target) ∧
    (∃ s : State, s = gens { engaged := true, pulse := true } [] ∧ (s.gen 0).pulse = true ∧ s.n (Obj.MX_POSITION 0) = (s.gen 0).target) ∧
    (∃ s : State, s = gens { v := 2 ^ 31 } [(Obj.MX_ACCUM 0, 2 ^ 32 - 1)] ∧ (s.gen 0).engaged = false ∧
      nextCarry (s.nat (Obj.MX_ACCUM 0)) (s.gen 0).v (s.gen 0).clocks s.clk.tickLen ≠ none) ∧
    nextCarry 0 0 0 12500 = none ∧ (gens { stop := some (0, 0, 0) } []).gen 0 ≠ {} ∧
    (∃ s : State, s = gens { moving := true } [(Obj.MX_MODE 0, 1)] ∧ s.genMode 0 = 1 ∧ (s.gen 0).moving = true ∧ s.n (Obj.MX_POSITION 0) = s.n (Obj.MX_TARGET_POS 0)) ∧
    (∃ s : State, s = gens { pulse := true, waiting := [true] } [(Obj.MX_ASSIGN 0, 0x20)] ∧ s.genStepPair 0 = some 0 ∧ (s.gen 0).pulse = true) ∧
    (∃ s : State, s = cfg [(Obj.GEAR_STATUS 0, 8)] ∧ s.bit (Obj.GEAR_STATUS 0) 3 = true ∧ s.gearTable 0 0 = [] ∧ s.gearTable 0 1 = [] ∧ s.gearActive 0 = []) ∧
    State.reset.bit (Obj.GEAR_STATUS 0) 3 = false := by
  refine ⟨⟨_, rfl, by decide +kernel⟩, ⟨_, rfl, by decide +kernel⟩, ⟨_, rfl, by decide +kernel⟩, by decide +kernel, by decide +kernel, ⟨_, rfl, by decide +kernel⟩,
    ⟨_, rfl, by decide +kernel⟩, ⟨_, rfl, by decide +kernel⟩, by decide +kernel⟩

/-- Both coils of every channel in a phase. -/
def coils (x : Coil) (l : List (Nat × Int)) : State := { cfg l with vs := .replicate 4 { live := true, coils := .replicate 2 x } }
theorem witness_ChoppersCycle : (∀ p ∈ [Chop.off, .blank, .on, .fast, .slow, .flip], (vget ((coils { phase := p } []).stepper 3).coils 1).phase = p) ∧
    (∃ s : State, s = coils { phase := .on, ref := 2000, maxed := 15 } [(Obj.VSM_MV, 12000), (Obj.VS_OPEN_MIN 3, 2000)] ∧
      (if s.nat (Obj.VS_OPEN_MIN 3) ≤ (vget (s.stepper 3).coils 1).ref.natAbs ∧ 12000 ≤ s.nat Obj.VSM_MV then (vget (s.stepper 3).coils 1).maxed + 1 else 0) = 16) ∧
    (∃ s : State, s = coils { phase := .slow } [(Obj.VS_TOFF 3, 20), (Obj.VS_FAST 3, 0)] ∧ 1000 ≤ s.nat (Obj.VS_TOFF 3) * 100 * (16 - s.nat (Obj.VS_FAST 3)) / 16) ∧
    (∃ s : State, s = coils { phase := .slow } [(Obj.VS_TOFF 3, 20), (Obj.VS_FAST 3, 15)] ∧ s.nat (Obj.VS_TOFF 3) * 100 * (16 - s.nat (Obj.VS_FAST 3)) / 16 < 1000) ∧
    (coils {} [(Obj.VS_ENABLE 3, 1)]).vsConducts 3 = true ∧ State.reset.vsConducts 3 = false ∧ (State.reset.stepper 3).live = false ∧ ((coils {} []).stepper 3).live = true := by
  refine ⟨by decide +kernel, ⟨_, rfl, by decide +kernel⟩, ⟨_, rfl, by decide +kernel⟩, ⟨_, rfl, by decide +kernel⟩, by decide +kernel, by decide +kernel, by decide +kernel, by decide +kernel⟩

/-- All solenoids alike. -/
def sols (x : Solenoid) (l : List (Nat × Int)) : State := { cfg l with sol := .replicate 16 x }
theorem witness_SolenoidsSwitch : (∀ w ∈ [Switch.off, .fresh, .on, .probe], ((sols { sw := w, centre := 500, probeAt := 450 } []).soln 15).sw = w) ∧
    (((sols { centre := 500 } []).soln 15).centre + vget (sols {} []).lp.bands 15 < (501 : Nat) ∧ ((500 : Nat) : Int) ≤ ((sols { centre := 500 } []).soln 15).centre + vget (sols {} []).lp.bands 15) ∧
    (((450 : Nat) : Int) ≤ ((sols { probeAt := 450 } []).soln 15).probeAt ∧ ((sols { probeAt := 450 } []).soln 15).probeAt < (451 : Nat)) ∧
    (∃ s : State, s = sols { centre := 500, live := true } [(Obj.SOL_ENABLE 15, 1)] ∧ (s.soln 15).sw = .off ∧ (s.soln 15).centre ≠ 0 ∧ s.solConducts 15 = true) ∧ State.reset.solConducts 15 = false ∧
    ((sols { pullin := true } []).soln 15).pullin = true ∧ ((sols {} []).soln 15).pullin = false ∧
    ((cfg [(Obj.SOL_OPEN_MA 15, 500)]).n (Obj.SOL_OPEN_MA 15) ≤ ((sols { centre := 500 } []).soln 15).centre) ∧
    ((sols { centre := 499 } []).soln 15).centre < (cfg [(Obj.SOL_OPEN_MA 15, 500)]).n (Obj.SOL_OPEN_MA 15) := by
  refine ⟨by decide +kernel, by decide +kernel, by decide +kernel, ⟨_, rfl, by decide +kernel⟩, by decide +kernel, by decide +kernel, by decide +kernel, by decide +kernel, by decide +kernel⟩

/-- A lane that may take LEAD_OUT, where its sequence stands, with the peer lines. -/
def taking (t : Take) (peers seen : Bool) (rechecks : Nat) (lane : Int := 1) : State :=
  { cfg [(Obj.CHAP_STATE, 2), (Obj.LEAD_MODE, 0), (Obj.STRAP_WORD, lane)] with ch := { take := t, permission := some 1, peers := .replicate 2 peers, seen := .replicate 2 seen, rechecks := rechecks } }
theorem witness_InterlockTakesTurns :
    (∀ t ∈ [Take.idle, .quiet, .delay, .check], (taking t false false 0).ch.take = t) ∧
    (taking .quiet false false 0).peersLow = true ∧ (taking .quiet true false 0).peersLow = false ∧
    (({ taking .quiet false false 0 with ch := { (taking .quiet false false 0).ch with peerHold := false } } : State).mayTake = true) ∧
    State.reset.mayTake = false ∧ (taking .delay false false 0).mayTake = true ∧
    ((cfg [(Obj.CHAP_STATE, 4)]).chapState = 4 ∧ (cfg [(Obj.CHAP_STATE, 4)]).ch.waltz.holder = false ∧ (cfg [(Obj.CHAP_STATE, 4)]).ch.waltz.holdDone = false ∧
      (cfg [(Obj.CHAP_STATE, 4)]).ch.waltz.step = 0) ∧
    (taking .check false false 0).seenPeers = [] ∧ (taking .check false true 0).seenPeers ≠ [] ∧ 2 ≤ (taking .check false true 2).ch.rechecks ∧ (taking .check false true 1).ch.rechecks < 2 ∧
    (taking .check false true 0 2).lowerLane (taking .check false true 0 2).seenPeers = true ∧
    (taking .check false true 0).lowerLane (taking .check false true 0).seenPeers = false ∧
    (({ State.reset with bl := { differ := true } } : State).bl.differ = true ∧ State.reset.bl.disagree = false) ∧ State.reset.bl.differ = false ∧
    (armed.ch.armed ≠ 0 ∧ armed.nat Obj.LEAD_MODE = 0) := by decide +kernel

/-! ### Witnesses: cards, line tests, partners, the chaperone. -/

/-- What partner 1 of lane 1 announces where it matches: lane 2 of two. -/
def peer2 : Announcement := { unit := 0, func := 0, lane := 2, size := 2, ticks := 20, signature := 0 }
/-- Lane 1 as a settled follow that has heard its partner, in a leading mode, with a card of this expiry or none. -/
def follow (mode : Int) (any : Bool) (l : List (Nat × Int)) : State :=
  { cfg ([(Obj.STRAP_WORD, 1), (Obj.LEAD_MODE, mode), (Obj.TICKS_PER_BEAT, 20), (Obj.CARD_NUMBER, 5), (Obj.CARD_EXPIRY, 1000000)] ++ l) with
    ld := { settled := true, announced := .replicate 2 (some peer2), card := { any := any, released := true } }, clk := { joined := true } }
/-- A card of this number, from lane 2. -/
def card (number reason : Nat) : Card := { type := 1, reason := reason, issuer := 2, holder := 2, number := number, expiry := 2000000 }
theorem witness_CardMessagesAreJudged :
    (3 ≤ ({ State.reset with ld := { restarting := true } } : State).role ∧ vget State.reset.ld.announced 1 = none) ∧
    ((follow 1 true []).role < 3 ∧ vget (follow 1 true []).ld.announced 0 = some peer2 ∧ (follow 1 true []).announceOk 0 peer2 = true ∧ (follow 1 true []).ld.card.any = true) ∧
    ((follow 1 true []).announceOk 0 { peer2 with lane := 3 } = false) ∧
    ((card 7 0).number ≠ (follow 1 true []).nat Obj.CARD_NUMBER ∧ (card 7 0).number ≠ ((follow 1 true []).nat Obj.CARD_NUMBER + 1) % 2 ^ 32) ∧
    ((card 6 0).number = ((follow 1 true []).nat Obj.CARD_NUMBER + 1) % 2 ^ 32) ∧ (follow 1 false []).ld.card.any = false ∧
    (1199999 < (follow 1 true []).nat Obj.CARD_EXPIRY + 200000 ∧ (follow 1 true []).nat Obj.CARD_EXPIRY + 200000 ≤ 1200000) ∧ ((card 6 2).reason ≤ 2 ∧ 2 < (card 6 3).reason) := by
  decide +kernel

/-- Lane 1 holding a card under lease. -/
def holder (mode : Int) : State := { follow mode true [(Obj.CARD_HOLDER, 1)] with ch := { lease := some 5 } }
theorem witness_CardsFollowTheirTimes : ((holder 1).holdsCard = true ∧ (holder 1).ch.lease.isSome = true ∧ (holder 1).ld.card.resigned = false ∧ (holder 1).role ≤ 2) ∧ (follow 1 true []).holdsCard = false ∧
    ((electable [(Obj.LEAD_MODE, 1)]).nat Obj.LEAD_MODE = 1 ∧ (electable [(Obj.LEAD_MODE, 1)]).holdsCard = false ∧ (electable [(Obj.LEAD_MODE, 1)]).ld.gaveUp = false ∧
      (electable [(Obj.LEAD_MODE, 1)]).laneNo = 1 ∧ (electable [(Obj.LEAD_MODE, 1)]).ld.rank = 0 ∧ (electable [(Obj.LEAD_MODE, 1)]).nat Obj.CARD_EXPIRY + 200000 + 100000 * (1 - 1) ≤ 10 ^ 6 ∧ ((electable [(Obj.LEAD_MODE, 1)]).issueCard 3 (10 ^ 6)).isSome = true) ∧
    State.reset.issueCard 3 0 = none ∧ ((follow 1 true []).nat Obj.LEAD_MODE = 1 ∧ (follow 1 true []).ld.card.released = true) ∧
    (follow 0 true []).nat Obj.LEAD_MODE ≠ 1 ∧ State.reset.eligible = false := by decide +kernel
theorem witness_CardsFollowTheirTimes_eligible : (electable [(Obj.LEAD_MODE, 1)]).eligible = true := by decide +kernel

theorem witness_LineTestsRunAndAreJudged : State.reset.ld.testing = false ∧
    ((1 : Fin 4).val ≠ 0 ∧ (1 : Fin 4).val = (holder 1).laneNo ∧ (2 : Fin 4).val ≠ (holder 1).laneNo ∧ (holder 1).chapState ≠ 2) ∧
    (∃ s : State, s = { follow 1 true [(Obj.CHAP_STATE, 2)] with ld := { testing := true } } ∧ s.ld.testing = true ∧ (1 : Fin 4).val = s.laneNo ∧ s.chapState = 2) ∧
    (∃ s : State, s = { holder 1 with ld := { (holder 1).ld with testing := true, before := .replicate 2 (some (2 ^ 24 * 200 + 2 ^ 21)) } } ∧ s.ld.testing = true ∧
      s.peerPresent 0 = true ∧ s.holdsCard = true ∧ s.sawUs 0 = false ∧ vget s.ld.pulseSeen 0 = false ∧ s.followers false (fun w => decide (1 ≤ wordScore w)) ≠ []) ∧
    (∃ s : State, s = { follow 1 true [] with ld := { (follow 1 true []).ld with testing := true, lost := .replicate 2 true } } ∧ s.holdsCard = false ∧
      [0, 1].filter (fun p => s.peerPresent p) = [] ∧ s.followers false (fun w => decide (1 ≤ wordScore w)) = []) ∧
    (∃ s : State, s = { follow 0 false [] with ld := { leading := true } } ∧ s.ld.leading = true ∧ s.nat Obj.LEAD_MODE = 0 ∧ (s.issueCard 1 0).isSome = true) := by
  refine ⟨by decide, by decide +kernel, ⟨_, rfl, by decide +kernel⟩, ⟨_, rfl, by decide +kernel⟩, ⟨_, rfl, by decide +kernel⟩, ⟨_, rfl, by decide +kernel⟩⟩

theorem witness_PartnersAreFollowed : (follow 0 false []).announceOk 0 peer2 = true ∧ (follow 0 false []).announceOk 0 { peer2 with unit := 1 } = false ∧
    (∃ s : State, s = { follow 1 false [(Obj.LINE_TEST_TIME, 5)] with ld := { settled := true, testing := true } } ∧ s.announceOk 0 peer2 = true ∧ s.nat Obj.LEAD_MODE = 1 ∧ s.ld.testing = true ∧
      s.clk.now < s.nat Obj.LINE_TEST_TIME) ∧ ((follow 0 false []).nat Obj.LEAD_MODE ≠ 1 ∧ (follow 0 false []).role = 1) ∧ State.reset.role ≠ 1 ∧
    (follow 0 false []).shadowGen 0 {} = false ∧ (∃ s : State, s = { follow 0 false [] with ld := { genShots := [(0, [1])] } } ∧ s.shadowGen 0 { a := 2 } = false) ∧
    ((follow 0 false []).shadowRun {}).y = 0 ∧ ((follow 0 false []).shadowRun {}).y ≠ ({ y := 1 } : ShadowCell).y ∧
    (follow 0 false []).peerLane 0 ≠ 0 ∧ (follow 0 false []).peerLane 1 = 0 ∧ wordRole (5 * 2 ^ 21) = 5 ∧
    (∃ s : State, s = { follow 0 false [] with ld := { missing := .replicate 2 255 } } ∧ vget s.ld.lost 0 = false ∧ s.nat Obj.PEER_TIMEOUT ≤ vget s.ld.missing 0) ∧
    vget State.reset.ld.missing 0 < State.reset.nat Obj.PEER_TIMEOUT ∧
    (∃ s : State, s = { cfg [(Obj.LADDER_LEVEL, 3)] with ld := { ladderRun := true } } ∧ s.ld.ladderRun = true ∧ s.nat Obj.LADDER_LEVEL = 3) ∧
    ((cfg [(Obj.LADDER_LEVEL, 1), (Obj.VEH_SPEED, 0)]).nat Obj.LADDER_LEVEL < 2 ∧ (cfg [(Obj.LADDER_LEVEL, 1), (Obj.VEH_SPEED, 0)]).nat Obj.VEH_SPEED = 0) ∧
    2 ≤ (cfg [(Obj.LADDER_LEVEL, 2)]).nat Obj.LADDER_LEVEL := by
  refine ⟨by decide +kernel, by decide +kernel, ⟨_, rfl, by decide +kernel⟩, by decide +kernel, by decide +kernel, by decide +kernel, ⟨_, rfl, by decide +kernel⟩, by decide +kernel,
    by decide +kernel, by decide +kernel, by decide +kernel, by decide, ⟨_, rfl, by decide +kernel⟩, by decide +kernel, ⟨_, rfl, by decide +kernel⟩, by decide +kernel, by decide +kernel⟩

/-- The chaperone in a state. -/
def chap (st : Int) (c : Chaperone) (l : List (Nat × Int)) : State := { cfg ((Obj.CHAP_STATE, st) :: l) with ch := c }
theorem witness_ChaperoneJudges : (∀ st ∈ [0, 1, 2, 3, 4, 5], (chap st {} []).chapState = st.toNat) ∧
    ((7 : BitVec 8).toNat = (6 + 1) % 256 ∧ ((0 : BitVec 8).toNat = (255 + 1) % 256)) ∧ (chap 2 { seq := some 6 } []).ch.seq = some 6 ∧ State.reset.ch.seq = none ∧
    ((chap 1 { sideBad := 2 } []).ch.sideBad + 1 = 3) ∧ ((chap 2 { demand := 0 } []).brakeWrong true = false ∧ (chap 1 {} []).gateStuck = false) ∧ (1999 < 2000 ∧ 4000 < 4001) ∧ State.reset.rateOver 0 = false ∧
    ((chap 2 {} [(Obj.CHAP_SIG, 1)]).nat Obj.CHAP_SIG ≠ (0 : Word).toNat ∧ (chap 2 {} [(Obj.CHAP_SIG, 1)]).nat Obj.CHAP_SIG = (1 : Word).toNat) ∧
    (State.reset.peersLow = true ∧ ({ chap 3 {} [] with ch := { peers := .replicate 2 true } } : State).peersLow = false) ∧
    (3 ≤ (axis0 3 {}).axState 0 ∧ (axis0 3 {}).chapSector 0 = 7 ∧ (axis0 2 {}).axState 0 < 3) ∧ (chap 2 {} []).gateStuck = false := by decide +kernel

theorem witness_WatchdogCountsErrors : State.reset.ch.wdg = false ∧ (chap 2 { wdg := true, judged := false } []).ch.wdg = true ∧ (chap 2 { wdg := true, judged := false } []).pw.sleep = 0 ∧ (chap 2 { wdg := true, judged := false } []).ch.judged = false ∧
    State.reset.ch.judged = true ∧
    (100 * 4999 < (cfg [(Obj.WDG_OPEN, 50), (Obj.WDG_PERIOD, 10000)]).nat Obj.WDG_OPEN * (cfg [(Obj.WDG_OPEN, 50), (Obj.WDG_PERIOD, 10000)]).nat Obj.WDG_PERIOD ∧
      (cfg [(Obj.WDG_OPEN, 50), (Obj.WDG_PERIOD, 10000)]).nat Obj.WDG_OPEN * (cfg [(Obj.WDG_OPEN, 50), (Obj.WDG_PERIOD, 10000)]).nat Obj.WDG_PERIOD ≤ 100 * 5000) ∧
    ((cfg [(Obj.WDG_CLOSE, 90), (Obj.WDG_PERIOD, 10000)]).nat Obj.WDG_CLOSE * (cfg [(Obj.WDG_CLOSE, 90), (Obj.WDG_PERIOD, 10000)]).nat Obj.WDG_PERIOD < 100 * 9001 ∧
      100 * 9000 ≤ (cfg [(Obj.WDG_CLOSE, 90), (Obj.WDG_PERIOD, 10000)]).nat Obj.WDG_CLOSE * (cfg [(Obj.WDG_CLOSE, 90), (Obj.WDG_PERIOD, 10000)]).nat Obj.WDG_PERIOD) ∧
    ((cfg [(Obj.WDG_ERRORS, 7), (Obj.WDG_LIMIT, 10)]).n Obj.WDG_ERRORS + 2 < (cfg [(Obj.WDG_ERRORS, 7), (Obj.WDG_LIMIT, 10)]).n Obj.WDG_LIMIT ∧
      (cfg [(Obj.WDG_ERRORS, 8), (Obj.WDG_LIMIT, 10)]).n Obj.WDG_LIMIT ≤ (cfg [(Obj.WDG_ERRORS, 8), (Obj.WDG_LIMIT, 10)]).n Obj.WDG_ERRORS + 2) ∧
    (1 : BitVec 16) ≠ 0 := by decide +kernel

theorem witness_GuardianKeepsWindows : (2 : Fin 4).val = 2 ∧ (3 : Fin 4).val ≠ 2 ∧ (1 : Fin 4).val ≤ 1 ∧ (chap 2 { guardRaised := 8 } []).ch.guardRaised.testBit 3 = true ∧
    State.reset.ch.guardRaised.testBit 3 = false ∧ State.reset.bit Obj.CHAP_TIME 1 = false ∧ (cfg [(Obj.CHAP_TIME, 2)]).bit Obj.CHAP_TIME 1 = true := by decide +kernel

/-- The chaperone in the last waltz. -/
def waltzing (w : Waltz) (peers : Bool) : State := chap 4 { waltz := w, peers := .replicate 2 peers } []
theorem witness_LastWaltzRuns : ((chap 3 { ebReleased := true } []).chapState = 3 ∧ (chap 3 { ebReleased := true } []).ch.leadOut = false ∧
      (chap 3 { ebReleased := true } []).peersLow = true ∧ (chap 3 { ebReleased := true } []).ch.ebReleased = true) ∧
    ((waltzing {} false).chapState = 4 ∧ (waltzing {} false).ch.waltz.rampDone = false) ∧ (waltzing { rampDone := true } false).ch.waltz.rampDone = true ∧
    ((waltzing { step := 1 } false).ch.waltz.step = 1 ∧ (waltzing { step := 1 } false).peersLow = true ∧ (waltzing { step := 1 } true).peersLow = false) ∧
    ((waltzing { step := 2 } false).ch.waltz.step = 2 ∧ (waltzing { step := 2, lower := true } false).ch.waltz.lower = true ∧ (waltzing { step := 2 } false).ch.waltz.lower = false) ∧
    ((waltzing { holdDone := true } false).ch.waltz.holdDone = true ∧ (waltzing {} false).ch.waltz.holdDone = false) ∧
    ((waltzing { toff := 32 } false).ch.waltz.toff.testBit 5 = true ∧ (waltzing {} false).ch.waltz.toff.testBit 5 = false) ∧ State.reset.chapState ≠ 4 := by decide +kernel

/-! ### Witnesses: networks, streams, memory, faults, the dictionary. -/

/-- A schedule row's 8 bytes (R411), repeated in every beat. -/
def rowW (window type owner length start : Nat) : List Byte := le 8 (window * 2 ^ 59 + type * 2 ^ 57 + owner * 2 ^ 40 + length * 2 ^ 28 + start)
/-- Lane 1, node 9, joined and in OPERATE, with a schedule on A and B: its own window 1, an arbitrating window 2, another node's window 3. -/
def netted (l : List (Nat × Int)) : State :=
  { (cfg ([(Obj.STRAP_WORD, 1), (Obj.CHAP_STATE, 2), (Obj.BEAT_LENGTH, 4000), (Obj.GUARD_STATUS, 0xF0)] ++ l)).put Obj.SCHED_AB
      (.oct (rowW 1 1 9 32 20000 ++ rowW 2 2 127 32 40000 ++ rowW 3 1 17 32 60000)) with clk := { joined := true } }
theorem witness_WindowsAreServed : (netted []).window 0 4 0 = none ∧
    (∃ r idx, (netted []).window 0 1 0 = some (r, idx) ∧ (netted []).windowOpen 0 r idx = true ∧ r.type ≠ 2 ∧ (netted []).ownsWindow 0 r idx = true ∧
      Sparse.get (fun _ => []) ((netted []).port 0).latched r.window = []) ∧
    (∃ r idx, (netted []).window 0 2 0 = some (r, idx) ∧ (netted []).windowOpen 0 r idx = true ∧ r.type = 2) ∧
    (∃ r idx, (netted []).window 0 3 0 = some (r, idx) ∧ r.type ≠ 2 ∧ (netted []).ownsWindow 0 r idx = false ∧ ({ netted [(Obj.GUARD_STATUS, 1)] with ch := {} } : State).windowOpen 0 r idx = false) ∧
    ((netted []).maySend = true ∧ (netted []).sends = true ∧ (netted []).ld.restarting = false ∧ (netted []).pw.entry ≠ 1) ∧ State.reset.maySend = false ∧
    (∃ s : State, s = { (netted []).portMod 0 (fun x => { x with openAt := some 7 }) with pw := { entry := 1 }, ld := { restarting := true } } ∧ s.maySend = false ∧ s.sends = true ∧
      (s.port 0).openAt = some 7 ∧ s.ld.restarting = true) ∧ (2000 + 2000) / (netted []).beatCounts = 0 ∧
    (∃ s : State, s = (netted []).portMod 0 (fun x => { x with latched := [(1, [0#8])], onBus := some (1, [0#8]) }) ∧ (s.port 0).onBus = some (1, [0#8]) ∧
      Sparse.get (fun _ => []) (s.port 0).latched 1 ≠ []) ∧ ((netted []).port 0).onBus = none := by
  refine ⟨by decide +kernel, ⟨_, _, rfl, by decide +kernel, by decide +kernel, by decide +kernel, by decide +kernel⟩, ⟨_, _, rfl, by decide +kernel, by decide +kernel⟩,
    ⟨_, _, rfl, by decide +kernel, by decide +kernel, by decide +kernel⟩, by decide +kernel, by decide +kernel, ⟨_, rfl, by decide +kernel⟩, by decide +kernel,
    ⟨_, rfl, by decide +kernel, by decide +kernel⟩, by decide +kernel⟩

/-- A frame of a sender that starts with window 3 of beat 0. -/
def rx (type flags sender net : Nat) : RxFrame :=
  { start := 60000, id := 1024, fd := false, foreign := false, sec := false, sdt := 0, payload := le 1 type ++ le 1 flags ++ le 1 sender ++ le 1 net }
theorem witness_ReceivedFramesAreSorted : (cfg [(Obj.PORT_ROLE 3, 0)]).nat (Obj.PORT_ROLE 3) = 0 ∧ (cfg [(Obj.PORT_ROLE 3, 1)]).nat (Obj.PORT_ROLE 3) ≠ 0 ∧
    ((rx 2 0 17 0).sdt.toNat = (netted [(Obj.PORT_SDT 0, 0)]).nat (Obj.PORT_SDT 0) ∧ (rx 2 0 17 0).sdt.toNat ≠ (netted [(Obj.PORT_SDT 0, 7)]).nat (Obj.PORT_SDT 0)) ∧
    ((netted []).acceptRow 0 (rx 2 0 17 0)).isSome = true ∧ (netted []).acceptRow 0 (rx 2 0 16 0) = none ∧ ((netted []).acceptRow 0 (rx 0x55 1 17 0)).isSome = true ∧
    (leNat (((rx 2 0 17 0).payload.drop 2).take 1) ≠ (netted []).portAddr 0 ∧ leNat (((rx 2 0 9 0).payload.drop 2).take 1) = (netted []).portAddr 0) ∧
    leNat ((rx 4 0 17 0).payload.take 1) = 4 ∧ (leNat (((rx 2 1 17 0).payload.drop 1).take 1)).testBit 0 = true := by decide +kernel

/-- A reference frame of a sender. -/
def refOf (sender stamp : Nat) (confirms : List Nat) : RefFrame :=
  { net := 0, sender := sender, stamp := stamp, time := 0, reel := 0, beat := 0, prio := 1, uplink := false, free := false, signature := 0, step := none, confirms := confirms }
theorem witness_ReferencesKeepTime : (netted []).refSuits 0 (refOf 17 2000 []) = false ∧ ({ netted [] with clk := {} } : State).refSuits 2 (refOf 17 0 []) = false ∧
    ({ cfg [] with clk := { joined := true } } : State).refSuits 0 (refOf 17 2000 []) = true ∧ ({ cfg [] with clk := { joined := true } } : State).refSuits 0 (refOf 17 2001 []) = false ∧
    ((refOf 9 0 []).sender = (netted []).portAddr 0 ∧ (refOf 17 0 []).sender ≠ (netted []).portAddr 0 ∧ (refOf 9 0 []).own = false ∧ ({ refOf 9 0 [] with own := true } : RefFrame).own = true) ∧ (netted []).givesTime 0 = true ∧ (netted []).givesTime 3 = false ∧
    (netted []).ra.used = none ∧
    (∃ s : State, s = netted [(Obj.TIME_SOURCE, 4), (Obj.MASTER_STATE, 2), (Obj.PORT_UPLINK 0, 3)] ∧ s.clk.joined = true ∧ s.nat Obj.TIME_SOURCE = 4 ∧ 3 ∈ s.uplinks) ∧
    (∃ s : State, s = { netted [] with ra := { ports := .replicate 4 { sinceRef := 255 } } } ∧ s.clk.joined = true ∧ s.abSilent = true) ∧
    (∃ s : State, s = cfg [(Obj.STRAP_WORD, 32768), (Obj.MASTER_PORTS, 1), (Obj.MASTER_STATE, 0)] ∧ s.candidate 0 = true ∧ s.clk.joined = false ∧ s.ra.timed = false) ∧ State.reset.candidate 2 = false ∧
    ((({ State.reset with ra := { ports := .replicate 4 { cold := 1, collisions := 2 } } } : State).port 3).cold = 1 ∧
      (({ State.reset with ra := { ports := .replicate 4 { cold := 1, collisions := 2 } } } : State).port 3).collisions = 2) ∧ (State.reset.port 3).cold ≠ 1 ∧
    (cfg [(Obj.MASTER_STATE, 128)]).masterState 3 = 2 ∧ State.reset.masterState 3 ≠ 2 ∧ State.reset.ra.step = none ∧
    ({ State.reset with ra := { step := some (0, 100) } } : State).ra.step = some (0, 100) := by
  refine ⟨by decide +kernel, by decide +kernel, by decide +kernel, by decide +kernel, by decide +kernel, by decide +kernel, by decide +kernel, by decide, ⟨_, rfl, by decide +kernel⟩,
    ⟨_, rfl, by decide +kernel⟩, ⟨_, rfl, by decide +kernel⟩, by decide +kernel, by decide, by decide, by decide +kernel, by decide +kernel, rfl, rfl⟩

theorem witness_PortsAnnouncementsAndAzsin : (cfg [(Obj.PORT_STATUS 3, 16)]).portUp 3 = true ∧ State.reset.portUp 3 = false ∧ (0 : Fin 5).val = 0 ∧ (1 : Fin 5).val ≠ 0 ∧ ((cfg [(Obj.PORT_ROLE 3, 1)]).nat (Obj.PORT_ROLE 3) ≠ 0 ∧ (cfg [(Obj.PORT_ROLE 3, 0)]).nat (Obj.PORT_ROLE 3) = 0 ∧ State.reset.clk.joined = false) ∧
    (rowsOf 32 (zeros 32)).length = 1 ∧ (∃ r ∈ rowsOf 32 (zeros 32), leNat (r.take 1) = 0) ∧ (rowsOf 32 (zeros (32 * 126))).length = 126 ∧
    (9#7).toNat = (netted []).portAddr 0 ∧ (∃ c : BitVec 192, c.toNat / 2 ^ 128 ≠ Config.serial.toNat) ∧
    ((netted [(Obj.ANNOUNCE_REPEAT, 5)]).nat Obj.ANNOUNCE_REPEAT ≠ 0 ∧ (netted []).clk.joined = true) ∧ (cfg [(Obj.ANNOUNCE_REPEAT, 0)]).nat Obj.ANNOUNCE_REPEAT = 0 ∧
    ((cfg [(Obj.AZ_ROLE 1023, 2), (Obj.AZ_STATE 1023, 2)]).nat (Obj.AZ_ROLE 1023) = 2 ∧ (cfg [(Obj.AZ_ROLE 1023, 2), (Obj.AZ_STATE 1023, 2)]).nat (Obj.AZ_STATE 1023) = 2) ∧
    (cfg [(Obj.AZ_ROLE 1023, 2), (Obj.AZ_STATE 1023, 1)]).nat (Obj.AZ_STATE 1023) = 1 := by
  refine ⟨by decide +kernel, by decide +kernel, rfl, by decide, by decide +kernel, by decide, by decide, by decide +kernel, by decide +kernel, ?_, by decide +kernel, by decide +kernel, by decide +kernel,
    by decide +kernel⟩
  by_cases h : Config.serial.toNat = 0
  · exact ⟨BitVec.ofNat 192 (2 ^ 128), by rw [h]; decide⟩
  · exact ⟨0, fun e => h (by simpa using e.symm)⟩

/-- An IMAGE frame of zeros. -/
def imageFrame (n : Nat) : StreamFrame :=
  { type := 4, flags := 0, seq := 0, offset := 0, payload := zeros n, crc := BitVec.ofNat 32 (streamCrc 4 0 0 0 (zeros n)), whole := true, codeErrors := 0, verified := false, version := 0, secver := 0 }
/-- The stream port in a state. -/
def streaming (st : Int) (x : Stream) (credits : Int := 0) : State := { cfg [(Obj.STREAM_STATE, st), (Obj.STREAM_ENABLE, 1), (Obj.DOMAIN_STATUS, 1), (Obj.STREAM_PARTNER_CREDITS, credits)] with sp := x }
theorem witness_StreamPortRuns : ((streaming 1 {}).n Obj.STREAM_ENABLE ≠ 0 ∧ (streaming 1 {}).domainUp 0 = true ∧ (streaming 1 {}).streamState = 1) ∧
    (cfg [(Obj.STREAM_ENABLE, 0)]).n Obj.STREAM_ENABLE = 0 ∧ (cfg [(Obj.DOMAIN_STATUS, 0)]).domainUp 0 = false ∧ ((streaming 2 {}).streamState = 2 ∧ (streaming 2 {}).sp.idle = false) ∧
    (streaming 2 { idle := true, failed := true }).sp.idle = true ∧ (streaming 2 { failed := true }).sp.failed = true ∧ (streaming 3 {}).streamState = 3 ∧
    ((5 : Fin 6).val ≠ 0 ∧ (5 : Fin 6).val ≠ 4 ∧ (4 : Fin 6).val = 4) ∧
    (((streaming 3 { dict := [[0#8]] } 1).waitingFrames 0).find? (fun f => decide (streamCredits f.payload.length ≤
      (streaming 3 { dict := [[0#8]] } 1).creditsLeft (streamClass f.type)))).isSome = true ∧
    (((streaming 3 { dict := [[0#8]] } 0).waitingFrames 0).filter (fun f => streamClass f.type == 0) ≠ [] ∧
      ∀ g ∈ ((streaming 3 { dict := [[0#8]] } 0).waitingFrames 0).filter (fun f => streamClass f.type == 0), (streaming 3 { dict := [[0#8]] } 0).creditsLeft 0 < streamCredits g.payload.length) ∧
    ((streaming 3 {}).waitingFrames 0).filter (fun f => streamClass f.type == 1) = [] ∧ ((streaming 3 {}).col.failSilent = false ∧ (streaming 3 {}).appStopped = false) ∧ ((cfg [(Obj.STREAM_NETWORK, 1)]).nat Obj.STREAM_NETWORK ≠ 0xFF ∧
      (cfg [(Obj.STREAM_NETWORK, 255)]).nat Obj.STREAM_NETWORK = 0xFF ∧ ({ State.reset with ld := { restarting := true } } : State).appStopped = true) ∧
    streamValid 3 10 false = true ∧ streamValid 99 44 false = false ∧ streamGood (imageFrame 8) = true ∧ streamGood { imageFrame 8 with crc := 0 } = false := by
  refine ⟨by decide +kernel, by decide +kernel, by decide +kernel, by decide, by decide, by decide +kernel, by decide, by decide +kernel, by decide +kernel, by decide +kernel, by decide +kernel,
    by decide +kernel, by decide +kernel, by decide +kernel, by decide +kernel, by decide +kernel⟩

/-- An event of 32 rows in slot 0 that is being stored. -/
def storing (total : Nat) (trailer : Bool) : State := { State.reset with rc := { event := some { total := 32 }, total := total, trailer := trailer } }
/-- An error found by the scrubber at address 0 of a memory: these check bits of a word of zeros, or these bits of a flash codeword. -/
def eccOf (m : Fin 11) (check : Byte) (bits : BitVec 16) : EccError :=
  { m := m, access := 4, app := false, addr := 0, data := 0, check := check, bits := bits, channel := 0, left := 0, cell := 0, lost := none }
theorem mem_of_mem_chosen {α : Type} (f : Nat → Nat) : ∀ (k : Nat) (l : List α) (x : α), x ∈ chosen f k l → x ∈ l
  | 0, _, _, h => by cases h
  | k + 1, l, x, h => by
    rcases List.mem_append.mp h with h | h
    · exact List.mem_of_getElem? (Option.mem_toList.mp h)
    · exact (List.eraseIdx_sublist ..).subset (mem_of_mem_chosen f k _ x h)
/-- Two wrong check bits are not corrected, whatever columns the code has (log 211). -/
theorem copier_uncorrected : (copierRead (eccOf 9 3 0)).corrected = false := by
  have hs : (copierRead (eccOf 9 3 0)).syndrome = 3 := by decide +kernel
  have hm : (copierRead (eccOf 9 3 0)).m.val ≠ 10 := by decide
  have h3 : (3 : Byte) ∉ bytesOfWeight 3 := by decide +kernel
  have h5 : (3 : Byte) ∉ bytesOfWeight 5 := by decide +kernel
  have hc : (3 : Byte) ∉ dataColumns := fun h => (List.mem_append.mp (mem_of_mem_chosen _ _ _ _ h)).elim h3 fun h => h5 (mem_of_mem_chosen _ _ _ _ h)
  have hw : (ones8 (3 : Byte).toNat == 1) = false := by decide +kernel
  rw [EccError.corrected, if_neg hm, hs, oneBit, hw, Bool.false_or]
  simpa using hc
theorem witness_MemoriesAndRecorderKeep : (0 < 2 ^ 29 ∧ 2 ^ 29 - 1 < 2 ^ 29 ∧ 28 < 29 ∧ 63 < 64 ∧ 7 < 8) ∧
    ((eccOf 0 0 0).found = false ∧ (eccOf 0 1 0).found = true ∧ (eccOf 0 1 0).corrected = true ∧ (eccOf 10 0 40).corrected = true ∧ (eccOf 10 0 41).found = true ∧ (eccOf 10 0 41).corrected = false) ∧
    ((cfg [(Obj.INIT_STATUS, 255)]).mayRead (eccOf 0 1 0) = true ∧ (cfg [(Obj.INIT_STATUS, 0)]).mayRead (eccOf 0 1 0) = false ∧ (cfg [(Obj.INIT_STATUS, 0)]).mayRead (eccOf 10 0 41) = true) ∧
    ((cfg [(Obj.INIT_STATUS, 255)]).scrubs 10 = true ∧ (cfg [(Obj.INIT_STATUS, 0)]).scrubs 0 = false) ∧ State.reset.me.remaps.find? (fun r => r.m == 3 && r.base == 0 && r.copied) = none ∧
    (∃ s : State, s = { State.reset with me := { remaps := [⟨3, 0, 1, 0xFF, true, []⟩] } } ∧ (s.me.remaps.find? fun r => r.m == 3 && r.base == 0 && r.copied) = some ⟨3, 0, 1, 0xFF, true, []⟩) ∧
    vget ({ State.reset with me := { slow := .replicate 11 true } } : State).me.slow 10 = true ∧ vget State.reset.me.slow 10 = false ∧
    (State.reset.dmaPut 0 0 0 2 0).nat Obj.RECORD_STATE ≠ 3 ∧ (State.reset.dmaPut 15 0 0 1 8).dmaState 15 = 1 ∧ State.reset.dmaState 15 ≠ 1 ∧
    State.reset.rc.event = none ∧ (storing 32 false).rc.event = some { total := 32 } ∧ (0 + 32 ≤ 32 ∧ 0 + 0 + 32 ≤ (storing 32 false).rc.total) ∧
    (storing 31 false).rc.total < 0 + 0 + 32 ∧ (storing 32 true).rc.trailer = true ∧ State.reset.rc.erasing = false ∧
    ({ State.reset with rc := { erasing := true, waiting := some {} } } : State).rc.erasing = true ∧ State.reset.eventSlot ≠ none ∧
    ((10 : Fin 11).val = 10 ∧ (8 : Fin 11).val = 8 ∧ (24#16).toNat ≤ 24 ∧ 24 < (25#16).toNat) ∧ State.reset.poisons (eccOf 0 1 0) = false ∧
    ({ State.reset with me := { poisoned := [(0, 0)] } } : State).poisons (eccOf 0 0 0) = true ∧
    ((eccOf 9 3 0).found = true ∧ (cfg [(Obj.INIT_STATUS, 255)]).mayRead (copierRead (eccOf 9 3 0)) = true ∧ (copierRead (eccOf 9 3 0)).corrected = false) := by
  refine ⟨by decide, by decide +kernel, by decide +kernel, by decide +kernel, rfl, ⟨_, rfl, by decide⟩, by decide, by decide, by decide +kernel, by decide +kernel, by decide +kernel, rfl, rfl, by decide, by decide, rfl, rfl, rfl, by decide +kernel, by decide, by decide +kernel, by decide +kernel, by decide +kernel, by decide +kernel, copier_uncorrected⟩

/-- A fault message, and an active row of it in a state. -/
def message (cls : Nat) : FaultMsg := ⟨5, 3, cls, 0, 1, 0, 0⟩
def rowed (st : Nat) : State := { State.reset with col := { rows := [⟨5, 3, 1, st, 1, 0, message 1⟩] } }
theorem witness_FaultsAndTemperatureAreHandled : State.reset.col.lines = [] ∧ ({ State.reset with col := { lines := [message 3] } } : State).col.lines = message 3 :: [] ∧
    State.reset.col.queue = [] ∧ (∃ s : State, s = { State.reset with col := { queue := [message 3], reacting := some (5, 3) } } ∧ s.col.queue = message 3 :: [] ∧ s.logBlocked = false ∧
      (message 3).cls = 3 ∧ s.col.reacting = some ((message 3).src, (message 3).kind)) ∧ ((message 0).cls = 0 ∧ (message 1).cls ≠ 0) ∧
    (({ message 2 with kind := Kind.ECC_UNCORR_DATA } : FaultMsg).cls = 2 ∧ (message 2).kind ≠ Kind.ECC_UNCORR_DATA ∧ (message 2).kind ≠ Kind.ECC_UNCORR_FETCH) ∧
    State.reset.row 5 3 = none ∧ (∀ st ∈ [1, 2, 3, 4, 5], ((rowed st).row 5 3).map (·.state) = some st) ∧ (message 1).seq = (1#8).toNat ∧ (message 1).seq ≠ (2#8).toNat ∧
    (rowed 1).causeStands 5 3 = false ∧ ((0x12#8).toNat ≠ Kind.THERMAL_LIMIT ∧ (BitVec.ofNat 8 Kind.THERMAL_LIMIT).toNat = Kind.THERMAL_LIMIT ∧
      State.reset.ld.leading = false ∧ ({ State.reset with ld := { leading := true } } : State).ld.leading = true ∧ (follow 0 false []).role = 1 ∧ State.reset.role ≠ 1) ∧
    ({ State.reset with th := { shut := true } } : State).th.shut = true ∧ State.reset.th.shut = false ∧ (160 ≤ (160#16).toInt ∧ (159#16).toInt < 160 ∧ (139#16).toInt < 140 ∧ (140 : Int) ≤ (140#16).toInt) := by
  refine ⟨rfl, rfl, rfl, ⟨_, rfl, rfl, by decide +kernel, rfl, rfl⟩, by decide, by decide, by decide +kernel, by decide +kernel, by decide, by decide, by decide +kernel, by decide +kernel, rfl, rfl, by decide⟩

/-- A message of the stream client under tag 1. -/
def pdu (word : Nat) (last : Bool) (key : Nat) (data : List Byte) : Pdu :=
  { via := .stream, writer := wr, tag := 1, flags := if last then 1 else 0, index := BitVec.ofNat 16 (key / 256), sub := BitVec.ofNat 8 (key % 256), word := BitVec.ofNat 32 word, data := data }
/-- An open transfer of 8 bytes of the stream client under tag 1. -/
def transferring (write closed : Bool) (data : List Byte) (sent : Nat) : State :=
  { srv 3 [] with se := { transfers := [{ client := .stream, tag := 1, write := write, key := Obj.CUE_DATA, data := data, total := 8, sent := sent, session := true, closed := closed }] } }
theorem witness_ReadsAreServed : State.reset.reaches (pdu 0 true 0 []) = false ∧ (srv 0 []).reaches (pdu 0 true 0 []) = true ∧
    ((transferring false false [] 0).reaches (pdu 0 true 0 []) = true ∧ ((transferring false false [] 0).transfer .stream 1).isSome = true) ∧ (srv 0 []).transfer .stream 1 = none ∧
    (∃ s : State, s = { srv 0 [] with se := { transfers := List.replicate 2 { client := .stream, tag := 2, write := true, key := 0, data := [], total := 0, sent := 0, session := false, closed := false } } } ∧
      s.transfer .stream 1 = none ∧ 2 ≤ (s.se.transfers.filter fun t => t.client == .stream).length) ∧
    (rowOf (pduKey (pdu 0 true 0 [])) = none ∧ indexExists (pduKey (pdu 0 true 0 []) / 256) = false) ∧
    (rowOf (pduKey (pdu 0 true (Obj.TICK_INDEX + 200) [])) = none ∧ indexExists (pduKey (pdu 0 true (Obj.TICK_INDEX + 200) []) / 256) = true) ∧
    ((rowOf (pduKey (pdu 0 true Obj.RESET_REQUEST []))).map (·.acc) = some .wo ∧ (rowOf (pduKey (pdu 0 true Obj.TICK_INDEX []))).map (·.acc) = some .ro) ∧
    (((srv 0 []).readBytes .stream Obj.TICK_INDEX).1.length ≤ segLimit .stream) ∧
    (∃ t, (transferring true false [] 0).transfer .stream 1 = some t ∧ t.write = true) ∧
    (∃ t, (transferring false false (zeros 8) 0).transfer .stream 1 = some t ∧ t.write = false ∧ t.total < (pdu 9 false 0 []).word.toNat ∧ (pdu 0 false 0 []).word.toNat = t.sent ∧
      (pdu 1 false 0 []).word.toNat ≠ t.sent ∧ t.total ≤ t.sent + segLimit .stream) ∧
    (srv 0 []).serves .stream = true ∧ State.reset.serves .stream = false := by
  refine ⟨by decide +kernel, by decide +kernel, by decide +kernel, by decide +kernel, ⟨_, rfl, by decide +kernel⟩, by decide +kernel, by decide +kernel, by decide +kernel, by decide +kernel,
    ⟨_, rfl, by decide +kernel⟩, ⟨_, rfl, by decide +kernel⟩, by decide +kernel, by decide +kernel⟩

theorem witness_WritesAreServed : State.reset.reaches (pdu 4 true Obj.CUE_ID (zeros 4)) = false ∧ (srv 0 []).reaches (pdu 4 true Obj.CUE_ID (zeros 4)) = true ∧
    (transferring true false [] 0).initJudge (pdu 4 true Obj.CUE_ID (zeros 4)) ≠ 0 ∧ (srv 0 []).initJudge (pdu 4 true Obj.CUE_ID (zeros 4)) = 0 ∧
    ((zeros 4).length ≤ segLimit .stream ∧ 0 + (zeros 4).length ≤ (pdu 4 true 0 (zeros 4)).word.toNat ∧
      (pduLast (pdu 4 true 0 (zeros 4)) = true ↔ 0 + (zeros 4).length = (pdu 4 true 0 (zeros 4)).word.toNat)) ∧
    ¬ (pduLast (pdu 4 false 0 (zeros 4)) = true ↔ 0 + (zeros 4).length = (pdu 4 false 0 (zeros 4)).word.toNat) ∧
    (pduLast (pdu 5 false 0 (zeros 4)) = true ↔ 0 + (zeros 4).length = (pdu 5 false 0 (zeros 4)).word.toNat) ∧
    ((srv 3 []).dictWrite wr Obj.CUE_ID (zeros 4)).2 ≠ ((srv 3 []).dictWrite wr Obj.TICK_INDEX (zeros 4)).2 ∧ (srv 0 []).transfer .stream 1 = none ∧
    (∃ t, (transferring false false [] 0).transfer .stream 1 = some t ∧ t.write = false) ∧
    (∃ t, (transferring true true [] 0).transfer .stream 1 = some t ∧ t.write = true ∧ t.closed = true ∧ t.session = true) ∧
    (∃ t, (transferring true false (zeros 4) 0).transfer .stream 1 = some t ∧ t.closed = false ∧ (pdu 4 true 0 (zeros 4)).word.toNat = t.data.length ∧
      (pdu 3 true 0 (zeros 4)).word.toNat ≠ t.data.length ∧ t.data.length + (zeros 4).length ≤ t.total ∧
      (pduLast (pdu 4 true 0 (zeros 4)) = true ↔ t.data.length + (zeros 4).length = t.total)) := by
  refine ⟨by decide +kernel, by decide +kernel, by decide +kernel, by decide +kernel, by decide +kernel, by decide +kernel, by decide +kernel, by decide +kernel, by decide +kernel,
    ⟨_, rfl, by decide +kernel⟩, ⟨_, rfl, by decide +kernel⟩, ⟨_, rfl, by decide +kernel⟩⟩

/-- A lane that serves the stream client, with this session state. -/
def sessions (x : Session) (rest : Nat := 0) : State := { srv 0 [(Obj.KEY_STATE, 3)] with se := x, pw := { rest := rest } }
theorem witness_SessionsOpenAndClose : State.reset.reaches (pdu 0 true 0 []) = false ∧ (sessions {}).reaches (pdu 0 true 0 []) = true ∧ 0 < (sessions { lockout := 1 }).se.lockout ∧
    (sessions {}).se.lockout = 0 ∧ (sessions { owner := some (.ralune 0 1) }).heldByOther .stream = true ∧ (sessions {}).heldByOther .stream = false ∧
    ((sessions {}).se.owner = none ∧ (sessions { owner := some .stream }).se.owner.isSome = true ∧ (sessions { owner := some .stream }).heldByOther .stream = false) ∧
    ((4#8).toNat = 4 ∧ (3#8).toNat ≤ 3 ∧ 1 ≤ (1#8).toNat) ∧ ((sessions {}).dropChallenge.bit Obj.KEY_STATE 0 = true ∧ (sessions {}).dropChallenge.bit Obj.KEY_STATE 2 = false) ∧
    (({ sessions {} with dict := (cfg [(Obj.KEY_STATE, 4)]).dict } : State).dropChallenge.bit Obj.KEY_STATE (3 - 1) = true ∧ (sessions {} 99999999).dropChallenge.pw.rest < 100000000 ∧
      100000000 ≤ (sessions {} 100000000).dropChallenge.pw.rest) ∧
    ((sessions {}).openJudge 1 = 0 ∧ (sessions {}).openJudge 3 ≠ 0) ∧ (sessions {}).se.challenge = none ∧ (sessions { challenge := some (.stream, 1, [], []) }).se.challenge = some (.stream, 1, [], []) ∧ Client.ralune 0 1 ≠ .stream := by decide +kernel

theorem shaRounds_length (k h w : List Word) (hh : h.length = 8) : (shaRounds k h w).length = 8 := by
  induction k generalizing h w with
  | nil => exact hh
  | cons k l ih => exact ih _ _ rfl
theorem sha256_length (m : List Byte) : (sha256 m).length = 32 := by
  have hf : ∀ (bs : List (List Byte)) (h : List Word), h.length = 8 → (bs.foldl shaBlock h).length = 8 := by
    intro bs
    induction bs with
    | nil => exact fun h hh => hh
    | cons b l ih => exact fun h hh => ih _ (by simp [shaBlock, hh, shaRounds_length])
  have h8 := hf (rowsOf 64 (shaPad m)) shaInit rfl
  have hb : ∀ l : List Word, (l.flatMap fun w => be 4 w.toNat).length = 4 * l.length := by
    intro l
    induction l with
    | nil => rfl
    | cons w l ih => simp only [List.flatMap_cons, List.length_append, ih, List.length_cons]; simp [be, le]; omega
  rw [sha256, hb, h8]
/-- An answer that opens a session and one that does not, whatever the serial number is. -/
theorem witness_SessionsOpenAndClose_answer (key m : List Byte) : (∃ mac : BitVec 256, hmac key m = le 32 mac.toNat) ∧ ∃ mac : BitVec 256, hmac key m ≠ le 32 mac.toNat := by
  have hb : ∀ (n : Nat) (l : List Byte), l.length = n → le n (leNat l) = l ∧ leNat l < 256 ^ n := by
    intro n
    induction n with
    | zero => intro l h; rw [List.length_eq_zero_iff.mp h]; exact ⟨rfl, by decide⟩
    | succ n ih =>
      intro l h
      obtain ⟨b, t, rfl⟩ := List.exists_cons_of_length_eq_add_one h
      have ⟨e, o⟩ := ih t (by simpa using h)
      have hlt := b.isLt
      refine ⟨?_, by rw [leNat, Nat.pow_succ]; omega⟩
      rw [le, leNat]
      congr 1
      · apply BitVec.eq_of_toNat_eq; simp; omega
      · rw [show (b.toNat + 256 * leNat t) / 256 = leNat t by omega]; exact e
  obtain ⟨e, o⟩ := hb 32 (hmac key m) (by rw [hmac]; exact sha256_length _)
  have hm : hmac key m = le 32 (BitVec.ofNat 256 (leNat (hmac key m))).toNat := by
    rw [BitVec.toNat_ofNat, Nat.mod_eq_of_lt (by simpa using o), e]
  by_cases h : hmac key m = le 32 (0 : BitVec 256).toNat
  · exact ⟨⟨_, h⟩, ⟨1, by rw [h]; decide⟩⟩
  · exact ⟨⟨_, hm⟩, ⟨0, h⟩⟩

theorem witness_StoresReadBackWhatIsWritten : Obj.CUE_ID ≠ Obj.CUE_DLC ∧ Sparse.wf defaultOf State.reset.dict = true ∧ Sparse.wf defaultOf (cfg [(Obj.CUE_DLC, 1)]).dict = true ∧
    Sparse.wf nodeReset State.reset.nodes = true := by decide +kernel

/-! ### Behaviour, against the worked examples of the sources named. -/

/-- 02, two strap fields: the trailer's brake lane and the truck's steering lane. -/
theorem test_straps : (cfg [(Obj.STRAP_WORD, 0x8006)]).nodeAddr = 10 ∧ (cfg [(Obj.STRAP_WORD, 0x8006)]).threeLane = true ∧
    (cfg [(Obj.STRAP_WORD, 0x8030A9)]).nodeAddr = 17 ∧ (cfg [(Obj.STRAP_WORD, 0x8030A9)]).laneNo = 1 ∧ (cfg [(Obj.STRAP_WORD, 0x8030A9)]).sealMode = true ∧
    (cfg [(Obj.STRAP_WORD, 0x8030A9)]).profileNo = 12 := by decide +kernel
/-- 01, one dithered beat: an even division of 1 ms into 16 ticks. -/
theorem test_tickBase : tickBase 1000 16 = 12500 ∧ tickLong 1000 16 = 0 := by decide
/-- 06, one steering phase: leg U of AX0. -/
theorem test_integration : resultOf { packets := 981, residue := 180, w := 2575, sat := false } 1856 0x8100 = (3221219, 0) := by decide +kernel
/-- 06: the scan row of AIN40. -/
theorem test_scanRow : scanCh 0xA0401140 = 40 ∧ scanRef 0xA0401140 = 0 ∧ scanRowOk 0xA0401140 = true := by decide
/-- 07, the left steering motor: three counts of noise after ten revolutions. -/
theorem test_slip : slipOf 8192 158723 76800 = 3 := by decide
/-- 08, the q-current loop: one execution of a PI cell, and of the LIMIT cell after it. -/
theorem test_pi : cellLaw { law := 3, inA := 0, inB := 1, inC := 2, inD := 2060, k0 := (1, 0), k1 := (49413, 16), k2 := (32942, 22), k3 := (1, 0) }
    7864320 7208960 1310720 0 600000 0 = { y := 2409997, s0 := 605147, s1 := 0 } := by decide +kernel
theorem test_piHeld : (cellLaw { law := 3, inA := 0, inB := 1, inC := 2, inD := 2060, k0 := (1, 0), k1 := (49413, 16), k2 := (32942, 22), k3 := (1, 0) }
    7864320 7208960 1310720 1 600000 0).s0 = 600000 := by decide +kernel
/-- 10, variable ratio: table 0 at its breakpoint, and both tables at 300 counts. -/
theorem test_gear : let rows := gearRows ([0, 0, 0, 0x80, 0xDD, 0x6D, 0, 0, 0xC0, 0, 0, 0, 0, 0xFC, 0xFF, 0xFF, 0xDD, 0x6D, 0, 0, 0, 1, 0, 0, 0, 4, 0, 0, 0xDD, 0x6D, 0, 0, 0xC0, 0, 0, 0].map (BitVec.ofNat 8))
    gearMap rows 1023 = 112390 ∧ gearMap rows 1024 = 112500 ∧ gearMap rows 1025 = 112646 ∧ gearMap rows 300 = 32958 ∧ gearMap [⟨-2 ^ 31, 28125, 384⟩] 300 = 21972 := by
  decide +kernel
/-- 05, raising the recovery limit: RECOVERY_LIMIT 3 in the serialisation. -/
theorem test_sealedBytes : sealedBytes Obj.RECOVERY_LIMIT (.num 3) = [0x30, 0x90, 3, 1, 0, 3] := by decide +kernel
/-- 15, the road-train bridge: the reference frame's budget, and the row of spare index 4. -/
theorem test_budget : frameBudget 500 5000 false 48 = 21440 ∧ frameBudget 500 5000 false 64 = 24300 := by decide
theorem test_schedRow : schedRow 0x1E630004000118A0 = { window := 3, type := 3, fd := false, rep := 3, base := 6, owner := 0, length := 64, start := 71840 } := by decide
/-- 16, a trailer's brake status: the two route rows. -/
theorem test_routes : routeRows (le 4 0x74180000 ++ le 4 0x71200000) = [⟨7, 16, 3, false⟩, ⟨7, 4, 4, false⟩] := by decide
/-- 19, two sensors lost in a steer: the upper words of the two messages. -/
theorem test_faultMessage : (FaultMsg.bits ⟨0x80, Kind.OBS_LOST, 2, 1, 9, 0, 0⟩).toNat / 2 ^ 32 = 0x200D6109 ∧
    (FaultMsg.bits ⟨0x70, Kind.SENT_TIMEOUT, 2, 1, 0x17, 0, 0⟩).toNat / 2 ^ 32 = 0x1C0D2117 := by decide
/-- Check values of the CRC-32C and of SHA-256 (FIPS 180-4). -/
theorem test_crc32c : crc32c ("123456789".toList.map fun c => BitVec.ofNat 8 c.toNat) = 0xE3069283 := by decide +kernel
theorem test_sha256 : (sha256 [0x61, 0x62, 0x63]).take 4 = [0xBA, 0x78, 0x16, 0xBF] := by decide +kernel
/-- R206: the code 0 is no sector. -/
theorem test_hall : ((sector 0).hallEdge 0 0 0).1.nat (Obj.HALL_SECTOR 0) = 7 := by decide +kernel
/-- One write through the queue: CUE_DLC reads back what the stream client wrote. -/
theorem test_step : ∃ t, step { srv 1 [] with pending := [.registerWrite wr (BitVec.ofNat 24 Obj.CUE_DLC) [4]] } = .next t ∧ t.n Obj.CUE_DLC = 4 ∧ t.pending = [] :=
  ⟨_, rfl, by decide +kernel, by decide +kernel⟩
/-- R22: a keeper fault makes the lane fail-silent. -/
theorem test_keeperFault : ∃ t, exec .keeperFault State.reset = .next t ∧ t.col.failSilent = true := ⟨_, rfl, by decide +kernel⟩

/-! ### WellFormed: a term for each check, which the check refuses. -/

def cal0 : CalResult := ⟨0, 0, 0, true⟩
def ecc (corrected : Bool) (lost : Option Nat) : EccError := { eccOf 10 0 (if corrected then 40 else 41) with lost := lost }
def frameOf (f : RxFrame) (n : Nat) : RxFrame := { f with payload := zeros n }
theorem smoke_times : Instr.wellFormed (.peerLeadInChange 0 true (2 ^ 64)) = false ∧ Instr.wellFormed (.peerLeadInChange 0 true (2 ^ 64 - 1)) = true ∧
    Instr.wellFormed (.brownOut (2 ^ 32)) = false ∧ Instr.wellFormed (.brownOut (2 ^ 32 - 1)) = true ∧ Instr.wellFormed (.tickEdge 0 0 64) = false ∧ Instr.wellFormed (.tickEdge 0 0 63) = true ∧
    Instr.wellFormed (.aonTimerWake { wake7 0 with tick := 2 ^ 32 }) = false ∧ Instr.wellFormed (.aonTimerWake { wake7 0 with now := 2 ^ 64 }) = false := by decide
theorem smoke_clients : Instr.wellFormed (.resetRequest ⟨.ralune 15 128, 0, 0, true⟩) = false ∧ Instr.wellFormed (.resetRequest ⟨.ralune 16 1, 0, 0, true⟩) = false ∧
    Instr.wellFormed (.resetRequest ⟨.stream, 2 ^ 64, 0, true⟩) = false ∧ Instr.wellFormed (.resetRequest ⟨.stream, 0, 2 ^ 32, true⟩) = false ∧ Instr.wellFormed (.resetRequest wr) = true ∧
    Instr.wellFormed (.readInit { pdu 0 true 0 [] with via := .fd 0 }) = false ∧ Instr.wellFormed (.readInit (pdu 0 true 0 [])) = true ∧
    Instr.wellFormed (.readInit { pdu 0 true 0 (zeros 51) with via := .fd 0, writer := ⟨.ralune 0 1, 0, 0, true⟩ }) = false := by decide +kernel
theorem smoke_measurement : Instr.wellFormed (.icIntegrationEnd 0 { unitCharge with packets := 2 }) = false ∧ Instr.wellFormed (.icIntegrationEnd 0 unitCharge) = true ∧
    Instr.wellFormed (.calibrationComplete (List.replicate 39 cal0)) = false ∧ Instr.wellFormed (.startSequence (cleanStart (List.replicate 39 cal0))) = false ∧
    Instr.wellFormed (.startSequence (cleanStart (List.replicate 38 cal0))) = true ∧ Instr.wellFormed (.beatBoundary (.replicate 16 { unitCharge with packets := -2 }) false) = false ∧
    Instr.wellFormed (.sentFrame 0 { sentOk 0 with nibbles := [12, 12] }) = false ∧ Instr.wellFormed (.sentFrame 0 (sentOk 0)) = true := by decide +kernel
theorem smoke_lanes : Instr.wellFormed (.cardIssueMessage 0 (card 1 0) 0) = true ∧ Instr.wellFormed (.cardRenewMessage 0 (card 1 0)) = false ∧
    Instr.wellFormed (.cardIssueMessage 0 (card 1 4) 0) = false ∧ Instr.wellFormed (.laneAnnouncement 0 peer2) = true ∧ Instr.wellFormed (.laneAnnouncement 0 { peer2 with lane := 3 }) = false ∧
    Instr.wellFormed (.shadowRecord ⟨0, 0, List.replicate 33 {}, []⟩) = false ∧ Instr.wellFormed (.shadowRecord ⟨0, 0, [{ cell := 256 }], []⟩) = false ∧
    Instr.wellFormed (.chapRequest ⟨0, true, 0, 0, false, some 65536, 0, 0, none, none, none, none⟩) = false ∧
    Instr.wellFormed (.eccError (eccOf 0 0 0)) = false := by decide +kernel
theorem smoke_frames : Instr.wellFormed (.raluneFrameReceived 0 (frameOf (rx 2 0 0 0) 3) 0) = false ∧ Instr.wellFormed (.raluneFrameReceived 0 (frameOf { rx 2 0 0 0 with fd := true } 65) 0) = false ∧
    Instr.wellFormed (.raluneFrameReceived 0 (frameOf { rx 2 0 0 0 with fd := true } 64) 0) = true ∧ Instr.wellFormed (.referenceFrame 0 (refOf 128 0 [])) = false ∧
    Instr.wellFormed (.referenceFrame 0 (refOf 9 0 [65536])) = false ∧ Instr.wellFormed (.referenceFrame 0 (refOf 9 0 (List.replicate 33 0))) = false ∧
    Instr.wellFormed (.cueFrame 0 { cue true false 0 with dlc := 1 } (wake7 0)) = false ∧ Instr.wellFormed (.cueFrame 0 (cue true false 2048) (wake7 0)) = false ∧
    Instr.wellFormed (.cueFrame 0 (cue true false 2047) (wake7 0)) = true ∧ Instr.wellFormed (.eccError (ecc true (some 1))) = false ∧ Instr.wellFormed (.eccError (ecc false (some 1))) = true := by
  decide +kernel
theorem smoke_images : Instr.wellFormed (.streamFrameReceived (imageFrame 65547) 0) = false := by decide +kernel

end Sys2Proof.Tests
end

section
/-!
PROOFS. Tick lengths and dither (R28, R252).
-/
namespace Sys2Proof.Laws
open Sys2Proof.Machine

/-! ### The base length and the long ticks (R28). -/

theorem tickBase_even (beat ticks : Nat) : tickBase beat ticks % 2 = 0 := by unfold tickBase; omega

/-- An even length fits the beat as often as there are ticks exactly if the base is not below it. -/
theorem le_tickBase_iff {beat ticks b : Nat} (ht : 0 < ticks) (hb : b % 2 = 0) :
    b ≤ tickBase beat ticks ↔ b * ticks ≤ beat * 200 := by
  rw [← Nat.le_div_iff_mul_le ht]
  unfold tickBase
  omega

theorem tickBase_fits (beat : Nat) {ticks : Nat} (ht : 0 < ticks) : tickBase beat ticks * ticks ≤ beat * 200 :=
  (le_tickBase_iff ht (tickBase_even beat ticks)).1 le_rfl

/-- The long ticks take up what the base lengths leave of the beat. -/
theorem two_tickLong (beat : Nat) {ticks : Nat} (ht : 0 < ticks) :
    ticks * tickBase beat ticks + 2 * tickLong beat ticks = beat * 200 := by
  have hfit := tickBase_fits beat ht
  have heven : ticks * tickBase beat ticks % 2 = 0 := by simp [Nat.mul_mod, tickBase_even]
  unfold tickLong
  rw [Nat.mul_comm] at hfit
  omega

/-- Not every tick is long: two clocks more in each would not fit. -/
theorem tickLong_lt (beat : Nat) {ticks : Nat} (ht : 0 < ticks) : tickLong beat ticks < ticks := by
  have hover : ¬ (tickBase beat ticks + 2) * ticks ≤ beat * 200 := by
    rw [← le_tickBase_iff ht (by have := tickBase_even beat ticks; omega)]
    omega
  have := two_tickLong beat ht
  linarith

/-! ### The dither offsets (R252). -/

theorem ditherSpan_even (base pct : Nat) : ditherSpan base pct % 2 = 0 := by unfold ditherSpan; omega

theorem ditherSpan_le (base pct : Nat) : 100 * ditherSpan base pct ≤ pct * base := by
  have := Nat.div_mul_le_self (base * pct) 100
  unfold ditherSpan
  rw [Nat.mul_comm pct base]
  omega

/-- An offset drawn by a word of the generator, among the even ones that the span and the ticks still to come allow. -/
def ditherPick (d r : Nat) (sum : Int) (x : Word) : Int :=
  let lo := max (-(d : Int)) (-sum - r * d)
  let hi := min (d : Int) (-sum + r * d)
  lo + 2 * ((x.toNat : Int) % ((hi - lo) / 2 + 1))

theorem ditherOffsets_succ (d r : Nat) (sum : Int) (x : Word) :
    ditherOffsets d (r + 1) sum x =
      ditherPick d r sum (xorshift x) :: ditherOffsets d r (sum + ditherPick d r sum (xorshift x)) (xorshift x) := rfl

/-- While the offsets given out can still be made good, a drawn one is even, lies in the span and leaves a sum that can be made good
by the ticks that follow. -/
theorem ditherPick_bounds {d r : Nat} {sum : Int} (x : Word) (hd : d % 2 = 0) (hs : sum % 2 = 0) (hsum : |sum| ≤ (r + 1) * d) :
    ditherPick d r sum x % 2 = 0 ∧ |ditherPick d r sum x| ≤ d ∧ |sum + ditherPick d r sum x| ≤ r * d := by
  have heven : (r * d : Int) % 2 = 0 := by rw [Int.mul_emod, show (d : Int) % 2 = 0 by omega, mul_zero, Int.zero_emod]
  have hnonneg : (0 : Int) ≤ r * d := by positivity
  unfold ditherPick
  rw [add_mul, one_mul] at hsum
  generalize (r * d : Int) = rest at *
  simp only [abs_le] at *
  generalize hlo : max (-(d : Int)) (-sum - rest) = lo
  generalize hhi : min (d : Int) (-sum + rest) = hi
  have hw : 0 ≤ (hi - lo) / 2 := by omega
  have h0 := Int.emod_nonneg (x.toNat : Int) (show (hi - lo) / 2 + 1 ≠ 0 by omega)
  have h1 := Int.emod_lt_of_pos (x.toNat : Int) (show 0 < (hi - lo) / 2 + 1 by omega)
  generalize (x.toNat : Int) % ((hi - lo) / 2 + 1) = pick at *
  omega

@[simp] theorem length_ditherOffsets (d r : Nat) (sum : Int) (x : Word) : (ditherOffsets d r sum x).length = r := by
  induction r generalizing sum x with
  | zero => rfl
  | succ r ih => simp [ditherOffsets_succ, ih]

/-- Every offset is even and within the span, and together they make good what had been given out. -/
theorem ditherOffsets_spec {d : Nat} (hd : d % 2 = 0) (r : Nat) (sum : Int) (x : Word) (hs : sum % 2 = 0) (hsum : |sum| ≤ r * d) :
    (∀ o ∈ ditherOffsets d r sum x, o % 2 = 0 ∧ |o| ≤ d) ∧ (ditherOffsets d r sum x).sum = -sum := by
  induction r generalizing sum x with
  | zero =>
    have : sum = 0 := by simpa using hsum
    simp [ditherOffsets, this]
  | succ r ih =>
    obtain ⟨heven, hspan, hrest⟩ := ditherPick_bounds (xorshift x) hd hs (by exact_mod_cast hsum)
    obtain ⟨hall, htotal⟩ := ih (sum + ditherPick d r sum (xorshift x)) (xorshift x) (by omega) hrest
    rw [ditherOffsets_succ]
    refine ⟨fun o ho => ?_, ?_⟩
    · rcases List.mem_cons.1 ho with rfl | ho
      · exact ⟨heven, hspan⟩
      · exact hall o ho
    · rw [List.sum_cons, htotal]
      omega

/-! ### The lengths of a beat. -/

/-- The offsets of a beat's ticks: dithered, or none. -/
def beatOffsets (beat ticks pct seed ordinal : Nat) (dither : Bool) : List Int :=
  if dither then ditherOffsets (ditherSpan (tickBase beat ticks) pct) ticks 0 (ditherSeed seed ordinal) else List.replicate ticks 0

/-- A tick's length: the base, two clocks for a long tick, and its offset. -/
def tickLength (base long : Nat) (o : Int) (i : Nat) : Nat := (((base + (if i < long then 2 else 0) : Nat) : Int) + o).toNat

theorem beatLengths_eq (beat ticks pct seed ordinal : Nat) (dither : Bool) :
    beatLengths beat ticks pct seed ordinal dither =
      (beatOffsets beat ticks pct seed ordinal dither).zipIdx.map fun e => tickLength (tickBase beat ticks) (tickLong beat ticks) e.1 e.2 :=
  rfl

/-- The lengths of ticks that follow `k` others sum to their bases, the long ticks among them and their offsets. -/
theorem sum_tickLengths (base long : Nat) (l : List Int) (k : Nat) (h : ∀ o ∈ l, |o| ≤ base) :
    ((((l.zipIdx k).map fun e => tickLength base long e.1 e.2).sum : Nat) : Int) =
      l.length * base + 2 * min l.length (long - k) + l.sum := by
  induction l generalizing k with
  | nil => simp
  | cons o l ih =>
    have ho := abs_le.1 (h o (List.mem_cons_self ..))
    rw [List.zipIdx_cons, List.map_cons, List.sum_cons, Nat.cast_add, ih (k + 1) fun o h' => h o (List.mem_cons_of_mem _ h')]
    simp only [tickLength, List.length_cons, List.sum_cons, Nat.cast_add, Nat.cast_one, add_mul, one_mul]
    generalize (l.length * base : Int) = bases
    split <;> omega

@[simp] theorem length_beatOffsets (beat ticks pct seed ordinal : Nat) (dither : Bool) :
    (beatOffsets beat ticks pct seed ordinal dither).length = ticks := by
  cases dither <;> simp [beatOffsets]

/-- The offsets of a beat: even, within the span, and summing to zero. -/
theorem beatOffsets_spec (beat ticks pct seed ordinal : Nat) (dither : Bool) :
    (∀ o ∈ beatOffsets beat ticks pct seed ordinal dither, o % 2 = 0 ∧ |o| ≤ ditherSpan (tickBase beat ticks) pct) ∧
      (beatOffsets beat ticks pct seed ordinal dither).sum = 0 := by
  cases dither with
  | false =>
    refine ⟨fun o ho => ?_, by simp [beatOffsets]⟩
    obtain rfl : o = 0 := List.eq_of_mem_replicate ho
    simp
  | true =>
    have h := ditherOffsets_spec (ditherSpan_even (tickBase beat ticks) pct) ticks 0 (ditherSeed seed ordinal) (by simp)
      (by rw [abs_zero]; positivity)
    rwa [neg_zero] at h

/-- R252: dither is at most 6 % of the base, so that no length falls below zero. -/
theorem beatOffsets_le_base {beat ticks pct seed ordinal : Nat} {dither : Bool} (hp : pct ≤ 6) {o : Int}
    (ho : o ∈ beatOffsets beat ticks pct seed ordinal dither) : |o| ≤ tickBase beat ticks := by
  have hspan := ((beatOffsets_spec ..).1 o ho).2
  have hle := ditherSpan_le (tickBase beat ticks) pct
  have hpct : pct * tickBase beat ticks ≤ 6 * tickBase beat ticks := Nat.mul_le_mul_right _ hp
  omega

theorem length_beatLengths (beat ticks pct seed ordinal : Nat) (dither : Bool) :
    (beatLengths beat ticks pct seed ordinal dither).length = ticks := by
  simp [beatLengths_eq]

theorem sum_beatLengths {beat ticks pct seed ordinal : Nat} {dither : Bool} (ht : 0 < ticks) (hp : pct ≤ 6) :
    (beatLengths beat ticks pct seed ordinal dither).sum = beat * 200 := by
  have h := sum_tickLengths (tickBase beat ticks) (tickLong beat ticks) (beatOffsets beat ticks pct seed ordinal dither) 0
    fun o ho => beatOffsets_le_base hp ho
  rw [(beatOffsets_spec beat ticks pct seed ordinal dither).2, length_beatOffsets] at h
  rw [Nat.sub_zero, min_eq_right (tickLong_lt beat ht).le, add_zero] at h
  rw [beatLengths_eq, ← two_tickLong beat ht]
  exact_mod_cast h

/-- Tick `i` of a beat has its base length, two clocks more if it is long, and the offset drawn for it. -/
theorem getD_beatLengths {beat ticks pct seed ordinal : Nat} {dither : Bool} (hp : pct ≤ 6) {i : Nat} (hi : i < ticks) :
    ∃ o ∈ beatOffsets beat ticks pct seed ordinal dither, ((beatLengths beat ticks pct seed ordinal dither).getD i 0 : Int) =
      tickBase beat ticks + (if i < tickLong beat ticks then 2 else 0) + o := by
  have hlen : i < (beatOffsets beat ticks pct seed ordinal dither).length := by simpa using hi
  have hmem := List.getElem_mem hlen
  refine ⟨_, hmem, ?_⟩
  have hle := abs_le.1 (beatOffsets_le_base hp hmem)
  rw [beatLengths_eq, List.getD_eq_getElem _ _ (by simpa using hi), List.getElem_map, List.getElem_zipIdx, tickLength]
  simp only [Nat.zero_add]
  split <;> omega

/-- Settles O7: the base is the largest even length that fits, the long ticks take up what it leaves, and the offsets of a dithered beat
are bounded draws that make good their sum. -/
theorem tickLengthsFillTheBeat : Obligations.TickLengthsFillTheBeat := by
  intro beat ticks pct seed ordinal ht hp
  refine ⟨⟨tickBase_even beat ticks, tickBase_fits beat ht, fun b hb => (le_tickBase_iff ht hb).2⟩, rfl,
    fun d => ⟨length_beatLengths .., sum_beatLengths ht hp⟩, fun i hi => ?_, fun i hi => ?_⟩
  · obtain ⟨o, ho, hlen⟩ := getD_beatLengths (beat := beat) (seed := seed) (ordinal := ordinal) (dither := false) hp hi
    obtain rfl : o = 0 := List.eq_of_mem_replicate ho
    rw [add_zero] at hlen
    exact_mod_cast hlen
  · obtain ⟨o, ho, hlen⟩ := getD_beatLengths (beat := beat) (seed := seed) (ordinal := ordinal) (dither := true) hp hi
    obtain ⟨heven, hspan⟩ := (beatOffsets_spec ..).1 o ho
    have hle := ditherSpan_le (tickBase beat ticks) pct
    refine ⟨o, heven, ?_, hlen⟩
    calc 100 * |o| ≤ 100 * ditherSpan (tickBase beat ticks) pct := by omega
      _ ≤ pct * tickBase beat ticks := by exact_mod_cast hle

end Sys2Proof.Laws
end

section
/-!
PROOFS. What repeated and conditional operations keep, and what the work of a tick leaves of the lane's time (R27, R31, R32).
-/
namespace Sys2Proof.Laws
open Sys2Proof.Machine

/-! ### Repeated and conditional operations. -/

/-- What one pass keeps, a fold over a list keeps. -/
theorem foldl_keeps {α β : Type} {g : State → α} {f : State → β → State} (h : ∀ s x, g (f s x) = g s) (l : List β) (s : State) :
    g (l.foldl f s) = g s := by
  induction l generalizing s with
  | nil => rfl
  | cons x l ih => rw [List.foldl_cons, ih, h]

theorem each_keeps {α : Type} {g : State → α} {f : State → Nat → State} (h : ∀ s i, g (f s i) = g s) (n : Nat) (s : State) :
    g (s.each n f) = g s := foldl_keeps h _ s

theorem when_keeps {α : Type} {g : State → α} {s : State} {f : State → State} (h : g (f s) = g s) (c : Bool) :
    g (s.when c f) = g s := by
  cases c
  · rfl
  · exact h

@[simp] theorem when_true (s : State) (f : State → State) : s.when true f = f s := rfl
@[simp] theorem when_false (s : State) (f : State → State) : s.when false f = s := rfl

/-! ### Operations beside time, chaperone, leadership and power. -/

/-- From `s` to `t` time, chaperone, leadership and power states stand as they were. -/
structure Aside (s t : State) : Prop where
  clk : t.clk = s.clk
  ch : t.ch = s.ch
  ld : t.ld = s.ld
  pw : t.pw = s.pw

theorem Aside.refl (s : State) : Aside s s := ⟨rfl, rfl, rfl, rfl⟩
theorem Aside.trans {s t u : State} (h : Aside s t) (h' : Aside t u) : Aside s u :=
  ⟨h'.clk.trans h.clk, h'.ch.trans h.ch, h'.ld.trans h.ld, h'.pw.trans h.pw⟩

theorem Told.aside {s t : State} (h : Told s t) : Aside s t :=
  ⟨h.off.clk, h.off.ch, h.off.ld, (congrArg State.pw h.same :)⟩

theorem raiseAs_aside (s : State) (cls src kind qual : Nat) (d : Option Int) : Aside s (s.raiseAs cls src kind qual d) :=
  (raiseAs_told ..).aside
theorem raise_aside (s : State) (src kind qual : Nat) (d : Option Int) : Aside s (s.raise src kind qual d) := raiseAs_aside ..

theorem foldl_aside {β : Type} {f : State → β → State} (h : ∀ s x, Aside s (f s x)) (l : List β) (s : State) :
    Aside s (l.foldl f s) :=
  ⟨foldl_keeps (fun s x => (h s x).clk) l s, foldl_keeps (fun s x => (h s x).ch) l s, foldl_keeps (fun s x => (h s x).ld) l s,
    foldl_keeps (fun s x => (h s x).pw) l s⟩

theorem each_aside {f : State → Nat → State} (h : ∀ s i, Aside s (f s i)) (n : Nat) (s : State) : Aside s (s.each n f) := foldl_aside h _ s

theorem when_aside {s : State} {f : State → State} (h : Aside s (f s)) (c : Bool) : Aside s (s.when c f) := by
  cases c
  · exact Aside.refl s
  · exact h

theorem traceSettle_aside (s : State) : Aside s s.traceSettle := by
  unfold State.traceSettle
  refine when_aside ?_ _
  exact ⟨rfl, rfl, rfl, rfl⟩

theorem traceTrigger_aside (s : State) (cause time : Nat) : Aside s (s.traceTrigger cause time) := by
  unfold State.traceTrigger
  dsimp only
  split
  · refine (Aside.trans ?_ (each_aside ?_ _ _)).trans (traceSettle_aside _)
    · exact ⟨rfl, rfl, rfl, rfl⟩
    · exact fun _ _ => ⟨rfl, rfl, rfl, rfl⟩
  · exact Aside.refl s

theorem traceMeet_aside (s : State) (mask time : Nat) : Aside s (s.traceMeet mask time) := by
  unfold State.traceMeet
  split
  · exact Aside.refl s
  · refine Aside.trans ?_ (traceTrigger_aside _ _ _)
    exact ⟨rfl, rfl, rfl, rfl⟩

/-! ### The trace and the loop engine. -/

@[simp] theorem raise_clk (s : State) (src kind qual : Nat) (d : Option Int) : (s.raise src kind qual d).clk = s.clk :=
  (raise_aside ..).clk
@[simp] theorem raiseAs_clk (s : State) (cls src kind qual : Nat) (d : Option Int) : (s.raiseAs cls src kind qual d).clk = s.clk :=
  (raiseAs_aside ..).clk
@[simp] theorem traceSettle_clk (s : State) : s.traceSettle.clk = s.clk := (traceSettle_aside s).clk
@[simp] theorem traceCompare_clk (s : State) : s.traceCompare.clk = s.clk := (traceMeet_aside ..).clk

@[simp] theorem fifoPut_clk (s : State) (c : Nat) (v : Word) (dest : Nat) : (s.fifoPut c v dest).clk = s.clk := by
  unfold State.fifoPut
  split_ifs <;> rfl

@[simp] theorem traceSample_clk (s : State) (count c : Nat) : (s.traceSample count c).clk = s.clk := by
  unfold State.traceSample
  dsimp only
  split
  · rfl
  · split
    · rfl
    · exact fifoPut_clk ..

@[simp] theorem overrunJudge_clk (s : State) : s.overrunJudge.clk = s.clk := by
  have marked (l : List Nat) (u : State) :
      (l.foldl (fun (s : State) n => { s with lp.cells := vmod s.lp.cells n fun c => { c with overrun := true } }) u).clk = u.clk :=
    foldl_keeps (g := State.clk) (by intros; rfl) l u
  unfold State.overrunJudge
  split
  · rfl
  · dsimp only
    split
    · exact (raiseAs_clk ..).trans (marked _ _)
    · exact (raise_clk ..).trans (marked _ _)

@[simp] theorem axesPost_clk (s : State) : s.axesPost.clk = s.clk :=
  each_keeps (g := State.clk) (fun _ _ => when_keeps (g := State.clk) rfl _) _ _

/-- R225: the close of a cell window leaves of time only that the window is closed. -/
theorem windowClose_clk (s : State) : s.windowClose.clk = { s.clk with windowOpen := false } := by
  unfold State.windowClose
  dsimp only
  split
  · rw [axesPost_clk, traceCompare_clk, traceSettle_clk, each_keeps (g := State.clk) (fun _ _ => traceSample_clk ..), overrunJudge_clk]
  · rw [axesPost_clk, traceCompare_clk, overrunJudge_clk]

/-! ### The motion generators (R282). -/

@[simp] theorem stepMod_clk (s : State) (k : Nat) (f : Stepper → Stepper) : (s.stepMod k f).clk = s.clk := rfl
@[simp] theorem mxStop_clk (s : State) (m : Nat) : (s.mxStop m).clk = s.clk := rfl
@[simp] theorem genMod_clk (s : State) (m : Nat) (f : Gen → Gen) : (s.genMod m f).clk = s.clk := rfl
@[simp] theorem vsPosition_clk (s : State) (k m : Nat) : (s.vsPosition k m).clk = s.clk := rfl
@[simp] theorem vsRefresh_clk (s : State) (k : Nat) : (s.vsRefresh k).clk = s.clk := rfl

@[simp] theorem vsStall_clk (s : State) (k m : Nat) : (s.vsStall k m).clk = s.clk := by
  unfold State.vsStall
  extract_lets x f cleared kv noted weak weakened stalled
  have kept : noted.clk = s.clk := rfl
  split
  · rfl
  · split
    · exact kept
    · split
      · split
        · rw [mxStop_clk, raise_clk]; exact kept
        · rw [raise_clk]; exact kept
      · exact kept

@[simp] theorem vsMoved_clk (s : State) (m : Nat) (before : Int) : (s.vsMoved m before).clk = s.clk := by
  have follow (k : Nat) : ((if s.n (Obj.MX_POSITION m) = before then s else s.vsPosition k m).vsRefresh k).clk = s.clk := by
    rw [vsRefresh_clk]
    split <;> rfl
  unfold State.vsMoved
  dsimp only
  split
  · split
    · exact follow _
    · rw [vsStall_clk, stepMod_clk, follow]
  · rfl

@[simp] theorem stepOut_clk (s : State) (m : Nat) (forward : Bool) : (s.stepOut m forward).clk = s.clk := by
  unfold State.stepOut
  split
  · rfl
  · split_ifs <;> rfl

@[simp] theorem genComplete_clk (s : State) (m : Nat) : (s.genComplete m).clk = s.clk := rfl

@[simp] theorem genStep_clk (s : State) (m : Nat) (forward : Bool) : (s.genStep m forward).clk = s.clk := by
  unfold State.genStep
  dsimp only
  rw [when_keeps (f := (·.genComplete m)) (genComplete_clk ..), vsMoved_clk, stepOut_clk, putN_clk]

theorem genNext_clk {s t : State} {m : Nat} (h : s.genNext m = some t) : t.clk = s.clk := by
  unfold State.genNext at h
  dsimp only at h
  split at h
  · cases h
  · obtain rfl := Option.some.inj h
    exact genStep_clk ..

@[simp] theorem genDrain_clk (s : State) (m fuel : Nat) : (s.genDrain m fuel).clk = s.clk := by
  induction fuel generalizing s with
  | zero => rfl
  | succ fuel ih =>
    unfold State.genDrain
    split
    · next t h => exact (ih t).trans (genNext_clk h)
    · rfl

@[simp] theorem motionDrain_clk (s : State) : s.motionDrain.clk = s.clk := each_keeps (g := State.clk) (fun _ _ => genDrain_clk ..) _ _

/-! ### The end of a tick and the opening of the next. -/

@[simp] theorem elapse_clk (s : State) (counts : Nat) : (s.elapse counts).clk = s.clk := when_keeps (g := State.clk) rfl _

/-- R31: a tick that ends leaves its length to be described. -/
theorem tickEnd_ended (s : State) : s.tickEnd.clk.ended = s.clk.tickLen := by
  unfold State.tickEnd
  simp only [elapse_clk, State.restAfter, motionDrain_clk]
  cases h : s.clk.windowOpen <;> simp [windowClose_clk]

theorem tickOpen_get (s : State) {k : Nat} (h : k ≠ Obj.TICK_INDEX) : s.tickOpen.get k = s.get k := get_putN_ne s _ h

theorem tickOpen_index (s : State) : s.tickOpen.nat Obj.TICK_INDEX = if s.clk.opened then 0 else s.nat Obj.TICK_INDEX + 1 := by
  unfold State.tickOpen
  exact (nat_putN_self s ..).trans (Int.toNat_natCast _)

/-! ### Node writes that wait (R26). -/

@[simp] theorem nodesTake_dict (s : State) : s.nodesTake.dict = s.dict := foldl_keeps (g := State.dict) (by intros; rfl) _ _
@[simp] theorem nodesTake_nodeWrites (s : State) : s.nodesTake.nodeWrites = [] := foldl_keeps (g := State.nodeWrites) (by intros; rfl) _ _

/-- Writes carried out in order: the last one of a node stands. -/
theorem nodeW_writes (l : List (Nat × Word)) (s : State) (k : Nat) :
    (l.foldl (fun (s : State) e => s.setNodeW e.1 e.2) s).nodeW k = ((l.reverse.find? fun e => e.1 == k).map Prod.snd).getD (s.nodeW k) := by
  induction l generalizing s with
  | nil => rfl
  | cons e l ih =>
    rw [List.foldl_cons, ih, List.reverse_cons, List.find?_append, nodeW_setNodeW]
    cases l.reverse.find? fun e => e.1 == k with
    | some w => rfl
    | none =>
      by_cases h : k = e.1
      · simp [h]
      · simp [h, Ne.symm h]

/-- R31: nodes 0 to 2 after a tick has been described. -/
theorem nodeW_tickNodes (s : State) (k : Nat) : s.tickNodes.nodeW k =
    if k = 2 then BitVec.ofNat 32 s.clk.tickBeat else if k = 1 then BitVec.ofInt 32 (s.n Obj.TICK_INDEX)
    else if k = 0 then BitVec.ofNat 32 s.clk.ended else s.nodeW k := by
  simp only [State.tickNodes, State.setNode, nodeW_setNodeW, BitVec.ofInt_natCast]

/-- Settles O22: by what opening a tick puts into its record of time, by the fold of the writes that wait, and by the three nodes written. -/
theorem openingATickMovesTimeAndNodes : Obligations.OpeningATickMovesTimeAndNodes := by
  intro s
  refine ⟨fun h => ?_, fun h => ?_, fun k => tickOpen_get s, rfl, rfl, rfl, rfl, rfl, rfl, rfl, rfl, ?_, nodesTake_nodeWrites s,
    nodesTake_dict s, fun k => ?_, nodeW_tickNodes s 0, tickEnd_ended s, nodeW_tickNodes s 1, nodeW_tickNodes s 2, fun k hk => ?_, rfl⟩
  · simp [tickOpen_index, h]
  · simp [tickOpen_index, h]
  · rw [tickOpen_index]; rfl
  · refine (nodeW_writes s.nodeWrites _ k).trans ?_
    cases s.nodeWrites.reverse.find? fun e => e.1 == k <;> rfl
  · rw [nodeW_tickNodes, if_neg (by omega), if_neg (by omega), if_neg (by omega)]

end Sys2Proof.Laws
end

section
/-!
PROOFS. Tick edges, cell windows and beat boundaries (R27, R225, R227).
-/
namespace Sys2Proof.Laws
open Sys2Proof.Machine

/-- R225: with the trace initialised, every channel samples before the axes' stages. -/
theorem windowClose_traced {s o : State} (ho : o = { s.overrunJudge with clk.windowOpen := false })
    (h : o.bit Obj.INIT_STATUS 7 = true) :
    s.windowClose = (o.each 32 fun x i => x.traceSample o.loopCount i).traceSettle.traceCompare.axesPost := by
  subst ho
  simp only [State.windowClose, h, if_true]

theorem windowClose_untraced {s o : State} (ho : o = { s.overrunJudge with clk.windowOpen := false })
    (h : o.bit Obj.INIT_STATUS 7 = false) : s.windowClose = o.traceCompare.axesPost := by
  subst ho
  simp only [State.windowClose, h, Bool.false_eq_true, if_false]

theorem runCellWindowClose_open {s : State} (h : s.clk.windowOpen = true) : runCellWindowClose s = .next s.windowClose := by
  rw [runCellWindowClose, h, when_true]

/-- Settles O21: each command's run, under the condition that lets it do something and under its negation. -/
theorem ticksAndBeatsRunTheirStages : Obligations.TicksAndBeatsRunTheirStages := by
  intro s
  refine ⟨fun cycles stalls failed hrun hdue => ?_, fun cycles stalls failed hnot => ?_, fun hopen => ⟨fun htrace => ?_, fun htrace => ?_⟩,
    fun hshut => ?_, fun sc late hrun hopened hlast => ?_, fun sc late hnot => ?_⟩
  · exact .of_run (exec_tickEdge ..) (if_pos ⟨hrun, by simpa using hdue⟩)
  · refine .of_run (exec_tickEdge ..) (if_neg ?_)
    rintro ⟨hrun, hdue⟩
    rcases hnot with h | ⟨hopened, hlast⟩
    · simp [h] at hrun
    · simp [hopened, hlast] at hdue
  · exact .of_run (exec_cellWindowClose s) (by rw [runCellWindowClose_open hopen, windowClose_traced rfl htrace])
  · exact .of_run (exec_cellWindowClose s) (by rw [runCellWindowClose_open hopen, windowClose_untraced rfl htrace])
  · exact .of_run (exec_cellWindowClose s) (by rw [runCellWindowClose, hshut, when_false])
  · exact .of_run (exec_beatBoundary ..) (if_pos ⟨hrun, by simp [hopened], hlast⟩)
  · refine .of_run (exec_beatBoundary ..) (if_neg ?_)
    rintro ⟨hrun, hopened, hlast⟩
    rcases hnot with h | h | h
    · simp [h] at hrun
    · simp [h] at hopened
    · simp [h] at hlast

end Sys2Proof.Laws
end

section
/-!
PROOFS. What giving up lead, disarming, logging and a restart of the application partition do to leadership, chaperone and time
(R22–R24, R356, R357).
-/
namespace Sys2Proof.Laws
open Sys2Proof.Machine

/-! ### The log, the fabric and the entries. -/

theorem logAdd_aside (s : State) (type : Nat) (escalated : Bool) (m : FaultMsg) (ecc : List Byte) :
    Aside s (s.logAdd type escalated m ecc) := by
  have room : Aside s s.logRoom := by
    unfold State.logRoom
    split
    · exact Aside.refl s
    · split <;> exact ⟨rfl, rfl, rfl, rfl⟩
  exact ⟨room.clk, room.ch, room.ld, room.pw⟩

theorem azStop_aside (s : State) : Aside s s.azStop := by
  have h : Aside s (s.azProducers.foldl (fun s c => s.azMod c fun x => { x with due := 0, msg := none }) s) :=
    foldl_aside (by exact fun _ _ => ⟨rfl, rfl, rfl, rfl⟩) _ s
  exact ⟨h.clk, h.ch, h.ld, h.pw⟩

@[simp] theorem azStop_se (s : State) : s.azStop.se = s.se := foldl_keeps (g := State.se) (by intros; rfl) _ _
@[simp] theorem azStop_bl (s : State) : s.azStop.bl = s.bl := foldl_keeps (g := State.bl) (by intros; rfl) _ _
@[simp] theorem azStop_queue (s : State) : s.azStop.az.queue = [] := rfl
@[simp] theorem azStop_records (s : State) : s.azStop.az.records = [] := rfl

theorem waltzDomains_aside (s : State) : Aside s s.waltzDomains := by
  unfold State.waltzDomains
  split <;> exact ⟨rfl, rfl, rfl, rfl⟩

@[simp] theorem waltzDomains_se (s : State) : s.waltzDomains.se = s.se := by
  unfold State.waltzDomains
  split <;> rfl

theorem dropEntries_aside (s : State) (kind : Nat) : Aside s (s.dropEntries kind) := by
  have dropped := waltzDomains_aside
    { s with dict := s.dict.filter fun e => keeps kind e.1 || (List.range 6).any fun n => s.ascHeld kind n && e.1 == Obj.AX_STATE n }
  exact ⟨dropped.clk, dropped.ch, dropped.ld, dropped.pw⟩

@[simp] theorem dropEntries_se (s : State) (kind : Nat) : (s.dropEntries kind).se = s.se := waltzDomains_se _

/-- R505, R479: what an application restart stops lies beside time, chaperone and leadership. -/
theorem appStop_aside (s : State) : Aside s s.appStop := by
  have entries := dropEntries_aside s.sessionEnd.recStop 5
  unfold State.appStop
  refine Aside.trans ?_ (azStop_aside _)
  exact ⟨entries.clk, entries.ch, entries.ld, entries.pw⟩

@[simp] theorem appStop_owner (s : State) : s.appStop.se.owner = none := by
  unfold State.appStop
  simp only [azStop_se, dropEntries_se]
  rfl
@[simp] theorem appStop_transfers (s : State) : s.appStop.se.transfers = [] := by rw [State.appStop, azStop_se]
@[simp] theorem appStop_challenge (s : State) : s.appStop.se.challenge = none := by rw [State.appStop, azStop_se]
@[simp] theorem appStop_bl (s : State) : s.appStop.bl = {} := by rw [State.appStop, azStop_bl]

/-! ### LEAD_OUT and the arm signals. -/

theorem leadDown_ch (s : State) : s.leadDown.ch = { s.ch with leadOut := false } := by
  unfold State.leadDown
  split
  · exact (traceMeet_aside ..).ch
  · next h => rw [← Bool.eq_false_iff.2 h]
@[simp] theorem leadDown_clk (s : State) : s.leadDown.clk = s.clk := by
  unfold State.leadDown
  split
  · exact (traceMeet_aside ..).clk
  · rfl
@[simp] theorem leadDown_pw (s : State) : s.leadDown.pw = s.pw := by
  unfold State.leadDown
  split
  · exact (traceMeet_aside ..).pw
  · rfl
@[simp] theorem leadDown_ld (s : State) : s.leadDown.ld = s.ld := by
  unfold State.leadDown
  split
  · exact (traceMeet_aside ..).ld
  · rfl

/-- R379: the loss of every arm signal. -/
theorem armDropAll_disarmed (s : State) : Disarmed s s.armDropAll := by
  have h (l : List Nat) : ∀ u : State, Disarmed u (l.foldl (fun s b => s.armDrop b) u) := by
    induction l with
    | nil => exact Disarmed.refl
    | cons b l ih => exact fun u => (armDrop_disarmed u b).trans (ih _)
  exact h (List.range 26) s

/-! What the loss of an arm signal leaves of the power states. -/

theorem axMod_pw (s : State) (n : Nat) (f : Axis → Axis) : (s.axMod n f).pw = s.pw := rfl
theorem setAxState_pw (s : State) (n code : Nat) : (s.setAxState n code).pw = s.pw := rfl
theorem axOffNow_pw (s : State) (n : Nat) (soft : Bool) : (s.axOffNow n soft).pw = s.pw := setAxState_pw s n 0
theorem stepMod_pw (s : State) (k : Nat) (f : Stepper → Stepper) : (s.stepMod k f).pw = s.pw := rfl
theorem vsOff_pw (s : State) (k : Nat) : (s.vsOff k).pw = s.pw := rfl
theorem solMod_pw (s : State) (m : Nat) (f : Solenoid → Solenoid) : (s.solMod m f).pw = s.pw := rfl
theorem solOff_pw (s : State) (m : Nat) : (s.solOff m).pw = s.pw := rfl
theorem solCentre_pw (s : State) (m : Nat) : (s.solCentre m).pw = s.pw := rfl

theorem axLeave_pw (s : State) (n q : Nat) : (s.axLeave n q).pw = s.pw := by
  unfold State.axLeave
  dsimp only
  split
  · rw [(raise_aside ..).pw, axMod_pw, setAxState_pw, axOffNow_pw]
  · rw [axOffNow_pw]

theorem axWithdraw_pw (s : State) (n : Nat) : (s.axWithdraw n).pw = s.pw := by
  unfold State.axWithdraw
  dsimp only
  split
  · rw [axLeave_pw, axMod_pw]
  · rw [axOffNow_pw, axMod_pw]
  · rw [axMod_pw]

theorem valveWithdraw_pw (s : State) (b : Nat) : (s.valveWithdraw b).pw = s.pw := by
  unfold State.valveWithdraw
  split_ifs
  · rw [stepMod_pw, vsOff_pw]
  · rw [solCentre_pw, solMod_pw, solOff_pw]
  · rfl

theorem armDrop_pw (s : State) (b : Nat) : (s.armDrop b).pw = s.pw := by
  unfold State.armDrop State.outWithdraw
  split_ifs
  · exact axWithdraw_pw ..
  · exact valveWithdraw_pw ..
  · rfl

/-- Time, leadership, power states, requests, lease and permission stand as they were: what the loss of LEAD_OUT, of arm signals or
of a take-lead sequence leaves alone. -/
structure Withdrawn (s t : State) : Prop where
  clk : t.clk = s.clk
  pw : t.pw = s.pw
  ld : t.ld = s.ld
  request : t.ch.request = s.ch.request
  lease : t.ch.lease = s.ch.lease
  permission : t.ch.permission = s.ch.permission

theorem Withdrawn.refl (s : State) : Withdrawn s s := ⟨rfl, rfl, rfl, rfl, rfl, rfl⟩
theorem Withdrawn.trans {s t u : State} (h : Withdrawn s t) (h' : Withdrawn t u) : Withdrawn s u :=
  ⟨h'.clk.trans h.clk, h'.pw.trans h.pw, h'.ld.trans h.ld, h'.request.trans h.request, h'.lease.trans h.lease, h'.permission.trans h.permission⟩
theorem Aside.withdrawn {s t : State} (h : Aside s t) : Withdrawn s t :=
  ⟨h.clk, h.pw, h.ld, by rw [h.ch], by rw [h.ch], by rw [h.ch]⟩
theorem Disarmed.withdrawn {s t : State} (h : Disarmed s t) (hp : t.pw = s.pw) : Withdrawn s t :=
  ⟨h.clk, hp, h.ld, by rw [h.ch], by rw [h.ch], by rw [h.ch]⟩

theorem armDropAll_withdrawn (s : State) : Withdrawn s s.armDropAll :=
  (armDropAll_disarmed s).withdrawn (each_keeps armDrop_pw _ _)
theorem armJudge_withdrawn (s : State) : Withdrawn s s.armJudge := by
  refine (armJudge_disarmed s).withdrawn (each_keeps (g := State.pw) (fun u b => ?_) _ _)
  split
  · exact armDrop_pw u b
  · rfl

theorem leadDown_withdrawn (s : State) : Withdrawn s s.leadDown :=
  ⟨leadDown_clk s, leadDown_pw s, leadDown_ld s, by rw [leadDown_ch], by rw [leadDown_ch], by rw [leadDown_ch]⟩
theorem leadRelease_withdrawn (s : State) : Withdrawn s s.leadRelease := by
  unfold State.leadRelease
  split
  · exact Withdrawn.refl s
  · exact leadDown_withdrawn s
theorem takeAbandon_withdrawn (s : State) : Withdrawn s s.takeAbandon := by
  have idle : Withdrawn s { s with ch.take := .idle } := ⟨rfl, rfl, rfl, rfl, rfl, rfl⟩
  unfold State.takeAbandon
  cases s.ch.take == .check
  · exact idle
  · exact idle.trans (leadDown_withdrawn _)

/-! ### Giving up lead (R356, R357). -/

/-- What giving up lead leaves alone, and that it leaves no lead. -/
structure GaveUp (s t : State) : Prop where
  clk : t.clk = s.clk
  leading : t.ld.leading = false
  restarting : t.ld.restarting = s.ld.restarting
  permission : t.ch.permission = s.ch.permission
  request : s.ch.request = 0 → t.ch.request = 0

theorem passCard_gaveUp {s : State} (now : Nat) (h : s.ld.leading = false) : GaveUp s (s.passCard now) := by
  unfold State.passCard
  split <;> exact ⟨rfl, h, rfl, rfl, id⟩

theorem GaveUp.trans {s t u : State} (h : GaveUp s t) (h' : GaveUp t u) : GaveUp s u :=
  ⟨h'.clk.trans h.clk, h'.leading, h'.restarting.trans h.restarting, h'.permission.trans h.permission, h'.request ∘ h.request⟩

/-- Once the lane no longer leads, disarming it, dropping LEAD_OUT and counting leave it so. -/
theorem Withdrawn.gaveUp {s t : State} (h : Withdrawn s t) (hl : s.ld.leading = false) : GaveUp s t :=
  ⟨h.clk, by rw [h.ld, hl], by rw [h.ld], h.permission, fun hr => by rw [h.request, hr]⟩

theorem giveUp_gaveUp (s : State) (qual src kind : Nat) (pass : Bool) : GaveUp s (s.giveUp qual src kind pass) := by
  unfold State.giveUp
  split
  · dsimp only
    generalize hl : { s with ld.leading := false, ld.gaveUp := true, ld.cutIn := none, ld.low := 0, ch.request := 0, ch.cardTake := false } = l
    have led : GaveUp s l := by subst hl; exact ⟨rfl, rfl, rfl, rfl, fun _ => rfl⟩
    have idle : Withdrawn l { l.takeAbandon with ch.take := .idle } :=
      (takeAbandon_withdrawn l).trans ⟨rfl, rfl, rfl, rfl, rfl, rfl⟩
    have off := (idle.trans (armDropAll_withdrawn _)).trans (leadRelease_withdrawn _)
    generalize ({ l.takeAbandon with ch.take := .idle }.armDropAll).leadRelease = o at off ⊢
    have told : Withdrawn o (((o.count Obj.GIVE_UP_COUNT 32).putN Obj.GIVE_UP_CAUSE qual).raise Src.lane Kind.LEAD_GIVEN_UP qual
        (some (src * 256 + kind : Nat))) := by
      refine Withdrawn.trans ?_ (raise_aside ..).withdrawn
      exact ⟨rfl, rfl, rfl, rfl, rfl, rfl⟩
    generalize ((o.count Obj.GIVE_UP_COUNT 32).putN Obj.GIVE_UP_CAUSE qual).raise Src.lane Kind.LEAD_GIVEN_UP qual
        (some (src * 256 + kind : Nat)) = r at told ⊢
    have given := led.trans ((off.trans told).gaveUp led.leading)
    have resigned : GaveUp r (r.when s.holdsCard (·.cardMod fun c => { c with resigned := true })) := by
      cases s.holdsCard <;> exact ⟨rfl, given.leading, rfl, rfl, id⟩
    refine given.trans (resigned.trans ?_)
    cases s.holdsCard && pass
    · exact (Withdrawn.refl _).gaveUp resigned.leading
    · exact passCard_gaveUp _ resigned.leading
  · next h =>
    rw [Bool.not_eq_true, Bool.or_eq_false_iff] at h
    exact (Withdrawn.refl s).gaveUp h.1

/-! ### Restart of the application partition (R22). -/

/-- R22: what the keeper leaves of leadership, cards and requests before the application is stopped. -/
theorem appRestart_keeper (s : State) (cause : Nat) : ∃ t : State, s.appRestart cause = t.appStop ∧ t.clk = s.clk ∧
    t.ld.restarting = true ∧ t.ld.leading = false ∧ t.ld.gaveUp = true ∧ t.ld.settled = false ∧ t.ld.card = {} ∧
    t.ch.request = 0 ∧ t.ch.lease = none := by
  have given := giveUp_gaveUp { s with ld.restarting := true } 4 0 0 false
  unfold State.appRestart
  dsimp only
  generalize { s with ld.restarting := true }.giveUp 4 0 0 false = g at given ⊢
  have kind : Withdrawn g (g.armDropAll.putN Obj.LAST_RESET_KIND 5) := (armDropAll_withdrawn g).trans ⟨rfl, rfl, rfl, rfl, rfl, rfl⟩
  have free := kind.trans (takeAbandon_withdrawn _)
  generalize (g.armDropAll.putN Obj.LAST_RESET_KIND 5).takeAbandon = a at free ⊢
  have logged := logAdd_aside { a.cardsClear with
    ld.gaveUp := true, ld.settled := false, ld.passes := 0, ld.included := false, ch.request := 0 } 5 false (logMsg Src.app 0 cause) []
  refine ⟨_, rfl, logged.clk.trans (free.clk.trans given.clk), ?_, ?_, ?_, ?_, ?_, ?_, ?_⟩
  · rw [logged.ld]
    exact (congrArg Lead.restarting free.ld).trans given.restarting
  · rw [logged.ld]
    exact (congrArg Lead.leading free.ld).trans given.leading
  · rw [logged.ld]
  · rw [logged.ld]
  · rw [logged.ld]; rfl
  · rw [logged.ch]
  · rw [logged.ch]; rfl

/-! ### The CRITICAL reaction (R519). -/

theorem chapRefuse_request (s : State) : s.chapRefuse.ch.request = 0 := (armDropAll_withdrawn _).request
theorem chapRefuse_permission (s : State) : s.chapRefuse.ch.permission = none := (armDropAll_withdrawn _).permission

/-- R376: a chaperone that falls silent has no request and no permission; one that does not keeps what it had. -/
theorem chapSilence_requests {s : State} (kind qual : Nat) (hr : s.ch.request = 0) (hp : s.ch.permission = none) :
    (s.chapSilence kind qual).ch.request = 0 ∧ (s.chapSilence kind qual).ch.permission = none := by
  unfold State.chapSilence
  split
  · rw [(leadRelease_withdrawn _).request, (leadRelease_withdrawn _).permission]
    exact ⟨chapRefuse_request _, chapRefuse_permission _⟩
  · exact ⟨hr, hp⟩

theorem criticalReaction_requests (s : State) (src kind qual : Nat) :
    (s.criticalReaction src kind qual).ch.request = 0 ∧ (s.criticalReaction src kind qual).ch.permission = none := by
  have given := giveUp_gaveUp { s with ch.request := 0, ch.permission := none } 1 src kind false
  exact chapSilence_requests kind qual (given.request rfl) given.permission

/-- Settles O23: by what the keeper leaves before the application stops and what stops with it, and by the CRITICAL reaction. -/
theorem partitionsRestart : Obligations.PartitionsRestart := by
  intro s
  refine ⟨fun cause => ⟨.of_run (exec_appPartitionRestart cause s) rfl, ?_⟩, fun h => ?_, fun h => ?_,
    .of_run (exec_keeperFault s) rfl, rfl, (criticalReaction_requests ..).2, (criticalReaction_requests ..).1⟩
  · obtain ⟨t, ht, hclk, hrestarting, hleading, hgaveUp, hsettled, hcard, hrequest, hlease⟩ := appRestart_keeper s cause
    have stopped := appStop_aside t
    rw [ht, stopped.ld, stopped.ch, stopped.clk]
    exact ⟨hrestarting, hleading, hgaveUp, hrequest, hlease, appStop_owner t, appStop_transfers t, appStop_challenge t, appStop_bl t,
      rfl, rfl, hsettled, hcard, hclk⟩
  · exact .of_run (exec_appRestartComplete s) (by rw [runAppRestartComplete, if_pos h])
  · exact .of_run (exec_appRestartComplete s) (by rw [runAppRestartComplete, h]; rfl)

end Sys2Proof.Laws
end

section
/-!
PROOFS. Resets of the lane by their cause (R18, R55, R60, R64, R97, R99).
-/
namespace Sys2Proof.Laws
open Sys2Proof.Machine

/-! ### Entries left out. -/

/-- A key that a choice by keys drops reads as its default. -/
theorem get_filter_dropped {β : Type} [DecidableEq β] (d : Nat → β) (l : Sparse β) (drop : Nat → Bool) {k : Nat} (h : drop k = true) :
    Sparse.get d (l.filter fun e => !drop e.1) k = d k := by
  have none_found : Sparse.find (l.filter fun e => !drop e.1) k = none := by
    induction l with
    | nil => rfl
    | cons e l ih =>
      by_cases he : e.1 = k
      · simp [he, h, ih]
      · cases hd : drop e.1 <;> simp [hd, find_cons, he, ih]
  rw [Sparse.get, none_found]
  rfl

/-! ### The chaperone's own reset (R18, R60). -/

/-- The entries that show what the chaperone holds, but for the straps' and the supplies', which no reset of it clears. -/
def ownEntry (key : Nat) : Bool := chapEntry key && (key < Obj.STRAP_HIGHEST || Obj.SUPPLY_FLAGS < key)

theorem chaperoneReset_get (s : State) {k : Nat} (h : ownEntry k = true) : s.chaperoneReset.get k = defaultOf k :=
  get_filter_dropped defaultOf _ ownEntry h

theorem chaperoneReset_leading (s : State) : s.chaperoneReset.ld.leading = false := by
  unfold State.chaperoneReset
  exact (congrArg Lead.leading (leadDown_ld _)).trans rfl

theorem chaperoneReset_nat (s : State) {k : Nat} (h : ownEntry k = true) (hd : defaultOf k = .num 0) : s.chaperoneReset.nat k = 0 := by
  simp [State.nat, State.n, chaperoneReset_get s h, hd]

/-! ### Supplies and straps (R60, R64, R97). -/

/-- R60, R97: a brown-out resets a main die that is powered or kept. -/
theorem brownOut_alive {s : State} (tick : Nat) (h : s.mainAlive = true) :
    s.brownOut tick = (s.supplyLow 0 true).waltzOff.resetTo 1 tick := if_pos h
theorem brownOut_gone {s : State} (tick : Nat) (h : s.mainAlive = false) :
    s.brownOut tick = (s.supplyLow 0 true).waltzOff.aonTo tick := if_neg (by rw [Bool.not_eq_true]; exact h)

/-- R60, R99: VCH back in its band resets a running main die that no reset holds. -/
theorem chaperoneResetRelease_eq {s : State} (first again : StrapReads) (tick : Nat) (h : s.ch.inReset = true) {o : State}
    (ho : o = { (s.supplyLow 4 false).supplyLow 5 false with ch.inReset := false }) :
    runChaperoneResetRelease first again tick s =
      .next (((if s.mainAlive ∧ !s.ch.mainReset then o.resetTo 3 tick else o).aonTo tick).strapsTake first again) := by
  subst ho
  exact if_pos h

theorem strapsAtStart_inReset {s : State} (first again : StrapReads) (skip : Bool) (h : s.ch.inReset = true) :
    s.strapsAtStart first again skip = s.putN Obj.STRAP_WORD 0 := if_pos h
theorem strapsAtStart_skipped {s : State} (first again : StrapReads) (h : s.ch.inReset = false) :
    s.strapsAtStart first again true = s := by rw [State.strapsAtStart, h]; rfl
theorem strapsAtStart_taken {s : State} (first again : StrapReads) (h : s.ch.inReset = false) :
    s.strapsAtStart first again false = s.strapsTake first again := by rw [State.strapsAtStart, h]; rfl

theorem loseWrites_pw (s : State) : s.loseWrites.pw = s.pw := by
  have lost : (s.uncommitted.foldl (fun (s : State) e => s.put e.1 e.2) s).pw = s.pw := foldl_keeps (by intros; rfl) _ s
  unfold State.loseWrites
  dsimp only
  split <;> exact lost

theorem disarmForReset_pw (s : State) : s.disarmForReset.pw = s.pw := by
  have dropped := armDropAll_withdrawn s
  unfold State.disarmForReset
  dsimp only
  split
  · exact dropped.pw
  · exact (dropped.trans (leadRelease_withdrawn _)).pw

theorem sessionEnd_pw (s : State) : s.sessionEnd.pw = s.pw := rfl
theorem flush_pw (s : State) : s.flush.pw = s.pw := rfl
theorem afterReset_pw (s : State) (kind : Nat) : (s.afterReset kind).pw = s.pw := rfl

theorem chapStart_pw (s : State) (kind : Nat) : (s.chapStart kind).pw = s.pw := by
  unfold State.chapStart
  split <;> rfl

theorem ebUpdate_pw (s : State) : s.ebUpdate.pw = s.pw := by
  unfold State.ebUpdate
  split
  · split <;> rfl
  · rfl

/-- The levels of the pins outlast a reset. -/
theorem resetTo_pins (s : State) (kind tick : Nat) :
    (s.resetTo kind tick).pw.key = s.pw.key ∧ (s.resetTo kind tick).pw.holdNet = s.pw.holdNet := by
  unfold State.resetTo
  dsimp only
  have kept : ((((if kind ≤ 3 then s.disarmForReset.loseWrites else s.disarmForReset.flush).sessionEnd.dropEntries kind).afterReset
      kind).chapStart kind).ebUpdate.pw = s.pw := by
    rw [ebUpdate_pw, chapStart_pw, afterReset_pw, (dropEntries_aside _ kind).pw, sessionEnd_pw]
    split
    · rw [loseWrites_pw, disarmForReset_pw]
    · rw [flush_pw, disarmForReset_pw]
  generalize ((((if kind ≤ 3 then s.disarmForReset.loseWrites else s.disarmForReset.flush).sessionEnd.dropEntries kind).afterReset
      kind).chapStart kind).ebUpdate = u at kept ⊢
  rw [← kept]
  cases kind == 0 <;> cases decide (kind ≤ 1) <;> exact ⟨rfl, rfl⟩

/-- R97, R64: the power-on reset, and the sampling of the straps that belongs to it. -/
theorem powerOn_eq {s o : State} (first again : StrapReads) (ho : o = { s.resetTo 0 0 with pw := { key := s.pw.key, holdNet := s.pw.holdNet } }) :
    runPowerOn first again s = .next (o.strapsAtStart first again (4 ≤ o.chapState)) := by
  obtain ⟨hkey, hnet⟩ := resetTo_pins s 0 0
  rw [ho, runPowerOn]
  dsimp only
  rw [hkey, hnet]

/-! ### Recovery from fail-silence (R99). -/

/-- R99: the fail-silence that no reset recovers is the one by a kind of the list. -/
theorem recoveryDelay_resets {s : State} (tick : Nat) (hs : s.col.failSilent = true) (he : s.n Obj.RECOVERY_ENABLE ≠ 0)
    (hc : s.nat Obj.RECOVERY_COUNT < s.nat Obj.RECOVERY_LIMIT) (hk : ∀ k, s.col.silentBy = some k → k ∉ neverRecovered) :
    runRecoveryDelayExpiry tick s = .next ((s.count Obj.RECOVERY_COUNT 8).resetTo 3 tick) := by
  refine if_pos ⟨hs, by simpa [State.on] using he, hc, ?_⟩
  cases h : s.col.silentBy with
  | none => rfl
  | some k => simpa using hk k h

theorem recoveryDelay_rests {s : State} (tick : Nat) (h : s.col.failSilent = false ∨ s.n Obj.RECOVERY_ENABLE = 0 ∨
    s.nat Obj.RECOVERY_LIMIT ≤ s.nat Obj.RECOVERY_COUNT ∨ ∃ k ∈ neverRecovered, s.col.silentBy = some k) :
    runRecoveryDelayExpiry tick s = .next s := by
  refine if_neg ?_
  rintro ⟨hs, he, hc, hlasting⟩
  rcases h with h | h | h | ⟨k, hk, h⟩
  · simp [h] at hs
  · simp [State.on, h] at he
  · omega
  · rw [h] at hlasting
    simp [hk] at hlasting

/-- Settles O25: each command's run, under the condition that lets it reset the lane and under its negation. -/
theorem resetsByCause : Obligations.ResetsByCause := by
  intro s tick
  refine ⟨fun h => ?_, fun h => ?_, fun width taken => ⟨fun hw h => ?_, fun h => ?_⟩, ⟨?_, rfl, rfl, ?_, rfl, ?_, ?_⟩,
    fun first again hr => ⟨fun h hm => ?_, fun h => ?_⟩, fun first again hr => ?_, fun first again => ⟨fun h => ?_, fun h hc => ?_, fun h hc => ?_⟩,
    fun hp hstep hl hc hm => ?_, fun h => ?_, fun hs he hc hk => ?_, fun h => ?_⟩
  · exact .of_run (exec_brownOut ..) (by rw [runBrownOut, brownOut_alive tick h])
  · exact .of_run (exec_brownOut ..) (by rw [runBrownOut, brownOut_gone tick h])
  · exact .of_run (exec_pinReset ..) (if_pos ⟨hw, h⟩)
  · refine .of_run (exec_pinReset ..) (if_neg ?_)
    rintro ⟨hw, hm⟩
    rcases h with h | ⟨h, ht⟩ | h
    · omega
    · simp [ht] at hw
      omega
    · simp [h] at hm
  · exact .of_run (exec_chaperoneReset s) rfl
  · exact chaperoneReset_leading s
  · exact chaperoneReset_nat s (by decide) (by decide)
  · exact chaperoneReset_nat s (by decide) (by decide)
  · refine .of_run (exec_chaperoneResetRelease ..) ((chaperoneResetRelease_eq first again tick hr rfl).trans ?_)
    rw [if_pos ⟨h, by simp [hm]⟩]
  · refine .of_run (exec_chaperoneResetRelease ..) ((chaperoneResetRelease_eq first again tick hr rfl).trans ?_)
    rw [if_neg (by rcases h with h | h <;> simp [h])]
  · exact .of_run (exec_chaperoneResetRelease ..) (if_neg (by simp [hr]))
  · exact .of_run (exec_powerOn ..) ((powerOn_eq first again rfl).trans (by rw [strapsAtStart_inReset _ _ _ h]))
  · exact .of_run (exec_powerOn ..) ((powerOn_eq first again rfl).trans (by rw [decide_eq_true hc, strapsAtStart_skipped _ _ h]))
  · exact .of_run (exec_powerOn ..) ((powerOn_eq first again rfl).trans (by rw [decide_eq_false (by omega), strapsAtStart_taken _ _ h]))
  · exact .of_run (exec_startSupervisionTimeout ..) (if_pos ⟨by simp [hp], hstep, by simp [hl], hc, hm⟩)
  · refine .of_run (exec_startSupervisionTimeout ..) (if_neg ?_)
    rintro ⟨hp, hstep, hl, hc, hm⟩
    rcases h with h | h | h | h | h
    · simp [h] at hp
    · omega
    · simp [h] at hl
    · omega
    · simp [h] at hm
  · exact .of_run (exec_recoveryDelayExpiry ..) (recoveryDelay_resets tick hs he hc hk)
  · exact .of_run (exec_recoveryDelayExpiry ..) (recoveryDelay_rests tick h)

end Sys2Proof.Laws
end

section
/-!
PROOFS. Supply monitors, straps, clocks, boundary scan and the HOLD net (R18, R54, R56, R60, R61, R67, R74, R275, R390).
-/
namespace Sys2Proof.Laws
open Sys2Proof.Machine

/-! ### Supply monitors (R60, R61). -/

theorem underVoltage_flagged {s : State} {k : Nat} (h : s.bit Obj.SUPPLY_FLAGS k = true) : s.underVoltage k = s := if_pos h
theorem underVoltage_first {s : State} {k : Nat} (h : s.bit Obj.SUPPLY_FLAGS k = false) :
    s.underVoltage k = (s.putBit Obj.SUPPLY_FLAGS k true).raise Src.supply Kind.SUPPLY_UV (k + 1) (some (s.supplyMv k)) :=
  if_neg (by simp [h])

theorem overVoltage_flagged {s : State} {k : Nat} (h : s.bit Obj.SUPPLY_FLAGS (8 + k) = true) : s.overVoltage k = s := if_pos h
theorem overVoltage_first {s : State} {k : Nat} (h : s.bit Obj.SUPPLY_FLAGS (8 + k) = false) (hk : k ≠ 2) :
    s.overVoltage k = (s.putBit Obj.SUPPLY_FLAGS (8 + k) true).raise Src.supply Kind.SUPPLY_OV (k + 1)
      (some ((s.putBit Obj.SUPPLY_FLAGS (8 + k) true).supplyMv k)) :=
  (if_neg (by simp [h])).trans (if_neg hk)
theorem overVoltage_vact {s : State} (h : s.bit Obj.SUPPLY_FLAGS 10 = false) :
    s.overVoltage 2 = ((s.putBit Obj.SUPPLY_FLAGS 10 true).raise Src.supply Kind.VACT_OV 1
      (some ((s.putBit Obj.SUPPLY_FLAGS 10 true).supplyMv 2))).dumpJudge true :=
  (if_neg (by simp [h])).trans (if_pos rfl)

theorem supplyRecovery_over {s : State} {k : Fin 5} (hk : k ≠ 2) :
    runSupplyRecovery k 1 s = .next (s.putBit Obj.SUPPLY_FLAGS (8 + k) false) :=
  congrArg Host.Outcome.next (if_neg (by omega))

/-! ### The strap service read (R67, R390). -/

theorem strapServiceRead_off {s : State} (word : BitVec 24) (h : s.chapState = 0 ∨ s.ch.strapBad = true) :
    runStrapServiceRead word s = .next s := if_pos h

/-- R67: one read that differs is remembered; only the second in a row is a fault. -/
theorem strapServiceRead_noted {s : State} (word : BitVec 24) (hc : s.chapState ≠ 0) (hb : s.ch.strapBad = false) {off : Bool}
    (hoff : (word.toNat != s.nat Obj.STRAP_WORD) = off) (h : (off && s.ch.strapOff) = false) :
    runStrapServiceRead word s = .next { s with ch.strapOff := off } := by
  subst hoff
  exact (if_neg (by simp [hc, hb])).trans (if_neg (by simp [h]))

theorem strapServiceRead_fault {s : State} (word : BitVec 24) (hc : s.chapState ≠ 0) (hb : s.ch.strapBad = false)
    (hw : word.toNat ≠ s.nat Obj.STRAP_WORD) (h : s.ch.strapOff = true) :
    runStrapServiceRead word s = .next (({ s with ch.strapOff := true }.strapFault 4).chapSilence Kind.STRAP_PARITY 4) :=
  (if_neg (by simp [hc, hb])).trans (if_pos (by simp [hw, h]))

/-! ### Clocks (R74). -/

theorem clockDeviation_failed {s : State} (q : Fin 5) {ppm : Int} (h : clockLimit q < ppm.natAbs) :
    runClockDeviation q ppm s = .next (s.raise Src.clock Kind.CLOCK_FAIL (q + 1) (some ppm)) := by rw [runClockDeviation, if_pos h]
theorem clockDeviation_within {s : State} (q : Fin 5) {ppm : Int} (h : ppm.natAbs ≤ clockLimit q) :
    runClockDeviation q ppm s = .next s := by rw [runClockDeviation, if_neg (by omega)]

theorem clockLimit_eq (q : Fin 5) : clockLimit q = if q ≤ 2 then 10000 else 20000 := by fin_cases q <;> rfl

/-- Settles O26: the supplies one by one, then the straps, the clocks, the scan chain and the HOLD net. -/
theorem suppliesStrapsAndClocks : Obligations.SuppliesStrapsAndClocks := by
  intro s
  refine ⟨fun k tick => ⟨fun h => ?_, fun h => ?_, fun hk => ?_, fun hk => ?_, fun hk => ?_, fun hk => ?_, fun hk => ?_⟩,
    fun k => ⟨fun h => ?_, fun h hk => ?_, fun h hk => ?_, ?_, fun hk => ?_, fun hk => ?_, fun hk => ?_, fun hk => ?_, fun hk => ?_, fun hk => ?_⟩,
    fun word => ⟨fun h => ?_, fun hc hb => ⟨fun hw => ?_, fun hw ho => ?_, fun hw ho => ?_⟩⟩, ?_, fun q ppm => ⟨fun h => ?_, fun h => ?_⟩,
    fun h => ?_, fun h => ?_, fun extOrInt trst => ?_, fun level => ⟨fun h => ?_, fun h => ?_⟩⟩
  · exact .of_run (exec_supplyUndervoltage ..) (congrArg _ (underVoltage_first h))
  · exact .of_run (exec_supplyUndervoltage ..) (congrArg _ (underVoltage_flagged h))
  · subst hk; exact .of_run (exec_supplyUndervoltage ..) rfl
  · subst hk; exact .of_run (exec_supplyUndervoltage ..) rfl
  · subst hk; exact .of_run (exec_supplyUndervoltage ..) rfl
  · subst hk; exact .of_run (exec_supplyUndervoltage ..) rfl
  · subst hk; exact .of_run (exec_supplyUndervoltage ..) rfl
  · exact .of_run (exec_supplyOvervoltage ..) (congrArg _ (overVoltage_flagged h))
  · exact .of_run (exec_supplyOvervoltage ..) (congrArg _ (overVoltage_first h (by omega)))
  · subst hk; exact .of_run (exec_supplyOvervoltage ..) (congrArg _ (overVoltage_vact h))
  · exact .of_run (exec_supplyRecovery ..) rfl
  · exact .of_run (exec_supplyRecovery ..) (supplyRecovery_over hk)
  · subst hk; exact .of_run (exec_supplyRecovery ..) rfl
  · subst hk; exact .of_run (exec_supplyRecovery ..) rfl
  · subst hk; exact .of_run (exec_supplyRecovery ..) rfl
  · rcases hk with rfl | rfl <;> exact .of_run (exec_supplyRecovery ..) rfl
  · subst hk; exact .of_run (exec_supplyRecovery ..) rfl
  · exact .of_run (exec_strapServiceRead ..) (strapServiceRead_off word h)
  · exact .of_run (exec_strapServiceRead ..) (strapServiceRead_noted word hc hb (by simp [hw]) rfl)
  · exact .of_run (exec_strapServiceRead ..) (strapServiceRead_noted word hc hb (by simp [hw]) ho)
  · exact .of_run (exec_strapServiceRead ..) (strapServiceRead_fault word hc hb hw ho)
  · exact .of_run (exec_chapClockFail s) rfl
  · exact .of_run (exec_clockDeviation ..) (clockDeviation_failed q (by rwa [clockLimit_eq]))
  · exact .of_run (exec_clockDeviation ..) (clockDeviation_within q (by rwa [clockLimit_eq]))
  · exact .of_run (exec_timebaseStartTimeout s) (by rw [runTimebaseStartTimeout, if_pos h])
  · exact .of_run (exec_timebaseStartTimeout s) (by rw [runTimebaseStartTimeout, h]; rfl)
  · exact .of_run (exec_boundaryScanInstruction ..) rfl
  · exact .of_run (exec_holdReadbackChange ..) (by rw [runHoldReadbackChange, beq_false_of_ne h, when_false])
  · exact .of_run (exec_holdReadbackChange ..) (by rw [runHoldReadbackChange, h, beq_self_eq_true, when_true])

end Sys2Proof.Laws
end

section
/-!
PROOFS. Card messages: who is heard, which numbers are taken, and what each type does (R41, R361).
-/
namespace Sys2Proof.Laws
open Sys2Proof.Machine

/-! ### The judgement of a card message (R41, R361). -/

section
variable {s : State} {p : Nat} {a : Announcement} (f : State → State)

theorem cardTaken_unheard (n : Nat) (h : 3 ≤ s.role ∨ vget s.ld.announced p = none) : s.cardTaken p n f = s := by
  unfold State.cardTaken
  split
  · rfl
  · next hr =>
    rw [h.resolve_left hr]

/-- R41: a partner whose announcement differs excludes the lane. -/
theorem cardTaken_differs (n : Nat) (hr : s.role < 3) (ha : vget s.ld.announced p = some a) (hd : s.announceOk p a = false) :
    s.cardTaken p n f = s.exclude p a := by
  rw [State.cardTaken, if_neg (by omega), ha]
  simp only [hd, Bool.not_false, if_true]

theorem cardNumberOk_iff (s : State) (n : Nat) : s.cardNumberOk n = true ↔
    s.ld.card.any = false ∨ n = s.nat Obj.CARD_NUMBER ∨ n = (s.nat Obj.CARD_NUMBER + 1) % 2 ^ 32 := by
  simp [State.cardNumberOk, or_assoc]

/-- R361: a matched partner's message is taken or rejected by its number. -/
theorem cardTaken_matched (n : Nat) (hr : s.role < 3) (ha : vget s.ld.announced p = some a) (hm : s.announceOk p a = true) :
    s.cardTaken p n f = if s.cardNumberOk n then f s else s.cardReject n := by
  rw [State.cardTaken, if_neg (by omega), ha]
  simp only [hm, Bool.not_true, Bool.false_eq_true, if_false]

theorem cardTaken_taken (n : Nat) (hr : s.role < 3) (ha : vget s.ld.announced p = some a) (hm : s.announceOk p a = true)
    (hn : s.ld.card.any = false ∨ n = s.nat Obj.CARD_NUMBER ∨ n = (s.nat Obj.CARD_NUMBER + 1) % 2 ^ 32) : s.cardTaken p n f = f s := by
  rw [cardTaken_matched f n hr ha hm, if_pos ((cardNumberOk_iff s n).2 hn)]

theorem cardTaken_rejected {n : Nat} (hr : s.role < 3) (ha : vget s.ld.announced p = some a) (hm : s.announceOk p a = true)
    (hany : s.ld.card.any = true) (hlast : n ≠ s.nat Obj.CARD_NUMBER) (hnext : n ≠ (s.nat Obj.CARD_NUMBER + 1) % 2 ^ 32) :
    s.cardTaken p n f = s.raise Src.lane Kind.CARD_LEASE_LOST 2 (some (n : Int)) := by
  rw [cardTaken_matched f n hr ha hm, if_neg]
  · rfl
  · rw [cardNumberOk_iff]
    simp only [hany, hlast, hnext, Bool.true_eq_false, or_self, not_false_eq_true]

end

/-- A judgement that does not reach the message's type answers all four types alike. -/
theorem cardMessages_alike {s t : State} {p : Fin 2} {m : Card} (now : Nat) (h : ∀ f, s.cardTaken p m.number f = t) :
    Gives (.cardIssueMessage p m now) s t ∧ Gives (.cardRenewMessage p m) s t ∧ Gives (.cardPassMessage p m) s t ∧
      Gives (.cardReleaseMessage p m) s t :=
  ⟨.of_run (exec_cardIssueMessage ..) (congrArg _ (h _)), .of_run (exec_cardRenewMessage ..) (congrArg _ (h _)),
    .of_run (exec_cardPassMessage ..) (congrArg _ (h _)), .of_run (exec_cardReleaseMessage ..) (congrArg _ (h _))⟩

/-! ### An issue (R361). -/

/-- The lane once it has taken an issue: the card is the message's, and leadership is settled by it. -/
def issueTaken (s : State) (m : Card) : State :=
  let t := (s.cardMode.putN Obj.CARD_HOLDER m.holder).putN Obj.CARD_EXPIRY m.expiry
  (({ t with ld.card := { any := true, issuer := m.issuer, reason := m.reason }, ld.settled := true
             ld.recover := t.ld.recover && decide (2 < m.reason), ld.inGap := t.ld.inGap && decide (2 < m.reason) }.cardYield).stepReached
    10).cardAccept m.number

section
variable {s : State} {p : Fin 2} {a : Announcement} {m : Card} {now : Nat} (hr : s.role < 3) (ha : vget s.ld.announced p = some a)
  (hm : s.announceOk p a = true)
  (hn : s.ld.card.any = false ∨ m.number = s.nat Obj.CARD_NUMBER ∨ m.number = (s.nat Obj.CARD_NUMBER + 1) % 2 ^ 32)
include hr ha hm hn

/-- R361: inside the guard of the last card an issue is rejected. -/
theorem cardIssue_guarded (hany : s.ld.card.any = true) (hnow : now < s.nat Obj.CARD_EXPIRY + 200000) :
    runCardIssueMessage p m now s = .next (s.raise Src.lane Kind.CARD_LEASE_LOST 2 (some (m.number : Int))) := by
  rw [runCardIssueMessage, cardTaken_taken _ _ hr ha hm hn, if_pos ⟨hany, hnow⟩]
  rfl

/-- R361, R364: outside it the issue is taken, and a start, test or recovery card begins the line test. -/
theorem cardIssue_taken (hfree : s.ld.card.any = false ∨ s.nat Obj.CARD_EXPIRY + 200000 ≤ now) :
    runCardIssueMessage p m now s = .next ((issueTaken s m).when (m.reason ≤ 2)
      fun u => u.testBegin (m.expiry - 100000 * u.nat Obj.CARD_LEASE)) := by
  have outside : ¬ (s.ld.card.any = true ∧ now < s.nat Obj.CARD_EXPIRY + inMs 2) := by
    rintro ⟨hany, hnow⟩
    rcases hfree with h | h
    · simp [h] at hany
    · unfold inMs at hnow
      omega
  rw [runCardIssueMessage, cardTaken_taken _ _ hr ha hm hn, if_neg outside]
  simp only [inMs, Nat.mul_comm]
  rfl

end

/-! ### Card mode (R361). -/

theorem cardMode_leadMode (s : State) : s.cardMode.nat Obj.LEAD_MODE = 1 :=
  nat_putN_self (s.when (s.nat Obj.LEAD_MODE == 0) (·.takeAbandon)) Obj.LEAD_MODE 1

theorem cardYield_lease (s : State) : s.cardYield.ch.lease = none := (armJudge_withdrawn _).lease

/-- Settles O42: every message is judged alike; a taken one does what its type says. -/
theorem cardMessagesAreJudged : Obligations.CardMessagesAreJudged := by
  intro s p m now
  refine ⟨fun h => cardMessages_alike now fun f => cardTaken_unheard f _ h,
    fun a hr ha hd => cardMessages_alike now fun f => cardTaken_differs f _ hr ha hd,
    fun a t hr ha hm hany hlast hnext ht => ?_, fun a hr ha hm hn taken htaken => ?_, cardMode_leadMode s, rfl, cardYield_lease s⟩
  · subst ht
    exact cardMessages_alike now fun f => cardTaken_rejected f hr ha hm hany hlast hnext
  · subst htaken
    refine ⟨fun hany hnow => .of_run (exec_cardIssueMessage ..) (cardIssue_guarded hr ha hm hn hany hnow),
      fun hfree => ⟨fun htest => .of_run (exec_cardIssueMessage ..) ((cardIssue_taken hr ha hm hn hfree).trans ?_),
        fun htest => .of_run (exec_cardIssueMessage ..) ((cardIssue_taken hr ha hm hn hfree).trans ?_)⟩,
      .of_run (exec_cardRenewMessage ..) (congrArg _ (cardTaken_taken _ _ hr ha hm hn)),
      .of_run (exec_cardPassMessage ..) (congrArg _ (cardTaken_taken _ _ hr ha hm hn)),
      .of_run (exec_cardReleaseMessage ..) (congrArg _ (cardTaken_taken _ _ hr ha hm hn))⟩
    · rw [decide_eq_true htest, when_true]
      rfl
    · rw [decide_eq_false (by omega), when_false]
      rfl

end Sys2Proof.Laws
end

section
/-!
PROOFS. Announcements, shadow records, health blocks, lost partners and the ladder's delay (R41, R366, R368–R372, R392–R394).
-/
namespace Sys2Proof.Laws
open Sys2Proof.Machine

/-! ### Announcements (R41, R366). -/

theorem laneAnnouncement_unmatched {s t : State} {p : Fin 2} {a : Announcement} (ht : t = { s with ld.announced := vset s.ld.announced p (some a) })
    (h : t.announceOk p a = false) : runLaneAnnouncement p a s = .next t := by
  subst ht
  unfold runLaneAnnouncement
  simp only [h, when_false, Bool.false_eq_true, false_and, if_false]

/-- R366: a matching announcement calls for a recovery at a running lane, unless the test that runs covers it. -/
theorem laneAnnouncement_matched {s t u : State} {p : Fin 2} {a : Announcement} (ht : t = { s with ld.announced := vset s.ld.announced p (some a) })
    (h : t.announceOk p a = true) (hu : u = { t with ld.lost := vset s.ld.lost p false, ld.missing := vset s.ld.missing p 0 }) :
    runLaneAnnouncement p a s = .next (if (u.role = 1 ∨ u.role = 2) ∧
        ¬ (s.nat Obj.LEAD_MODE = 1 ∧ s.ld.testing = true ∧ s.clk.now < s.nat Obj.LINE_TEST_TIME) then
      { u with ld.recover := true, ld.inGap := (u.ld.recover && u.ld.inGap) || u.cutInGap } else u) := by
  subst ht hu
  unfold runLaneAnnouncement
  dsimp only
  rw [h, when_true]
  refine congrArg _ (if_congr ?_ rfl rfl)
  refine (and_iff_right h).trans (and_congr_right fun _ => ?_)
  rw [Bool.not_eq_true', ← Bool.not_eq_true, Bool.and_eq_true, Bool.and_eq_true, beq_iff_eq, decide_eq_true_eq, and_assoc]
  rfl

/-! ### Shadow records (R368, R369). -/

/-- R368, R291: does a recorded cell differ from this lane's run of it? -/
def shadowBad (s : State) (r : ShadowRecord) : Bool := r.cells.any fun x => (s.shadowRun x).y != x.y || s.shadowGen r.beat x

/-- R368: the lane after the comparison: a failure counted, or the states of a pass adopted. -/
def shadowCompared (s : State) (r : ShadowRecord) : State :=
  if shadowBad s r then (s.count Obj.SHADOW_FAILS 32).shadowFail 2 s.score
  else
    let c := r.cells.foldl (fun y x => (y.cellStateWrite x.cell true (y.shadowRun x).s0).cellStateWrite x.cell false (y.shadowRun x).s1) s
    { c.count Obj.SHADOW_PASSES 32 with ld.passes := c.ld.passes + 1, ld.passed := true }

theorem shadowBad_iff (s : State) (r : ShadowRecord) :
    shadowBad s r = true ↔ ∃ x ∈ r.cells, (s.shadowRun x).y ≠ x.y ∨ s.shadowGen r.beat x = true := by
  simp [shadowBad]

theorem shadowRecord_elsewhere {s : State} (r : ShadowRecord) (h : s.role ≠ 1) : runShadowRecord r s = .next s := if_pos h

/-- R368, R369: a follow compares, and then cross-checks each enabled axis. -/
theorem shadowRecord_follow {s : State} (r : ShadowRecord) (h : s.role = 1) :
    runShadowRecord r s = .next ((((List.range 6).filter fun n => (shadowCompared s r).on (Obj.AX_ENABLE n)).zip r.pairs).foldl
      (fun y x => y.crossCheck r.time x.1 x.2) (shadowCompared s r)) := if_neg (not_not_intro h)

/-! ### Health blocks, lost partners and the ladder (R370, R372, R392–R394). -/

theorem vget_vset_self {α : Type} [Inhabited α] {n : Nat} (v : Vector α n) (i : Fin n) (x : α) : vget (vset v i x) i = x := by
  simp [vget, vset]

/-- The entries of a partner are apart. -/
theorem peerHealth_ne_peerBeat (p q : Nat) : Obj.PEER_HEALTH p ≠ Obj.PEER_BEAT q := by unfold Obj.PEER_HEALTH Obj.PEER_BEAT; omega
theorem peerHealth_ne_peerState (p q : Nat) : Obj.PEER_HEALTH p ≠ Obj.PEER_STATE q := by unfold Obj.PEER_HEALTH Obj.PEER_STATE; omega

/-- R370, R419: a partner's word enters its entries, and it is neither missing nor lost. -/
theorem wordTaken_entries (s : State) (p : Fin 2) (word obs : Nat) :
    (s.wordTaken p word obs).n (Obj.PEER_HEALTH p) = word ∧
    (s.wordTaken p word obs).nat (Obj.PEER_STATE p) = (if wordRole word = 5 then 3 else 1) := by
  unfold State.wordTaken
  dsimp only
  generalize s.when _ _ = u
  refine ⟨(n_putN_ne _ _ (peerHealth_ne_peerState p p)).trans ((n_putN_ne _ _ (peerHealth_ne_peerBeat p p)).trans (n_putN_self ..)),
    (nat_putN_self ..).trans ?_⟩
  split <;> rfl

theorem wordTaken_heard (s : State) (p : Fin 2) (word obs : Nat) : vget (s.wordTaken p word obs).ld.words p = some word ∧
    vget (s.wordTaken p word obs).ld.missing p = 0 ∧ vget (s.wordTaken p word obs).ld.lost p = false :=
  ⟨vget_vset_self .., vget_vset_self .., vget_vset_self ..⟩

theorem peerWordsTimeout_lost {s : State} {p : Fin 2} (hp : s.peerLane p ≠ 0) (hl : vget s.ld.lost p = false)
    (hm : s.nat Obj.PEER_TIMEOUT ≤ vget s.ld.missing p) {t : State}
    (ht : t = { s.putN (Obj.PEER_STATE p) 2 with ld.lost := vset s.ld.lost p true }) :
    runPeerWordsTimeout p s = .next (t.raise Src.lane Kind.PEER_LOST 1 (some (t.peerLane p : Int))) := by
  subst ht
  exact if_pos ⟨hp, by simp [hl], hm⟩

theorem peerWordsTimeout_heard {s : State} {p : Fin 2}
    (h : s.peerLane p = 0 ∨ vget s.ld.lost p = true ∨ vget s.ld.missing p < s.nat Obj.PEER_TIMEOUT) :
    runPeerWordsTimeout p s = .next s := by
  refine if_neg ?_
  rintro ⟨hp, hl, hm⟩
  rcases h with h | h | h
  · exact hp h
  · simp [h] at hl
  · omega

/-- Settles O45: announcement, record, block, loss and ladder in turn. -/
theorem partnersAreFollowed : Obligations.PartnersAreFollowed := by
  intro s
  refine ⟨fun p a t ht => ⟨fun h => .of_run (exec_laneAnnouncement ..) (laneAnnouncement_unmatched ht h), fun h covered hc => ⟨fun hr hn => ?_, fun hr => ?_⟩⟩,
    fun r => ⟨fun h => .of_run (exec_shadowRecord ..) (shadowRecord_elsewhere r h), fun h => ⟨shadowCompared s r, fun hbad => ?_, fun hgood => ?_,
      .of_run (exec_shadowRecord ..) (shadowRecord_follow r h)⟩⟩,
    fun p word votes obs => ⟨fun h => ?_, fun h => ⟨?_, ?_, ?_, ?_, ?_, fun hv => ?_, fun hv => ?_⟩⟩, fun p => ⟨fun hp hl hm => ?_, fun h => ?_⟩,
    fun hr hl => ?_, fun h => ?_, fun hl hv => ?_, fun h => ?_⟩
  · exact .of_run (exec_laneAnnouncement ..) ((laneAnnouncement_matched ht h rfl).trans (congrArg _ (if_pos ⟨hr, fun h => hn (hc.2 h)⟩)))
  · refine .of_run (exec_laneAnnouncement ..) ((laneAnnouncement_matched ht h rfl).trans (congrArg _ (if_neg ?_)))
    rintro ⟨hrole, hn⟩
    rcases hr with ⟨h1, h2⟩ | hcov
    · exact hrole.elim h1 h2
    · exact hn (hc.1 hcov)
  · exact if_pos ((shadowBad_iff s r).2 hbad)
  · refine if_neg (mt (shadowBad_iff s r).1 ?_)
    rintro ⟨x, hx, hy | hg⟩
    · exact hy (hgood x hx).1
    · simp [(hgood x hx).2] at hg
  · exact .of_run (exec_healthBlock ..) (if_pos h)
  · exact (wordTaken_entries ..).1
  · exact (wordTaken_entries ..).2
  · exact (wordTaken_heard ..).1
  · exact (wordTaken_heard ..).2.1
  · exact (wordTaken_heard ..).2.2
  · refine .of_run (exec_healthBlock ..) ((if_neg h).trans (congrArg _ (if_pos ?_)))
    rw [hv]; rfl
  · refine .of_run (exec_healthBlock ..) ((if_neg h).trans (congrArg _ (if_neg ?_)))
    exact fun hz => hv (BitVec.eq_of_toNat_eq hz)
  · exact .of_run (exec_peerWordsTimeout ..) (peerWordsTimeout_lost hp hl hm rfl)
  · exact .of_run (exec_peerWordsTimeout ..) (peerWordsTimeout_heard h)
  · exact .of_run (exec_ladderWaltzDelayExpiry s) (if_pos ⟨hr, hl⟩)
  · refine .of_run (exec_ladderWaltzDelayExpiry s) (if_neg ?_)
    rintro ⟨hr, hl⟩
    exact h.elim (fun h => by simp [h] at hr) (fun h => h hl)
  · exact .of_run (exec_ladderRequestClear s) (if_pos ⟨hl, hv⟩)
  · refine .of_run (exec_ladderRequestClear s) (if_neg ?_)
    rintro ⟨hl, hv⟩
    exact h.elim (by omega) (fun h => h hv)

end Sys2Proof.Laws
end

section
/-!
PROOFS. Windows of the Ralune bus: what is latched, sent and taken from the queue (R23, R86, R414, R420, R433, R434).
-/
namespace Sys2Proof.Laws
open Sys2Proof.Machine

section
variable {s : State} {p : Fin 4} {w : Fin 24} {now : Nat} {r : SchedRow} {idx : Nat}

/-! ### Latching (R420). -/

theorem frameLatch_absent (h : s.window p w ((now + 2000) / s.beatCounts) = none) : runFrameLatch p w now s = .next s := by
  rw [runFrameLatch, h]

section
variable (h : s.window p w ((now + 2000) / s.beatCounts) = some (r, idx))
include h

theorem frameLatch_shut (hs : s.maySend = false ∨ s.windowOpen p r idx = false) : runFrameLatch p w now s = .next s := by
  rw [runFrameLatch, h]
  exact if_pos (by simpa using hs)

theorem frameLatch_open (hm : s.maySend = true) (ho : s.windowOpen p r idx = true) : runFrameLatch p w now s =
    if r.type = 2 then .next ((s.latchShared p r now).portMod p fun x => { x with ready := x.queue })
    else if s.ownsWindow p r idx then .next (s.latchOwn p r now) else .next s := by
  rw [runFrameLatch, h]
  exact if_neg (by simp [hm, ho])

end

/-! ### Transmission (R414, R420). -/

theorem windowTransmit_absent (h : s.window p w (now / s.beatCounts) = none) : runWindowTransmit p w now s = .next s := by
  rw [runWindowTransmit, h]

theorem frameTransmitted_absent (own : Bool) (h : s.window p w (now / s.beatCounts) = none) :
    runFrameTransmitted p w own now s = .next s := by
  rw [runFrameTransmitted, h]

/-- R23, R420: outside an application restart an exclusive window carries what was latched for it. -/
theorem ownContent_running (h : s.ld.restarting = false) : s.ownContent p r = Sparse.get (fun _ => []) (s.port p).latched r.window :=
  if_neg (by simp [h])
/-- R23: in an application restart nothing is sent of the lane's own on A, B and D. -/
theorem ownContent_restarting (h : s.ld.restarting = true) (hp : p.val ≠ 2) : s.ownContent p r = [] :=
  (if_pos h).trans (if_neg fun hc => hp hc.1)

/-- R420: what goes out in an own exclusive window: its content, or a null frame where that is nothing. -/
theorem sendOwn_eq (t : State) (m : List Byte) : (if m.isEmpty then t.sendNull p r else t.sendFrame p false 8 m) =
    if m = [] then t.sendNull p r else t.sendFrame p false 8 m := by
  cases m <;> rfl

section
variable (h : s.window p w (now / s.beatCounts) = some (r, idx))
include h

theorem windowTransmit_shut (hs : s.maySend = false ∨ s.windowOpen p r idx = false) : runWindowTransmit p w now s = .next s := by
  rw [runWindowTransmit, h]
  exact if_pos (by simpa using hs)

theorem windowTransmit_open (hm : s.maySend = true) (ho : s.windowOpen p r idx = true) : runWindowTransmit p w now s =
    if r.type = 2 then
      .next ((s.portMod p fun x => { x with openAt := some (s.windowAt r now) }).startFrame p r now (now + s.extent p r))
    else if s.ownsWindow p r idx then
      .next (if s.ownContent p r = [] then (s.latch p r.window []).sendNull p r
        else (s.latch p r.window []).sendFrame p false 8 (s.ownContent p r))
    else .next s := by
  rw [← sendOwn_eq, runWindowTransmit, h]
  exact if_neg (by simp [hm, ho])

/-! ### The end of a frame (R86, R420). -/

theorem frameTransmitted_exclusive (own : Bool) (ht : r.type ≠ 2) : runFrameTransmitted p w own now s = .next s := by
  rw [runFrameTransmitted, h]
  exact if_pos ht

end

end

/-- R86, R420: the next frame of an arbitrating window is started while the lane sends, and in an entry to DOZE only in the window
that had opened before it. -/
def frameNext (p : Nat) (r : SchedRow) (idx now : Nat) (t : State) : State :=
  if (t.sends && (t.pw.entry != 1 || (t.port p).openAt == some (t.windowAt r now))) && t.windowOpen p r idx then
    t.startFrame p r now (t.windowAt r now + t.extent p r)
  else t

theorem frameNext_run (p : Nat) (r : SchedRow) (idx now : Nat) (t : State) :
    (if (!(t.sends && (t.pw.entry != 1 || (t.port p).openAt == some (t.windowAt r now)))) = true ∨ (!t.windowOpen p r idx) = true then
      Host.Outcome.next t else .next (t.startFrame p r now (t.windowAt r now + t.extent p r))) = (.next (frameNext p r idx now t) : Res) := by
  unfold frameNext
  cases t.sends && (t.pw.entry != 1 || (t.port p).openAt == some (t.windowAt r now)) <;> cases t.windowOpen p r idx <;> rfl

/-- The effect of a frame's end, told by the condition that lets the next frame begin. -/
theorem frameNext_gives {s t : State} {p : Fin 4} {w : Fin 24} {own : Bool} {r : SchedRow} {idx now at' : Nat} {may : Prop}
    (hrun : runFrameTransmitted p w own now s = .next (frameNext p r idx now t)) (hat : at' = now / t.beatCounts * t.beatCounts + r.start)
    (hmay : may ↔ t.sends = true ∧ (t.pw.entry ≠ 1 ∨ (t.port p).openAt = some at') ∧ t.windowOpen p r idx = true) :
    (¬ may → Gives (.frameTransmitted p w own now) s t) ∧
      (may → Gives (.frameTransmitted p w own now) s (t.startFrame p r now (at' + t.extent p r))) := by
  obtain rfl : at' = t.windowAt r now := hat
  refine ⟨fun h => .of_run (exec_frameTransmitted ..) (hrun.trans (congrArg _ (if_neg ?_))),
    fun h => .of_run (exec_frameTransmitted ..) (hrun.trans (congrArg _ (if_pos ?_)))⟩
  · rw [hmay] at h
    simpa [and_assoc] using h
  · rw [hmay] at h
    simpa [and_assoc] using h

/-- R420: the queue without the lane's frame that has gone out. -/
def frameGone (p : Nat) (q : Nat × List Byte) (s : State) : State :=
  s.portMod p fun x => { x with queue := x.queue.erase q, ready := x.ready.erase q, onBus := none }

/-- R434: a claim that has gone out enters the lane's own list. -/
def frameTaken (p : Nat) (q : Nat × List Byte) (s : State) : State :=
  if q.1 = 1 then ((frameGone p q s).claimSent p q.2).claimHeard p ((frameGone p q s).portAddr p) (q.2.drop 4) else frameGone p q s

theorem frameTaken_eq (p : Nat) (q : Nat × List Byte) (s : State) : frameTaken p q s =
    (frameGone p q s).when (q.1 == 1) fun s => (s.claimSent p q.2).claimHeard p (s.portAddr p) (q.2.drop 4) := by
  unfold frameTaken
  by_cases h : q.1 = 1
  · rw [if_pos h, h, beq_self_eq_true, when_true]
  · rw [if_neg h, beq_false_of_ne h, when_false]

section
variable {s : State} {p : Fin 4} {w : Fin 24} {now : Nat} {r : SchedRow} {idx : Nat}
  (h : s.window p w (now / s.beatCounts) = some (r, idx)) (ht : r.type = 2)
include h ht

/-- R420: the end of another's frame takes nothing from the queue. -/
theorem frameTransmitted_other {own : Bool} (ho : own = false ∨ (s.port p).onBus = none) :
    runFrameTransmitted p w own now s = .next (frameNext p r idx now s) := by
  rw [runFrameTransmitted, h]
  dsimp only
  rw [if_neg (not_not_intro ht)]
  rcases ho with rfl | hb
  · exact frameNext_run ..
  · cases own
    · exact frameNext_run ..
    · simp only [if_true, hb]
      exact frameNext_run ..

/-- R420, R434: the end of an own frame takes it from the queue. -/
theorem frameTransmitted_own {q : Nat × List Byte} (hq : (s.port p).onBus = some q) :
    runFrameTransmitted p w true now s = .next (frameNext p r idx now (frameTaken p q s)) := by
  rw [runFrameTransmitted, h]
  dsimp only
  rw [if_neg (not_not_intro ht), frameTaken_eq]
  simp only [if_true, hq]
  exact frameNext_run ..

end

/-- Settles O50: a window that is absent, shut, arbitrating, owned or another's, in this order. -/
theorem windowsAreServed : Obligations.WindowsAreServed := by
  intro s p w now
  refine ⟨fun h => .of_run (exec_frameLatch ..) (frameLatch_absent h), fun r idx h => ⟨fun hs => .of_run (exec_frameLatch ..) (frameLatch_shut h hs),
      fun hm ho => ⟨fun ht => ?_, fun ht hown => ?_, fun ht hown => ?_⟩⟩,
    fun h => ⟨.of_run (exec_windowTransmit ..) (windowTransmit_absent h), fun own => .of_run (exec_frameTransmitted ..) (frameTransmitted_absent own h)⟩,
    fun r idx h => ⟨fun hs => .of_run (exec_windowTransmit ..) (windowTransmit_shut h hs), fun hm ho => ⟨fun ht => ?_, fun ht hown => ?_,
        fun ht hown m hc => ⟨fun hr => hc.trans (ownContent_running hr), fun hr hp => hc.trans (ownContent_restarting hr hp), fun hn => ?_, fun hn => ?_⟩⟩,
      fun ht own => .of_run (exec_frameTransmitted ..) (frameTransmitted_exclusive h own ht), fun ht own => ?_⟩⟩
  · exact .of_run (exec_frameLatch ..) ((frameLatch_open h hm ho).trans (if_pos ht))
  · exact .of_run (exec_frameLatch ..) ((frameLatch_open h hm ho).trans ((if_neg ht).trans (if_pos hown)))
  · exact .of_run (exec_frameLatch ..) ((frameLatch_open h hm ho).trans ((if_neg ht).trans (if_neg (by simp [hown]))))
  · exact .of_run (exec_windowTransmit ..) ((windowTransmit_open h hm ho).trans (if_pos ht))
  · exact .of_run (exec_windowTransmit ..) ((windowTransmit_open h hm ho).trans ((if_neg ht).trans (if_neg (by simp [hown]))))
  · subst hc
    exact .of_run (exec_windowTransmit ..) ((windowTransmit_open h hm ho).trans ((if_neg ht).trans ((if_pos hown).trans (by rw [if_pos hn]))))
  · subst hc
    exact .of_run (exec_windowTransmit ..) ((windowTransmit_open h hm ho).trans ((if_neg ht).trans ((if_pos hown).trans (by rw [if_neg hn]))))
  · by_cases hq : own = true ∧ ∃ q, (s.port p).onBus = some q
    · obtain ⟨rfl, q, hq⟩ := hq
      refine ⟨frameTaken p q s, ?_, fun q' _ hq' => ?_, fun at' hat may hmay => ?_⟩
      · rintro (h0 | h0) <;> simp_all
      · obtain rfl := Option.some.inj (hq.symm.trans hq')
        exact ⟨fun h1 => if_pos h1, fun h1 => if_neg h1⟩
      · exact frameNext_gives (frameTransmitted_own h ht hq) hat hmay
    · have other : own = false ∨ (s.port p).onBus = none := by
        cases own
        · exact .inl rfl
        · exact .inr (Option.eq_none_iff_forall_ne_some.2 fun q hq' => hq ⟨rfl, q, hq'⟩)
      exact ⟨s, fun _ => rfl, fun q ho hq' => absurd ⟨ho, q, hq'⟩ hq, fun at' hat may hmay =>
        frameNext_gives (frameTransmitted_other h ht other) hat hmay⟩

end Sys2Proof.Laws
end

section
/-!
PROOFS. Votes, hold-offs, domains and the entries to DOZE and PARKED (R75–R87).
-/
namespace Sys2Proof.Laws
open Sys2Proof.Machine

/-! ### The vote sets ORed and closed (R77). -/

/-- A bit of the votes of some clients is that bit of one of them. -/
theorem testBit_voteOr (s : State) (l : List Nat) (i : Nat) :
    (s.voteOr l).testBit i = true ↔ ∃ c ∈ l, (s.voteMask c).testBit i = true := by
  have fold (m : Nat) : (l.foldl (fun m c => m ||| s.voteMask c) m).testBit i = (m.testBit i || l.any fun c => (s.voteMask c).testBit i) := by
    induction l generalizing m with
    | nil => simp
    | cons c l ih => rw [List.foldl_cons, ih, Nat.testBit_or, List.any_cons, Bool.or_assoc]
  rw [State.voteOr, fold, Nat.zero_testBit, Bool.false_or, List.any_eq_true]

/-- What the closing adds to a vote set: PD_MEAS under PD_POWER, and PD_MAIN under each of the three. -/
theorem testBit_voteClose (v i : Nat) : (voteClose v).testBit i =
    (v.testBit i || (v.testBit 3 && decide (1 = i)) || ((v.testBit 1 || v.testBit 2 || v.testBit 3) && decide (0 = i))) := by
  have one : Nat.testBit 1 i = decide (0 = i) := Nat.testBit_two_pow (n := 0)
  have two : Nat.testBit 2 i = decide (1 = i) := Nat.testBit_two_pow (n := 1)
  unfold voteClose
  cases h3 : v.testBit 3
  · cases h : v.testBit 1 || v.testBit 2 <;> simp_all
  · simp [h3, one, two]

/-- Settles O12: by the bits of an OR of vote masks and the bits that closing adds. -/
theorem votesAreClosed : Obligations.VotesAreClosed := by
  intro s v
  have closed (i : Nat) : s.votes.testBit i = (v.testBit i || (v.testBit 3 && decide (1 = i)) ||
      ((v.testBit 1 || v.testBit 2 || v.testBit 3) && decide (0 = i))) := testBit_voteClose v i
  refine ⟨fun i => ?_, ?_, ?_, ?_, ?_, fun i hi => ?_⟩
  · rw [testBit_voteOr]
    simp only [List.mem_range]
  · simp [closed]
  · simp [closed]
  · simp [closed]
  · simp [closed, Bool.or_assoc]
  · have h0 : 0 ≠ i := by omega
    have h1 : 1 ≠ i := by omega
    simp [closed, h0, h1]

/-! ### Votes and hold-offs (R75–R79). -/

theorem on_iff (s : State) (k : Nat) : s.on k = true ↔ s.n k ≠ 0 := by simp [State.on]
theorem awake_iff (s : State) : s.awake = true ↔ s.pw.sleep = 0 ∧ s.pw.entry = 0 := by simp [State.awake]

/-- R76: only a vote that a port or a partner holds can lapse. -/
theorem portActivityLapse_quiet {s : State} {p : Fin 4} (h : s.pw.ports.testBit p = false) : runPortActivityLapse p s = .next s := by
  rw [runPortActivityLapse, State.pwMod, h]
  rfl
theorem portActivityLapse_active {s : State} {p : Fin 4} (h : s.pw.ports.testBit p = true) :
    runPortActivityLapse p s = .next (s.pwMod fun x => { x with ports := x.ports - 2 ^ p.val }) := by
  rw [runPortActivityLapse, State.pwMod, h]
  rfl
theorem partnerVoteLapse_none {s : State} {p : Fin 2} (h : s.pw.partners.testBit p = false) : runPartnerVoteLapse p s = .next s := by
  rw [runPartnerVoteLapse, State.pwMod, h]
  rfl
theorem partnerVoteLapse_held {s : State} {p : Fin 2} (h : s.pw.partners.testBit p = true) :
    runPartnerVoteLapse p s = .next (s.pwMod fun x => { x with partners := x.partners - 2 ^ p.val }) := by
  rw [runPartnerVoteLapse, State.pwMod, h]
  rfl

theorem holdoffExpiry_expires {s : State} {d : Fin 4} (hs : s.pw.sleep = 0) (he : s.pw.entry = 0) (hup : s.domainUp d = true)
    (hw : s.wanted.testBit d = false) :
    runHoldoffExpiry d s = .next (s.pwMod fun x => { x with expired := x.expired ||| 2 ^ d.val }).dropChain :=
  if_pos ⟨(awake_iff s).2 ⟨hs, he⟩, hup, by simp [hw]⟩

theorem holdoffExpiry_idle {s : State} {d : Fin 4}
    (h : s.pw.sleep ≠ 0 ∨ s.pw.entry ≠ 0 ∨ s.domainUp d = false ∨ s.wanted.testBit d = true) : runHoldoffExpiry d s = .next s := by
  refine if_neg ?_
  rintro ⟨hawake, hup, hw⟩
  obtain ⟨hs, he⟩ := (awake_iff s).1 hawake
  rcases h with h | h | h | h
  · exact h hs
  · exact h he
  · simp [h] at hup
  · simp [h] at hw

/-! ### Power-good (R78, R84–R86, R176). -/

/-- A domain that may rise is up, and the rise of PD_MEAS runs the calibration a wake has asked for. -/
theorem domainPowerGood_rises {s : State} {d : Fin 4} (hs : s.pw.sleep = 0) (he : s.pw.entry = 0) (hdown : s.domainUp d = false)
    (hv : s.wanted.testBit d = true ∨ s.pw.rising.testBit d = true) (hmain : s.domainUp 0 = true) (hmeas : d = 3 → s.domainUp 1 = true)
    (hdram : d ≠ 2 → s.domainUp 2 = true ∨ (s.wanted.testBit 2 = false ∧ s.pw.rising.testBit 2 = false)) (hd : d ≠ 0) {o : State}
    (ho : o = ((s.putBit Obj.DOMAIN_STATUS d true).count Obj.TRANSITIONS 32).pwMod fun x =>
      { x with rising := if x.rising.testBit d then x.rising - 2 ^ d.val else x.rising }) :
    runDomainPowerGood d s =
      .next (if d.val = 1 ∧ s.pw.recalDue = true then { o.calBegin with pw.recal := false, pw.recalDue := false } else o).dropChain := by
  subst ho
  refine if_pos ⟨(awake_iff s).2 ⟨hs, he⟩, by simp [hdown], hv, ?_⟩
  have above : (d.val != 3 || s.domainUp 1) = true := by
    by_cases h3 : d = 3
    · simp [hmeas h3]
    · have : d.val ≠ 3 := Fin.val_ne_of_ne h3
      simp [this]
  have dram : (d.val == 2 || (s.domainUp 2 || !(s.wanted.testBit 2 || s.pw.rising.testBit 2))) = true := by
    by_cases h2 : d = 2
    · simp [h2]
    · rcases hdram h2 with h | ⟨hw, hr⟩
      · simp [h]
      · simp [hw, hr]
  rw [above, dram, hmain]
  simpa using Fin.val_ne_of_ne hd

/-- A domain stays down while a domain it needs is missing or on its way. -/
theorem domainPowerGood_idle {s : State} {d : Fin 4}
    (h : s.domainUp d = true ∨ (s.wanted.testBit d = false ∧ s.pw.rising.testBit d = false) ∨ d = 0 ∨ s.domainUp 0 = false ∨
      (d = 3 ∧ s.domainUp 1 = false) ∨ (d ≠ 2 ∧ s.domainUp 2 = false ∧ (s.wanted.testBit 2 = true ∨ s.pw.rising.testBit 2 = true))) :
    runDomainPowerGood d s = .next s := by
  refine if_neg ?_
  rintro ⟨-, hdown, hv, hneed⟩
  rcases h with h | ⟨hw, hr⟩ | rfl | h | ⟨rfl, h⟩ | ⟨h2, hdram, h⟩
  · simp [h] at hdown
  · simp [hw, hr] at hv
  · simp at hneed
  · simp [h] at hneed
  · simp [h] at hneed
  · have : d.val ≠ 2 := Fin.val_ne_of_ne h2
    rcases h with h | h <;> simp [this, hdram, h] at hneed

/-! ### The end of DOZE (R84, R87, R114). -/

/-- The entries that DOZE's keep region holds. -/
def inKeepRegion (key : Nat) : Bool :=
  match rowOf key with
  | some r => r.persist == .keepRegion
  | none => false

/-- A key that a choice by keys keeps reads as before. -/
theorem get_filter_kept {β : Type} [DecidableEq β] (d : Nat → β) (l : Sparse β) (drop : Nat → Bool) {k : Nat} (h : drop k = false) :
    Sparse.get d (l.filter fun e => !drop e.1) k = Sparse.get d l k := by
  have found : Sparse.find (l.filter fun e => !drop e.1) k = Sparse.find l k := by
    induction l with
    | nil => rfl
    | cons e l ih =>
      by_cases he : e.1 = k
      · simp [find_cons, he, h]
      · cases hd : drop e.1 <;> simp [hd, find_cons, he, ih]
  rw [Sparse.get, found, Sparse.get]

theorem clearVotes_nodes (s : State) (keep : Bool) : (s.clearVotes keep).nodes = s.nodes := by
  unfold State.clearVotes
  exact each_keeps (g := State.nodes) (by intros; rfl) 5 s
theorem clearVotes_ch (s : State) (keep : Bool) : (s.clearVotes keep).ch = s.ch := by
  unfold State.clearVotes
  exact each_keeps (g := State.ch) (by intros; rfl) 5 s

/-- A lane whose keep region has lost its supply. -/
def dozeEnded (s : State) : State :=
  let t := ((s.clearVotes false).putN Obj.RECOVERY_COUNT 0).transition
  ({ t with dict := t.dict.filter fun e => !inKeepRegion e.1 } : State).pwMod fun x => { x with sleep := 2 }

theorem dozeMaxExpiry_ends {s : State} (hs : s.pw.sleep = 1) (hm : s.n Obj.DOZE_MAX ≠ 0) : runDozeMaxExpiry s = .next (dozeEnded s) :=
  if_pos ⟨hs, (on_iff ..).2 hm⟩

theorem dozeMaxExpiry_idle {s : State} (h : s.pw.sleep ≠ 1 ∨ s.n Obj.DOZE_MAX = 0) : runDozeMaxExpiry s = .next s := by
  refine if_neg ?_
  rintro ⟨hs, hm⟩
  rcases h with h | h
  · exact h hs
  · exact (on_iff ..).1 hm h

theorem dozeEnded_get_lost (s : State) {key : Nat} {r : ObjRow} (hr : rowOf key = some r) (hk : r.persist = .keepRegion) :
    (dozeEnded s).get key = defaultOf key :=
  get_filter_dropped defaultOf _ inKeepRegion (by simp [inKeepRegion, hr, hk])

theorem dozeEnded_recoveryCount (s : State) : (dozeEnded s).nat Obj.RECOVERY_COUNT = 0 := by
  have kept : (dozeEnded s).get Obj.RECOVERY_COUNT = .num 0 :=
    (get_filter_kept defaultOf _ inKeepRegion (by decide)).trans ((get_putN_ne _ _ (by decide)).trans (get_put_self ..))
  simp [State.nat, State.n, kept]

theorem dozeEnded_sleep (s : State) : (dozeEnded s).pw.sleep = 2 := rfl
theorem dozeEnded_nodes (s : State) : (dozeEnded s).nodes = s.nodes := by
  simp only [dozeEnded, State.pwMod, State.transition, count_nodes, putN_nodes, clearVotes_nodes]
theorem dozeEnded_ch (s : State) : (dozeEnded s).ch = s.ch := by
  simp only [dozeEnded, State.pwMod, State.transition, count_ch, putN_ch, clearVotes_ch]

/-- Settles O27: each command's run, under the condition that lets it do something and under its negation. -/
theorem votesAndDomains : Obligations.VotesAndDomains := by
  intro s
  refine ⟨fun client mask => ⟨fun h => ?_, fun h => ?_⟩,
    fun d => ⟨fun hs he hup hw => ?_, fun h => ?_, fun hs he hdown hv hmain hmeas hdram hd => ⟨fun h1 hr => ?_, fun h => ?_⟩, fun h => ?_⟩,
    fun h => ?_, fun h => ?_, fun he hp => ?_, fun h => ?_,
    fun hs hm => ⟨dozeEnded s, ?_, dozeEnded_sleep s, ?_, fun key r hr hk => ?_, dozeEnded_nodes s, dozeEnded_ch s⟩,
    fun h => ?_, ?_, fun p => ⟨fun h => ?_, fun h => ?_⟩, fun p => ⟨fun h => ?_, fun h => ?_⟩⟩
  · exact .of_run (exec_voteChange ..) (congrArg Host.Outcome.next (if_pos h))
  · exact .of_run (exec_voteChange ..) (congrArg Host.Outcome.next (if_neg h))
  · exact .of_run (exec_holdoffExpiry ..) (holdoffExpiry_expires hs he hup hw)
  · exact .of_run (exec_holdoffExpiry ..) (holdoffExpiry_idle h)
  · refine .of_run (exec_domainPowerGood ..) ((domainPowerGood_rises hs he hdown hv hmain hmeas hdram hd rfl).trans ?_)
    rw [if_pos ⟨congrArg Fin.val h1, hr⟩]
  · refine .of_run (exec_domainPowerGood ..) ((domainPowerGood_rises hs he hdown hv hmain hmeas hdram hd rfl).trans ?_)
    rw [if_neg]
    rintro ⟨h1, hr⟩
    rcases h with h | h
    · exact h (Fin.ext h1)
    · simp [h] at hr
  · exact .of_run (exec_domainPowerGood ..) (domainPowerGood_idle h)
  · exact .of_run (exec_dozeCommit s) (if_pos h)
  · exact .of_run (exec_dozeCommit s) (if_neg h)
  · exact .of_run (exec_parkedCommit s) (if_pos ⟨he, hp⟩)
  · exact .of_run (exec_parkedCommit s) (if_neg fun ⟨he, hp⟩ => h.elim (· he) (· hp))
  · exact .of_run (exec_dozeMaxExpiry s) (dozeMaxExpiry_ends hs hm)
  · exact dozeEnded_recoveryCount s
  · exact dozeEnded_get_lost s hr hk
  · exact .of_run (exec_dozeMaxExpiry s) (dozeMaxExpiry_idle h)
  · exact .of_run (exec_wakeLingerExpiry s) rfl
  · exact .of_run (exec_portActivityLapse ..) (portActivityLapse_active h)
  · exact .of_run (exec_portActivityLapse ..) (portActivityLapse_quiet h)
  · exact .of_run (exec_partnerVoteLapse ..) (partnerVoteLapse_held h)
  · exact .of_run (exec_partnerVoteLapse ..) (partnerVoteLapse_none h)

end Sys2Proof.Laws
end

section
/-!
PROOFS. What a wake does in each state, and which sources wake (R62, R85–R94).
-/
namespace Sys2Proof.Laws
open Sys2Proof.Machine

/-! ### The record of a wake (R94). -/

theorem get_aonTo (s : State) (tick : Nat) {k : Nat} (h : k ≠ Obj.AON_SECONDS) : (s.aonTo tick).get k = s.get k := get_putN_ne s _ h
theorem get_count_ne (s : State) {j k : Nat} (bits : Nat) (h : j ≠ k) : (s.count k bits).get j = s.get j := get_putN_ne s _ h

theorem nat_of_get {s : State} {k n : Nat} (h : s.get k = .num n) : s.nat k = n := by simp [State.nat, State.n, h]

/-- The record's entries as they are written, before its count is looked at for a wrap. -/
def wakeNoted (s : State) (code : Nat) (w : WakeAt) : State :=
  let known : Bool := s.pw.sleep == 0 && s.clk.joined
  let t := ((s.putN Obj.WAKE_CODE code).putN Obj.WAKE_SOURCES (2 ^ code : Nat)).putN Obj.WAKE_TICK (w.tick % 2 ^ 32 : Nat)
  let t := (t.putN Obj.WAKE_GLOBAL_TIME (if known then w.now % 2 ^ 64 else 2 ^ 64 - 1 : Nat)).putN Obj.WAKE_TIME_STATUS (b2n known)
  (t.count Obj.WAKE_COUNT 32).aonTo w.tick

section
variable (s : State) (code : Nat) (w : WakeAt)

theorem wakeRecord_get {k : Nat} (h : k ≠ Obj.WAKE_COUNT_WRAPS) : (s.wakeRecord code w).get k = (wakeNoted s code w).get k :=
  when_keeps (g := fun t => t.get k) (get_count_ne _ _ h) _

theorem wakeRecord_entry : (s.wakeRecord code w).pw.entry = s.pw.entry :=
  when_keeps (g := fun t => t.pw.entry) (s := wakeNoted s code w) rfl _

theorem wakeRecord_wokeTick : (s.wakeRecord code w).pw.wokeTick = some w.tick := rfl

theorem wakeRecord_code : (s.wakeRecord code w).nat Obj.WAKE_CODE = code :=
  nat_of_get (by simp (decide := true) [wakeRecord_get, wakeNoted, get_aonTo, get_count_ne, get_putN])

theorem wakeRecord_sources : (s.wakeRecord code w).nat Obj.WAKE_SOURCES = 2 ^ code :=
  nat_of_get (by simp (decide := true) [wakeRecord_get, wakeNoted, get_aonTo, get_count_ne, get_putN])

theorem wakeRecord_tick : (s.wakeRecord code w).nat Obj.WAKE_TICK = w.tick % 2 ^ 32 :=
  nat_of_get (by simp (decide := true) [wakeRecord_get, wakeNoted, get_aonTo, get_count_ne, get_putN])

theorem wakeRecord_count : (s.wakeRecord code w).n Obj.WAKE_COUNT = (s.n Obj.WAKE_COUNT + 1) % 2 ^ 32 := by
  simp (decide := true) [State.n, wakeRecord_get, wakeNoted, get_aonTo, State.count, get_putN]

end

/-! ### What a wake does (R62, R85–R88). -/

section
variable {s : State} {code : Nat} {w : WakeAt}

theorem wake_join (h : s.sameTick w.tick = true) : s.wake code w = s.wakeJoin code := if_pos h

variable (h : s.sameTick w.tick = false)
include h

theorem wake_doze (hs : s.pw.sleep = 1) : s.wake code w = (s.wakeRecord code w).resetTo 6 w.tick :=
  (if_neg (by simp [h])).trans (if_pos hs)

/-- R88: in PARKED the first wake starts the exit, and while that waits for VBAT no other does anything (log 201, a choice of the design). -/
theorem wake_parked (hs : s.pw.sleep = 2) :
    s.wake code w = if s.pw.waking then s else (s.wakeRecord code w).parkedExit w :=
  (if_neg (by simp [h])).trans ((if_neg (by simp [hs])).trans (if_pos hs))

/-- R62: an awake lane without VBAT waits for it from its first wake on; a further wake does nothing (log 201). -/
theorem wake_unpowered (hs : s.pw.sleep = 0) (hv : s.supplyPresent 0 = false) : s.wake code w =
    if s.pw.waking then s else (s.wakeRecord code w).pwMod fun x => { x with waking := true, vbatWait := true } :=
  (if_neg (by simp [h])).trans ((if_neg (by simp [hs])).trans ((if_neg (by simp [hs])).trans (if_pos (by simp [hv]))))

theorem wake_awake (hs : s.pw.sleep = 0) (hv : s.supplyPresent 0 = true) (he : s.pw.entry = 0) : s.wake code w = s :=
  (if_neg (by simp [h])).trans ((if_neg (by simp [hs])).trans ((if_neg (by simp [hs])).trans ((if_neg (by simp [hv])).trans (if_pos he))))

/-- R85: a wake in an entry ends it, as the state it leads to and its step say. -/
theorem wake_entry (hs : s.pw.sleep = 0) (hv : s.supplyPresent 0 = true) (he : s.pw.entry ≠ 0) {o : State}
    (ho : o = (s.wakeRecord code w).count Obj.ENTRIES_ABORTED 32) :
    s.wake code w = if s.pw.entry = 2 then o.parkedAbort w else if w.step.val < 4 then o.dozeAbort else o.resetTo 6 w.tick := by
  have kept : ((s.wakeRecord code w).count Obj.ENTRIES_ABORTED 32).pw.entry = s.pw.entry := wakeRecord_entry s code w
  rw [← kept, ho]
  exact (if_neg (by simp [h])).trans ((if_neg (by simp [hs])).trans ((if_neg (by simp [hs])).trans
    ((if_neg (by simp [hv])).trans (if_neg he))))

end

/-! ### KEY and WAKE (R76, R90, R93, R99). -/

theorem when_zero {n : Nat} (t : State) (f : State → State) (h : n = 0) : t.when (n == 0) f = f t := if_pos (by simp [h])
theorem when_nonzero {n : Nat} (t : State) (f : State → State) (h : n ≠ 0) : t.when (n == 0) f = t := if_neg (by simp [h])

theorem keyChange_wakes {s : State} {w : WakeAt} (hk : s.pw.key = false) (hw : s.wakes w true = true) :
    runKeyChange true w s = .next ((s.pwMod fun x => { x with key := true }).wake 1 w) := by
  have rises : ((true && !s.pw.key) && s.wakes w true) = true := by simp [hk, hw]
  exact if_pos rises

/-- R76: a level of KEY that wakes nothing may be a vote that arrives, which cancels a running hold-off. -/
theorem keyChange_high {s : State} {w : WakeAt} (h : s.pw.key = true ∨ s.wakes w true = false) :
    runKeyChange true w s = .next ((s.pwMod fun x => { x with key := true }).when (s.pw.sleep == 0) (·.holdoffCancel)) := by
  have stays : ¬((true && !s.pw.key) && s.wakes w true) = true := by rcases h with h | h <;> simp [h]
  exact if_neg stays

theorem keyChange_low (s : State) (w : WakeAt) : runKeyChange false w s =
    .next (((s.pwMod fun x => { x with key := false }).putN Obj.RECOVERY_COUNT 0).when (s.pw.sleep == 0) (·.holdoffCancel)) := rfl

/-- R93: an edge of WAKE is the configured one, or either is. -/
theorem wakeEdge_iff (e : Nat) (rising : Bool) :
    (e = 2 ∨ (e = 0 ∧ rising = true) ∨ (e = 1 ∧ (!rising) = true)) ↔ (e = 2 ∨ e = if rising then 0 else 1) := by
  cases rising <;> simp

/-! ### Ports A and B (R91, R92). -/

section
variable {s : State} {p : Fin 2} {f : CueFrame} {w : WakeAt}

theorem cueFrame_unseen (h : s.wakeMode p ≠ 3 ∨ f.foreign = true ∨ (s.wakeFrom w ≠ 1 ∧ s.wakeFrom w ≠ 3)) :
    runCueFrame p f w s = .next s := by
  refine if_pos ?_
  rcases h with h | h | ⟨h1, h3⟩
  · exact .inl h
  · exact .inr (.inl h)
  · exact .inr (.inr (by simp [h1, h3]))

variable (hm : s.wakeMode p = 3) (hf : f.foreign = false) (hw : s.wakeFrom w = 1 ∨ s.wakeFrom w = 3)
include hm hf hw

theorem cueFrame_seen : ¬(s.wakeMode p ≠ 3 ∨ f.foreign = true ∨ (!(s.wakeFrom w == 1 || s.wakeFrom w == 3)) = true) := by
  rcases hw with hw | hw <;> simp [hm, hf, hw]

theorem cueFrame_good {o : State} (ho : o = s.pwMod fun x => { x with cueErrors := vmod x.cueErrors p (· - 1) }) (hg : f.good = true) :
    runCueFrame p f w s = .next (if s.cueMatches f then o.wake (3 + p) w else o) := by
  subst ho
  exact (if_neg (cueFrame_seen hm hf hw)).trans (if_pos hg)

/-- R92: the 32nd decoding error wakes. -/
theorem cueFrame_bad {o : State} (ho : o = s.pwMod fun x => { x with cueErrors := vmod x.cueErrors p (· + 1) }) (hg : f.good = false) :
    runCueFrame p f w s = .next (if 31 ≤ vget s.pw.cueErrors p then o.wake (5 + p) w else o) := by
  have counted : vget o.pw.cueErrors p = vget s.pw.cueErrors p + 1 := by
    rw [ho]
    exact vget_vset_self ..
  have reached : 32 ≤ vget o.pw.cueErrors p ↔ 31 ≤ vget s.pw.cueErrors p := by omega
  rw [← if_congr reached rfl rfl]
  subst ho
  exact (if_neg (cueFrame_seen hm hf hw)).trans (if_neg (by simp [hg]))

end

theorem wakeUpPattern_idle {s : State} {p : Fin 2} {w : WakeAt}
    (h : s.wakes w true = false ∨ (s.wakeMode p ≠ 2 ∧ (s.wakeMode p ≠ 3 ∨ s.wakeFrom w = 1))) : runWakeUpPattern p w s = .next s := by
  refine if_neg ?_
  rintro ⟨hw, hmode⟩
  rcases h with h | ⟨h2, h3⟩
  · simp [h] at hw
  · tauto

theorem dominantActivity_idle {s : State} {p : Fin 2} {w : WakeAt} {width : Nat} {taken : Bool}
    (h : s.wakes w true = false ∨ s.wakeMode p ≠ 1 ∨ width < 500 ∨ (width < 1000 ∧ taken = false)) :
    runDominantActivity p width taken w s = .next s := by
  refine if_neg ?_
  rintro ⟨hw, hmode, hwidth⟩
  rcases h with h | h | h | ⟨h, ht⟩
  · simp [h] at hw
  · exact h hmode
  · omega
  · simp [ht] at hwidth
    omega

/-! ### The timer and the stream clock (R90, R93). -/

theorem aonTimerWake_idle {s : State} {w : WakeAt} (h : s.wakes w false = false ∨ s.n Obj.TIMER_WAKE = 0) :
    runAonTimerWake w s = .next s := by
  refine if_neg ?_
  rintro ⟨hw, hon⟩
  rcases h with h | h
  · simp [h] at hw
  · exact (on_iff ..).1 hon h

theorem streamSignalDetect_idle {s : State} {w : WakeAt} (h : s.wakeFrom w ≠ 1 ∨ s.n Obj.STREAM_WAKE = 0) :
    runStreamSignalDetect w s = .next s := by
  refine if_neg ?_
  rintro ⟨hw, hon⟩
  rcases h with h | h
  · exact h hw
  · exact (on_iff ..).1 hon h

/-! ### VBAT (R62, R88). -/

/-- R62: VBAT returns to an awake lane as to a sleeping one; only a wake that waits for it starts the lane. -/
theorem vbatArrival_eq (s : State) (tick : Nat) {o : State} (ho : o = (s.supplyLow 0 false).aonTo tick) :
    runVbatArrival tick s = .next (if s.pw.vbatWait = true then
      (if s.pw.sleep = 0 then o.pwMod fun x => { x with vbatWait := false } else { o.resetTo 7 tick with pw.waking := true }) else o) := by
  subst ho
  cases h : s.pw.vbatWait
  · exact congrArg Host.Outcome.next (if_pos (show (!s.pw.vbatWait) = true by simp [h]))
  · exact congrArg Host.Outcome.next (if_neg (show ¬(!s.pw.vbatWait) = true by simp [h]))

theorem vbatWaitTimeout_idle {s : State} (h : s.pw.vbatWait = false ∨ s.supplyPresent 0 = true) : runVbatWaitTimeout s = .next s := by
  refine congrArg Host.Outcome.next (if_neg ?_)
  rintro ⟨hwait, hv⟩
  rcases h with h | h
  · simp [h] at hwait
  · simp [h] at hv

/-- Settles O28: the wake by the state it meets, then the sources one by one. -/
theorem wakesWakeTheLane : Obligations.WakesWakeTheLane := by
  refine ⟨fun s code w => ⟨wake_join, fun h => ⟨wake_doze h, fun hs hw => ?_, fun hs hw => ?_, fun hs hv hw => ?_, fun hs hv hw => ?_,
      wake_awake h, fun hs hv he hstep => ?_, fun hs hv he hstep => ?_, fun hs hv he => ?_⟩, wakeRecord_code .., wakeRecord_sources ..,
      wakeRecord_tick .., wakeRecord_wokeTick .., wakeRecord_count ..⟩,
    fun s w => ⟨fun hk hw => ?_, fun h => ⟨fun hs => ?_, fun hs => ?_⟩, fun hs => ?_, fun hs => ?_,
      fun rising => ⟨fun hw hedge => ?_, fun h => ?_⟩,
      fun p f => ⟨fun hm hf hw => ⟨fun hg => ⟨fun hc => ?_, fun hc => ?_⟩, fun hg => ⟨fun he => ?_, fun he => ?_⟩⟩, fun h => ?_⟩,
      fun p => ⟨fun hw hm => ?_, fun h => ?_, fun width taken => ⟨fun hw hm hwidth => ?_, fun h => ?_⟩⟩,
      fun hw hon => ?_, fun h => ?_, fun hw hon => ?_, fun h => ?_,
      fun tick => ⟨fun hwait hs => ?_, fun hwait hs => ?_, fun hwait => ?_⟩, fun hwait hv => ?_, fun h => ?_⟩⟩
  · rw [wake_parked h hs, if_neg (by simp [hw])]
  · rw [wake_parked h hs, if_pos hw]
  · rw [wake_unpowered h hs hv, if_pos hw]
  · rw [wake_unpowered h hs hv, if_neg (by simp [hw])]
  · rw [wake_entry h hs hv (by omega) rfl, if_neg (by omega), if_pos hstep]
  · rw [wake_entry h hs hv (by omega) rfl, if_neg (by omega), if_neg (by omega)]
  · rw [wake_entry h hs hv (by omega) rfl, if_pos he]
  · exact .of_run (exec_keyChange ..) (keyChange_wakes hk hw)
  · exact .of_run (exec_keyChange ..) ((keyChange_high h).trans (by rw [when_zero _ _ hs]))
  · exact .of_run (exec_keyChange ..) ((keyChange_high h).trans (by rw [when_nonzero _ _ hs]))
  · exact .of_run (exec_keyChange ..) ((keyChange_low s w).trans (by rw [when_zero _ _ hs]))
  · exact .of_run (exec_keyChange ..) ((keyChange_low s w).trans (by rw [when_nonzero _ _ hs]))
  · exact .of_run (exec_wakePinEdge ..) (if_pos ⟨(wakeEdge_iff _ rising).2 hedge, hw⟩)
  · refine .of_run (exec_wakePinEdge ..) (if_neg fun ⟨hedge, hw⟩ => ?_)
    rcases h with h | ⟨h2, hother⟩
    · simp [h] at hw
    · exact ((wakeEdge_iff _ rising).1 hedge).elim h2 hother
  · exact .of_run (exec_cueFrame ..) ((cueFrame_good hm hf hw rfl hg).trans (by rw [if_pos hc]))
  · exact .of_run (exec_cueFrame ..) ((cueFrame_good hm hf hw rfl hg).trans (by rw [if_neg (by simp [hc])]))
  · exact .of_run (exec_cueFrame ..) ((cueFrame_bad hm hf hw rfl hg).trans (by rw [if_pos he]))
  · exact .of_run (exec_cueFrame ..) ((cueFrame_bad hm hf hw rfl hg).trans (by rw [if_neg (by omega)]))
  · exact .of_run (exec_cueFrame ..) (cueFrame_unseen h)
  · exact .of_run (exec_wakeUpPattern ..) (if_pos ⟨hw, hm⟩)
  · exact .of_run (exec_wakeUpPattern ..) (wakeUpPattern_idle h)
  · exact .of_run (exec_dominantActivity ..) (if_pos ⟨hw, hm, hwidth⟩)
  · exact .of_run (exec_dominantActivity ..) (dominantActivity_idle h)
  · exact .of_run (exec_aonTimerWake ..) (if_pos ⟨hw, (on_iff ..).2 hon⟩)
  · exact .of_run (exec_aonTimerWake ..) (aonTimerWake_idle h)
  · exact .of_run (exec_streamSignalDetect ..) (if_pos ⟨hw, (on_iff ..).2 hon⟩)
  · exact .of_run (exec_streamSignalDetect ..) (streamSignalDetect_idle h)
  · exact .of_run (exec_vbatArrival ..) ((vbatArrival_eq s tick rfl).trans (by rw [if_pos hwait, if_pos hs]))
  · exact .of_run (exec_vbatArrival ..) ((vbatArrival_eq s tick rfl).trans (by rw [if_pos hwait, if_neg hs]))
  · exact .of_run (exec_vbatArrival ..) ((vbatArrival_eq s tick rfl).trans (by rw [if_neg (by simp [hwait])]))
  · exact .of_run (exec_vbatWaitTimeout s) (congrArg Host.Outcome.next (if_pos ⟨hwait, by simp [hv]⟩))
  · exact .of_run (exec_vbatWaitTimeout s) (vbatWaitTimeout_idle h)

end Sys2Proof.Laws
end

section
/-!
PROOFS. Writes of the keeper's own entries (R100, R111, R115, R139, R173, R181).
-/
namespace Sys2Proof.Laws
open Sys2Proof.Machine

/-! ### Session keys (R139). -/

/-- R139: 16 bytes stand as a session key whatever they are, in a COMMISSION session. -/
theorem writeJudge_key {s : State} {w : Writer} (k : Fin 3) {bytes : List Byte} (hw : MayWrite s w 3) (hb : bytes.length = 16) :
    ∃ r, s.writeJudge w.client (Obj.KEY_SERVICE + k) bytes = .ok (r, .oct bytes) ∧ r.acc = .wo ∧ r.persist = .stored := by
  obtain ⟨r, hrow, htype, hacc, hpersist, hlevel, -⟩ := rowIs_some (row_keys k)
  have hnamed : namedLevel (Obj.KEY_SERVICE + k) bytes = 3 := by fin_cases k <;> rfl
  have hneed : ¬ s.level w.client < max (writeNeed r) (namedLevel (Obj.KEY_SERVICE + k) bytes) := by
    have := hw.2
    rw [hnamed, writeNeed, if_pos hlevel]
    omega
  have hlimits : tableJudge (Obj.KEY_SERVICE + k) bytes = 0 := by fin_cases k <;> rfl
  refine ⟨r, ?_, hacc, hpersist⟩
  simp [State.writeJudge, hrow, hacc, hneed, hpersist, htype, Ty.decode, hb, valueJudge, hlimits]

theorem depends_key (s : State) (k : Fin 3) (v : Val) : s.depends (Obj.KEY_SERVICE + k) v = 0 := by fin_cases k <;> rfl

theorem effect_key (k : Fin 3) (s : State) (w : Writer) (r : ObjRow) (v : Val) :
    (s.effect w r (Obj.KEY_SERVICE + k) v).1 = s.keyWrite k v := by fin_cases k <;> rfl

theorem keyEntryWrite_stands {s : State} {w : Writer} (k : Fin 3) {bytes : List Byte} (hw : MayWrite s w 3) (hb : bytes.length = 16) :
    runKeyEntryWrite w k bytes s = .next (s.keyWrite k (.oct bytes)) := by
  obtain ⟨r, hjudge, hacc, hpersist⟩ := writeJudge_key k hw hb
  rw [runKeyEntryWrite, State.clientWrite, if_pos hw.1, State.dictWrite, hjudge]
  simp only [hacc, hpersist, depends_key, reduceCtorEq, false_and, if_false, ne_eq, not_true_eq_false, effect_key]

/-! ### Reset and slots (R100, R111). -/

theorem resetRequest_stands {s : State} {w : Writer} (hw : MayWrite s w 1) : runResetRequest w s = .next (s.keeperReset w.tick) := by
  obtain ⟨r, -, -, h⟩ := write_stands (bytes := [0x5A]) hw row_resetRequest (by decide) (.inl rfl) (by decide) rfl (by decide) rfl
  exact h.trans (congrArg _ (effect_resetRequest ..))

theorem slotPreferredWrite_stands {s : State} {w : Writer} {slot : Byte} (hw : MayWrite s w 1) (hs : slot.toNat ≤ 1) :
    runSlotPreferredWrite w slot s = .next (s.slotPrefer slot.toNat) := by
  have hv : (Chk.set [0, 1]).judge (slot.toNat : Int) = none := by
    obtain h | h : slot.toNat = 0 ∨ slot.toNat = 1 := by omega
    all_goals rw [h]; rfl
  obtain ⟨r, -, -, h⟩ := write_stands (bytes := [slot]) (x := (slot.toNat : Int)) hw row_slotPreferred le_rfl (.inr (.inl rfl))
    (by decide) (by simp [Ty.decode, leNat]) hv rfl
  exact h.trans (congrArg _ (effect_slotPreferred ..))

theorem slotConfirm_stands {s : State} {w : Writer} (hw : MayWrite s w 1) : runSlotConfirm w s = .next (s.orReject s.slotConfirm).1 := by
  obtain ⟨r, -, -, h⟩ := write_stands (bytes := [0xA5]) hw row_slotConfirm (by decide) (.inl rfl) (by decide) rfl (by decide) rfl
  exact h.trans (congrArg _ (effect_slotConfirm ..))

/-- R111: the preference leaves the states of the slots. -/
theorem slotState_preferred (s : State) (k : Nat) (v : Val) : (s.putStored Obj.SLOT_PREFERRED v).slotState k = s.slotState k := by
  have other : slotStateKey k ≠ Obj.SLOT_PREFERRED := by unfold slotStateKey; split <;> decide
  simp only [State.slotState, State.nat, State.n, State.putStored, get_put_ne _ _ other]
  rfl

theorem slotPrefer_loaded {s : State} {k : Nat} (h : s.slotState k = 1) :
    s.slotPrefer k = (s.putStored Obj.SLOT_PREFERRED (.nat k)).putStored (slotStateKey k) (.nat 2) :=
  if_pos ((slotState_preferred ..).trans h)
theorem slotPrefer_unloaded {s : State} {k : Nat} (h : s.slotState k ≠ 1) : s.slotPrefer k = s.putStored Obj.SLOT_PREFERRED (.nat k) :=
  if_neg (by rwa [slotState_preferred])

theorem slotConfirm_trial {s : State} (h : s.slotState (s.nat Obj.SLOT_ACTIVE) = 2) : s.slotConfirm =
    .ok ((s.putStored (slotStateKey (s.nat Obj.SLOT_ACTIVE)) (.nat 3)).putN Obj.FUSE_SECVER
      (max (s.nat Obj.FUSE_SECVER) (min 64 (s.nat (slotSecKey (s.nat Obj.SLOT_ACTIVE)))) : Nat)) := if_pos h
theorem slotConfirm_refused {s : State} (h : s.slotState (s.nat Obj.SLOT_ACTIVE) ≠ 2) : s.slotConfirm = .error 0x06060001 := if_neg h

/-! ### Calibration and sensor supplies (R173, R181). -/

theorem calStart_stands {s : State} {w : Writer} (hw : MayWrite s w 0) : runCalStart w s = .next (s.orReject s.calStart).1 := by
  obtain ⟨r, -, -, h⟩ := write_stands (bytes := [0xC5]) hw row_calStart (by decide) (.inl rfl) (by decide) rfl (by decide) rfl
  exact h.trans (congrArg _ (effect_calStart ..))

theorem supRestart_stands {s : State} {w : Writer} (hw : MayWrite s w 0) : runSupRestart w s = .next s.supRestart := by
  obtain ⟨r, -, -, h⟩ := write_stands (bytes := [0x5A]) hw row_supRestart (by decide) (.inl rfl) (by decide) rfl (by decide) rfl
  exact h.trans (congrArg _ (effect_supRestart ..))

/-- R173: nothing armed and no calibration running: one begins. -/
theorem calStart_begins {s : State} (ha : s.ch.armed = 0) (hc : s.ms.calRun = 0) : s.calStart = .ok s.calBegin := by
  simp [State.calStart, State.anyArmed, ha, hc]

/-- R173, R176: an armed output rejects a calibration, a running one is not started again. -/
theorem calStart_rests {s : State} (h : s.ch.armed ≠ 0 ∨ s.ms.calRun ≠ 0) : (s.orReject s.calStart).1 = s := by
  unfold State.calStart State.anyArmed
  split
  · rfl
  · next ha =>
    have hc : s.ms.calRun ≠ 0 := h.resolve_left (by simpa using ha)
    rw [if_pos (by simpa using hc)]
    rfl

/-- R173: what a calibration that begins sets, its spoiled windows and held tables apart. -/
theorem calBegin_begun (s : State) : { s.calBegin with ms := { s.calBegin.ms with spoiled := s.ms.spoiled, gc := s.ms.gc } } =
    { s.putN Obj.CAL_STATUS 1 with ms.calRun := 1, ms.calSet := List.range 38 } := by
  unfold State.calBegin
  generalize List.range 38 = l
  rfl

/-- R176: a calibration's scan tables are those that run when it begins. -/
theorem calBegin_table (s : State) {g : Nat} (hg : g < 4) : (vget s.calBegin.ms.gc g).table = s.gcTable g := by
  simp [State.calBegin, vget, hg, State.spoil, State.gcTable, State.oct, State.get, State.putN]

/-- Settles O16: the judgement lets each write stand, and what the entry does then follows from the state of its slot or calibration. -/
theorem keeperWrites : Obligations.KeeperWrites := by
  intro s w
  refine ⟨fun hw => ?_, fun slot hw hs => ⟨fun h => ?_, fun h => ?_⟩, fun hw => ⟨fun h => ?_, fun h => ?_⟩, fun k bytes hw hb => ?_,
    fun hw => ⟨fun ha hc => ⟨s.calBegin, ?_, calBegin_begun s, fun g => calBegin_table s⟩, fun h => ?_⟩, fun hw => ?_, fun key => ?_⟩
  · exact .of_run (exec_resetRequest ..) (resetRequest_stands hw)
  · exact .of_run (exec_slotPreferredWrite ..) (by rw [slotPreferredWrite_stands hw hs, slotPrefer_loaded h])
  · exact .of_run (exec_slotPreferredWrite ..) (by rw [slotPreferredWrite_stands hw hs, slotPrefer_unloaded h])
  · exact .of_run (exec_slotConfirm ..) (by rw [slotConfirm_stands hw, slotConfirm_trial h]; rfl)
  · exact .of_run (exec_slotConfirm ..) (by rw [slotConfirm_stands hw, slotConfirm_refused h]; rfl)
  · exact .of_run (exec_keyEntryWrite ..) (keyEntryWrite_stands k hw hb)
  · exact .of_run (exec_calStart ..) (by rw [calStart_stands hw, calStart_begins ha hc]; rfl)
  · exact .of_run (exec_calStart ..) (by rw [calStart_stands hw, calStart_rests h])
  · exact .of_run (exec_supRestart ..) (supRestart_stands hw)
  · exact .of_run (exec_storedWriteCommit ..) rfl

end Sys2Proof.Laws
end

section
/-!
PROOFS. The start sequence, background initialisation, the waits of step 10 and the shutdown self-test (R103, R106, R112, R118–R122, R363).
-/
namespace Sys2Proof.Laws
open Sys2Proof.Machine

/-! ### The start that is due (R103, R108). -/

theorem startReady_due {s : State} (hv : s.supplyPresent 0 = true) (hs : s.pw.sleep = 0) (hw : s.pw.vbatWait = false)
    (hb : s.ch.strapBad = false) (hn : s.nat Obj.STRAP_WORD ≠ 0) : s.startReady = s.st.due :=
  if_pos ⟨hv, hs, by simp [hw], by simp [hb], hn⟩

theorem startReady_none {s : State} (h : s.supplyPresent 0 = false ∨ s.pw.sleep ≠ 0 ∨ s.pw.vbatWait = true ∨ s.ch.strapBad = true ∨
    s.nat Obj.STRAP_WORD = 0 ∨ s.st.due = none) : s.startReady = none := by
  unfold State.startReady
  split
  · next ready =>
    obtain ⟨hv, hs, hw, hb, hn⟩ := ready
    rcases h with h | h | h | h | h | h
    · simp [h] at hv
    · exact absurd hs h
    · simp [h] at hw
    · simp [h] at hb
    · exact absurd h hn
    · exact h
  · rfl

theorem startSequence_runs {s : State} {kind : Nat} (x : StartInput) (h : s.startReady = some kind) : runStartSequence x s =
    .next ({ s.startRun kind x with clk := { (s.startRun kind x).clk with now := (s.startRun kind x).clk.now + 100 * x.micros } }.elapse
      (100 * x.micros)) := by
  rw [runStartSequence, h]

theorem startSequence_rests {s : State} (x : StartInput) (h : s.startReady = none) : runStartSequence x s = .next s := by
  rw [runStartSequence, h]

/-- R108, R110: where neither slot's keeper image verifies, step 2 ends the start in fail-silence, by the keeper's test or by the recovery
loader. -/
theorem startTwo_fails (s : State) (kind : Nat) {x : StartInput} (ha : x.keeperA = false) (hb : x.keeperB = false) :
    ∃ t, s.startTwo kind x = .stop t ∧ t.col.failSilent = true := by
  have none_verifies (u : State) : (u.slotOrder.find? fun k => u.secverOk k && (if k = 0 then x.keeperA else x.keeperB)) = none := by
    simp [ha, hb]
  unfold State.startTwo
  dsimp only
  split
  · exact ⟨_, rfl, rfl⟩
  · rw [none_verifies]
    exact ⟨_, rfl, rfl⟩

theorem startRun_fails (s : State) (kind : Nat) {x : StartInput} (ha : x.keeperA = false) (hb : x.keeperB = false) :
    (s.startRun kind x).col.failSilent = true := by
  obtain ⟨t, stopped, silent⟩ := startTwo_fails (s.startOne kind) kind ha hb
  rw [State.startRun, stopped]
  exact silent

/-! ### Step 10 (R106, R363). -/

/-- R107: a lane whose wait for its partners is over; without a set, or kept from lead, it has settled as a follow. -/
def waitOver (s : State) : State :=
  if s.nat Obj.SIG_STATE = 0 ∨ s.st.noLead = true then { s with ld.waited := true, ld.settled := true } else { s with ld.waited := true }

theorem waitOver_eq (s : State) : ({ s with ld.waited := true } : State).when (s.nat Obj.SIG_STATE == 0 || s.st.noLead)
    (fun u => { u with ld.settled := true }) = waitOver s := by
  unfold waitOver
  split
  · next h => rw [show (s.nat Obj.SIG_STATE == 0 || s.st.noLead) = true by simpa using h]; rfl
  · next h => rw [show (s.nat Obj.SIG_STATE == 0 || s.st.noLead) = false by simpa using h]; rfl

/-- R363: without a card seen, a set that runs is joined, the lowest eligible lane issues, and every other lane waits its turn. -/
theorem partnerWait_open {s : State} (hstep : s.nat Obj.START_STEP = 9) (hcard : s.ld.card.any = false) :
    runStartPartnerWaitExpiry s = if (waitOver s).setRuns then .next (waitOver s)
      else if (waitOver s).eligible ∧ (waitOver s).lowerPresent = 0 then
        .next (((waitOver s).issueCard 0 (waitOver s).clk.now).getD (waitOver s))
      else .next { waitOver s with ld.electing := true, ld.wait := (waitOver s).lowerPresent } := by
  rw [← waitOver_eq]
  exact if_pos ⟨hstep, by simp [hcard]⟩

theorem partnerWait_closed {s : State} (h : s.nat Obj.START_STEP ≠ 9 ∨ s.ld.card.any = true) :
    runStartPartnerWaitExpiry s = .next { s with ld.waited := true } := by
  refine if_neg ?_
  rintro ⟨hstep, hcard⟩
  rcases h with h | h
  · exact h hstep
  · simp [h] at hcard

theorem cardRetry_electing {s o : State} (now : Nat) (h : s.ld.electing = true) (ho : o = { s with ld.wait := s.ld.wait - 1 }) :
    runStartCardRetry now s = if o.ld.wait = 0 ∧ o.eligible then .next ((o.issueCard 0 now).getD o) else .next o := by
  subst ho
  exact if_pos h

/-! ### The shutdown self-test (R118–R122). -/

/-- R118: the entry of the phase that ends is in the record. -/
def phaseNoted (s : State) (r : SstResult) : State :=
  let counted := sstCounted r s.st.phase
  s.put (Obj.SST_PHASE (s.st.phase - 1)) (.oct (s.phaseEntry
    (if s.st.phase == 2 && !s.st.restTwo then 3 else if counted.passed && coverageOk s.st.phase counted then 1 else 2) counted))

@[simp] theorem sstCounted_passed (r : SstResult) (p : Nat) : (sstCounted r p).passed = r.passed := by
  unfold sstCounted
  split <;> rfl

theorem phaseNoted_eq (s : State) (r : SstResult) : phaseNoted s r = s.put (Obj.SST_PHASE (s.st.phase - 1)) (.oct (s.phaseEntry
    (if s.st.phase = 2 ∧ s.st.restTwo = false then 3
      else if r.passed && coverageOk s.st.phase (sstCounted r s.st.phase) then 1 else 2) (sstCounted r s.st.phase))) := by
  simp [phaseNoted]

/-- R122: the units that a phase has found, as they are kept for the retirement. -/
def foundUnits (r : SstResult) : List (Nat × Nat) := r.units.map fun (x : Fin 11 × BitVec 32) => (x.1.val, x.2.toNat)

/-- R120, R122, R381: what ends with phase 5: LEAD_OUT and the watchdog are down, and the units found are kept. -/
def phaseFound (s : State) (r : SstResult) : State :=
  let t := if s.st.phase = 5 then { (phaseNoted s r).takeAbandon.leadDown with ch.wdg := false } else phaseNoted s r
  { t with st := { t.st with found := if s.st.phase = 5 then t.st.found ++ foundUnits (sstCounted r s.st.phase) else t.st.found } }

theorem phaseFound_five {s : State} (r : SstResult) (h : s.st.phase = 5) : phaseFound s r =
    { (phaseNoted s r).takeAbandon.leadDown with
      ch.wdg := false, st.found := (phaseNoted s r).takeAbandon.leadDown.st.found ++ foundUnits r } := by
  simp only [phaseFound, if_pos h]
  rw [h]
  rfl
theorem phaseFound_other {s : State} (r : SstResult) (h : s.st.phase ≠ 5) : phaseFound s r = phaseNoted s r := by
  simp only [phaseFound, if_neg h]

/-- R118: the next phase has begun, or after the sixth none. -/
def phaseNext (s : State) (r : SstResult) : State :=
  ({ phaseFound s r with ch.scanTest := s.st.phase == 5 }.phaseBegin (if s.st.phase = 6 then 0 else s.st.phase + 1)).ebUpdate

/-- R121: the record's verdict is in its status, and the fault log is committed. -/
def recordClosed (v : State) : State := { v with st.barred := v.st.barred && v.recordVerdict != 1 }.logCommit

theorem sstPhaseEnd_runs {s : State} (r : SstResult) (he : s.pw.entry = 2) (hp : 1 ≤ s.st.phase) : runSstPhaseEnd r s =
    .next (if s.st.phase = 6 then recordClosed ((phaseNext s r).putN Obj.SST_STATUS (phaseNext s r).recordVerdict) else phaseNext s r) :=
  if_pos ⟨he, by omega⟩

/-- R177: with full coverage of phase 1 no converter has strayed. -/
theorem linFailed_eq_zero {r : SstResult} (h : coverageOk 1 (sstCounted r 1) = true) : linFailed r.lin = 0 := by
  have few : linFailed r.lin ≤ 38 := (List.length_filter_le ..).trans (by simp)
  have counted : linFailed r.lin % 256 = 0 := by
    simpa [coverageOk, sstCounted] using (Bool.and_eq_true_iff.1 h).2
  omega

/-- Settles O29: each command's run, under the condition that lets it do something and under its negation. -/
theorem startAndSelfTest : Obligations.StartAndSelfTest := by
  intro s
  refine ⟨fun x kind hv hs hw hb hn hdue => ?_, fun x kind ha hb => startRun_fails s kind ha hb, fun x h => ?_, fun h => ?_, fun h => ?_,
    fun hstep hcard => ⟨fun hrun => ?_, fun hrun hel hlow => ?_, fun hrun h => ?_⟩, fun h => ?_,
    fun now => ⟨fun hel => ⟨fun hw he => ?_, fun h => ?_⟩, fun hel => ?_⟩,
    fun r => ⟨fun he hp => ⟨phaseNoted s r, phaseFound s r, phaseNext s r, phaseNoted_eq s r,
      fun h5 => ⟨foundUnits r, rfl, phaseFound_five r h5⟩, phaseFound_other r, rfl, fun h6 => ?_, fun h6 => ?_⟩, linFailed_eq_zero, fun h => ?_⟩⟩
  · exact .of_run (exec_startSequence ..) (startSequence_runs x ((startReady_due hv hs hw hb hn).trans hdue))
  · exact .of_run (exec_startSequence ..) (startSequence_rests x (startReady_none h))
  · exact .of_run (exec_backgroundInitDone s) (congrArg _ (if_pos h))
  · exact .of_run (exec_backgroundInitDone s) (congrArg _ (if_neg h))
  · exact .of_run (exec_startPartnerWaitExpiry s) ((partnerWait_open hstep hcard).trans (if_pos hrun))
  · exact .of_run (exec_startPartnerWaitExpiry s)
      ((partnerWait_open hstep hcard).trans ((if_neg (ne_true_of_eq_false hrun)).trans (if_pos ⟨hel, hlow⟩)))
  · refine .of_run (exec_startPartnerWaitExpiry s)
      ((partnerWait_open hstep hcard).trans ((if_neg (ne_true_of_eq_false hrun)).trans (if_neg ?_)))
    rintro ⟨hel, hlow⟩
    exact h.elim (fun h => ne_true_of_eq_false h hel) (fun h => h hlow)
  · exact .of_run (exec_startPartnerWaitExpiry s) (partnerWait_closed h)
  · exact .of_run (exec_startCardRetry ..) ((cardRetry_electing now hel rfl).trans (if_pos ⟨hw, he⟩))
  · refine .of_run (exec_startCardRetry ..) ((cardRetry_electing now hel rfl).trans (if_neg ?_))
    rintro ⟨hw, he⟩
    exact h.elim (fun h => h hw) (fun h => ne_true_of_eq_false h he)
  · exact .of_run (exec_startCardRetry ..) (if_neg (ne_true_of_eq_false hel))
  · exact .of_run (exec_sstPhaseEnd ..) ((sstPhaseEnd_runs r he hp).trans (congrArg _ (if_neg h6)))
  · exact .of_run (exec_sstPhaseEnd ..) ((sstPhaseEnd_runs r he hp).trans (congrArg _ (if_pos h6)))
  · exact .of_run (exec_sstPhaseEnd ..) (if_neg fun ⟨he, hp⟩ => h.elim (fun h => h he) hp)

end Sys2Proof.Laws
end

section
/-!
PROOFS. What taking the outputs and LEAD_OUT down before a reset leaves alone (R98, R114).
-/
namespace Sys2Proof.Laws
open Sys2Proof.Machine

/-- The entries that taking outputs and LEAD_OUT down may write: the count of dropped faults, the trace's and the axes' own. -/
def downKeys : List Nat :=
  [Obj.FAULT_DROPS, Obj.TRACE_STATE, Obj.TRACE_TRIG_TIME, Obj.TRACE_TRIG_CAUSE] ++ (List.range 6).map Obj.AX_STATE ++ (List.range 6).map Obj.AX_STATUS

/-- Every other entry, what waits for its commit, the memories, what waits in the queue and the cause of fail-silence stand. -/
structure TakenDown (s t : State) : Prop where
  get : ∀ k ∉ downKeys, t.get k = s.get k
  uncommitted : t.uncommitted = s.uncommitted
  me : t.me = s.me
  pending : t.pending = s.pending
  silentBy : t.col.silentBy = s.col.silentBy

theorem TakenDown.refl (s : State) : TakenDown s s := ⟨fun _ _ => rfl, rfl, rfl, rfl, rfl⟩
theorem TakenDown.trans {s t u : State} (h : TakenDown s t) (h' : TakenDown t u) : TakenDown s u :=
  ⟨fun k hk => (h'.get k hk).trans (h.get k hk), h'.uncommitted.trans h.uncommitted, h'.me.trans h.me, h'.pending.trans h.pending,
    h'.silentBy.trans h.silentBy⟩

theorem foldl_takenDown {β : Type} {f : State → β → State} (l : List β) (h : ∀ s, ∀ x ∈ l, TakenDown s (f s x)) (s : State) :
    TakenDown s (l.foldl f s) := by
  induction l generalizing s with
  | nil => exact TakenDown.refl s
  | cons x l ih =>
    exact (h s x List.mem_cons_self).trans (ih (fun s y hy => h s y (List.mem_cons_of_mem _ hy)) _)

theorem putN_takenDown (s : State) {k : Nat} (v : Int) (hk : k ∈ downKeys) : TakenDown s (s.putN k v) :=
  ⟨fun _ hj => get_putN_ne s v (ne_of_mem_of_not_mem hk hj).symm, rfl, rfl, rfl, rfl⟩

/-! ### Faults. -/

theorem enqueue_silentBy (s : State) (m : FaultMsg) : (s.enqueue m).col.silentBy = s.col.silentBy := by
  unfold State.enqueue
  split_ifs <;> rfl

theorem nextMsg_silentBy (s : State) (cls src kind qual : Nat) (d : Option Int) :
    (s.nextMsg cls src kind qual d).2.col.silentBy = s.col.silentBy := by cases d <;> rfl

theorem raise_takenDown (s : State) (src kind qual : Nat) (d : Option Int) : TakenDown s (s.raise src kind qual d) := by
  have told := raise_told s src kind qual d
  refine ⟨fun k hk => told.get k fun h => hk (h ▸ by decide), (congrArg State.uncommitted told.same :), (congrArg State.me told.same :),
    (congrArg State.pending told.same :), ?_⟩
  have queued := (enqueue_silentBy _ (s.nextMsg (s.nat (Obj.FAULT_CLASS kind)) src kind qual d).1).trans
    (nextMsg_silentBy s (s.nat (Obj.FAULT_CLASS kind)) src kind qual d)
  unfold State.raise State.raiseAs
  dsimp only
  split <;> exact queued

/-! ### Outputs (R261, R311, R320). -/

theorem axState_mem_downKeys {n : Nat} (hn : n < 6) : Obj.AX_STATE n ∈ downKeys :=
  List.mem_append_left _ (List.mem_append_right _ (List.mem_map_of_mem (List.mem_range.2 hn)))
theorem axStatus_mem_downKeys {n : Nat} (hn : n < 6) : Obj.AX_STATUS n ∈ downKeys :=
  List.mem_append_right _ (List.mem_map_of_mem (List.mem_range.2 hn))

theorem setAxState_takenDown (s : State) {n : Nat} (code : Nat) (hn : n < 6) : TakenDown s (s.setAxState n code) :=
  (putN_takenDown s _ (axState_mem_downKeys hn)).trans (putN_takenDown _ _ (axStatus_mem_downKeys hn))
theorem axMod_takenDown (s : State) (n : Nat) (f : Axis → Axis) : TakenDown s (s.axMod n f) := ⟨fun _ _ => rfl, rfl, rfl, rfl, rfl⟩

theorem axOffNow_takenDown (s : State) {n : Nat} (soft : Bool) (hn : n < 6) : TakenDown s (s.axOffNow n soft) := by
  refine (setAxState_takenDown s 0 hn).trans ?_
  exact ⟨fun _ _ => rfl, rfl, rfl, rfl, rfl⟩

theorem axLeave_takenDown (s : State) {n : Nat} (q : Nat) (hn : n < 6) : TakenDown s (s.axLeave n q) := by
  unfold State.axLeave
  dsimp only
  split
  · exact (axOffNow_takenDown s _ hn).trans ((setAxState_takenDown _ _ hn).trans ((axMod_takenDown ..).trans (raise_takenDown ..)))
  · exact axOffNow_takenDown s _ hn

theorem axWithdraw_takenDown (s : State) {n : Nat} (hn : n < 6) : TakenDown s (s.axWithdraw n) := by
  unfold State.axWithdraw
  dsimp only
  split
  · exact (axMod_takenDown ..).trans (axLeave_takenDown _ 2 hn)
  · exact (axMod_takenDown ..).trans (axOffNow_takenDown _ _ hn)
  · exact axMod_takenDown ..

theorem stepMod_takenDown (s : State) (k : Nat) (f : Stepper → Stepper) : TakenDown s (s.stepMod k f) :=
  ⟨fun _ _ => rfl, rfl, rfl, rfl, rfl⟩
theorem solMod_takenDown (s : State) (m : Nat) (f : Solenoid → Solenoid) : TakenDown s (s.solMod m f) :=
  ⟨fun _ _ => rfl, rfl, rfl, rfl, rfl⟩
theorem setNode_takenDown (s : State) (n : Nat) (v : Int) : TakenDown s (s.setNode n v) := ⟨fun _ _ => rfl, rfl, rfl, rfl, rfl⟩

theorem valveWithdraw_takenDown (s : State) (b : Nat) : TakenDown s (s.valveWithdraw b) := by
  unfold State.valveWithdraw
  split
  · exact (stepMod_takenDown ..).trans (stepMod_takenDown ..)
  · split
    · exact ((solMod_takenDown ..).trans (solMod_takenDown ..)).trans ((solMod_takenDown ..).trans (setNode_takenDown ..))
    · exact TakenDown.refl s

theorem outWithdraw_takenDown (s : State) (b : Nat) : TakenDown s (s.outWithdraw b) := by
  unfold State.outWithdraw
  split
  · next haxis => exact axWithdraw_takenDown s haxis
  · exact valveWithdraw_takenDown s b

theorem armClear_takenDown (s : State) (b : Nat) : TakenDown s (s.armClear b) := ⟨fun _ _ => rfl, rfl, rfl, rfl, rfl⟩

theorem armDrop_takenDown (s : State) (b : Nat) : TakenDown s (s.armDrop b) := by
  unfold State.armDrop
  split
  · exact (armClear_takenDown s b).trans (outWithdraw_takenDown _ b)
  · exact TakenDown.refl s

theorem armDropAll_takenDown (s : State) : TakenDown s s.armDropAll := foldl_takenDown _ (fun s b _ => armDrop_takenDown s b) s

/-- Of the arm signals in a list none is left once each of them has been dropped. -/
theorem armed_foldl_armDrop (l : List Nat) (s : State) (b : Nat) :
    (l.foldl (fun s b => s.armDrop b) s).ch.armed.testBit b = (s.ch.armed.testBit b && decide (b ∉ l)) := by
  induction l generalizing s with
  | nil => simp
  | cons a l ih => simp [ih, armDrop_armed, Bool.and_assoc]

theorem armDropAll_armed (s : State) {b : Nat} (hb : b < 26) : s.armDropAll.ch.armed.testBit b = false := by
  refine (armed_foldl_armDrop (List.range 26) s b).trans ?_
  simp [hb]

/-! ### LEAD_OUT (R357). -/

theorem traceSettle_takenDown (s : State) : TakenDown s s.traceSettle := by
  unfold State.traceSettle State.when
  dsimp only
  split
  · exact putN_takenDown s _ (by decide)
  · exact TakenDown.refl s

theorem traceTrigger_takenDown (s : State) (cause time : Nat) : TakenDown s (s.traceTrigger cause time) := by
  unfold State.traceTrigger
  dsimp only
  split
  · refine TakenDown.trans ?_ ((foldl_takenDown _ (fun _ _ _ => ?_) _).trans (traceSettle_takenDown _))
    · exact ((putN_takenDown s 2 (k := Obj.TRACE_STATE) (by decide)).trans (putN_takenDown _ _ (k := Obj.TRACE_TRIG_TIME) (by decide))).trans
        (putN_takenDown _ _ (k := Obj.TRACE_TRIG_CAUSE) (by decide))
    · exact ⟨fun _ _ => rfl, rfl, rfl, rfl, rfl⟩
  · exact TakenDown.refl s

theorem traceMeet_takenDown (s : State) (mask time : Nat) : TakenDown s (s.traceMeet mask time) := by
  unfold State.traceMeet
  split
  · exact TakenDown.refl s
  · refine TakenDown.trans ?_ (traceTrigger_takenDown _ _ _)
    exact ⟨fun _ _ => rfl, rfl, rfl, rfl, rfl⟩

theorem leadDown_takenDown (s : State) : TakenDown s s.leadDown := by
  unfold State.leadDown
  split
  · refine TakenDown.trans ?_ (traceMeet_takenDown _ _ _)
    exact ⟨fun _ _ => rfl, rfl, rfl, rfl, rfl⟩
  · exact TakenDown.refl s

theorem leadRelease_takenDown (s : State) : TakenDown s s.leadRelease := by
  unfold State.leadRelease
  split
  · exact TakenDown.refl s
  · exact leadDown_takenDown s

theorem leadRelease_armed (s : State) : s.leadRelease.ch.armed = s.ch.armed := by
  unfold State.leadRelease
  split
  · rfl
  · rw [leadDown_ch]

/-! ### Before a reset (R98). -/

theorem disarmForReset_takenDown (s : State) : TakenDown s s.disarmForReset := by
  unfold State.disarmForReset
  dsimp only
  split
  · exact armDropAll_takenDown s
  · exact (armDropAll_takenDown s).trans (leadRelease_takenDown _)

theorem disarmForReset_armed (s : State) {b : Nat} (hb : b < 26) : s.disarmForReset.ch.armed.testBit b = false := by
  unfold State.disarmForReset
  dsimp only
  split
  · exact armDropAll_armed s hb
  · rw [leadRelease_armed]
    exact armDropAll_armed s hb

theorem disarmForReset_clk (s : State) : s.disarmForReset.clk = s.clk := by
  have dropped := armDropAll_withdrawn s
  unfold State.disarmForReset
  dsimp only
  split
  · exact dropped.clk
  · exact (dropped.trans (leadRelease_withdrawn _)).clk

end Sys2Proof.Laws
end

section
/-!
PROOFS. What a reset keeps of the entries and returns to its default (R97, R114, R115).
-/
namespace Sys2Proof.Laws
open Sys2Proof.Machine

/-! ### Entries by their persistence (R114). -/

/-- An entry whose value stands in flash. -/
def lasting (key : Nat) : Bool := (rowOf key).any fun r => decide (r.persist = .stored ∨ r.persist = .sealed)

theorem lasting_of_row {key : Nat} {r : ObjRow} (hr : rowOf key = some r) (hp : r.persist = .stored ∨ r.persist = .sealed) :
    lasting key = true := by simp [lasting, hr, hp]

theorem keeps_lasting {key : Nat} (kind : Nat) (h : lasting key = true) : keeps kind key = true := by
  unfold lasting at h
  unfold keeps
  cases hr : rowOf key with
  | none => simp [hr] at h
  | some r =>
    have hp : r.persist = .stored ∨ r.persist = .sealed := by simpa [hr] using h
    rcases hp with hp | hp <;> simp [hp]

/-- R114: over a lane reset a volatile entry is kept only where it shows what the chaperone holds or a vote. -/
theorem keeps_volatile {kind key : Nat} {r : ObjRow} (h5 : kind ≠ 5) (hr : rowOf key = some r)
    (hp : r.persist = .volUnit ∨ r.persist = .volApp) (hc : chapEntry key = false) (hv : voteEntry key = false) : keeps kind key = false := by
  unfold keeps
  rw [hc, hv, hr]
  rcases hp with hp | hp <;> simp [hp, h5]

theorem keeps_chapEntry {key : Nat} (kind : Nat) (h : chapEntry key = true) : keeps kind key = true := by
  simp [keeps, h]

/-- The keys that a choice by keys leaves out read as their defaults, and the others as before. -/
theorem get_filter {β : Type} [DecidableEq β] (d : Nat → β) (l : Sparse β) (p : Nat → Bool) (k : Nat) :
    Sparse.get d (l.filter fun e => p e.1) k = if p k then Sparse.get d l k else d k := by
  have found : Sparse.find (l.filter fun e => p e.1) k = if p k then Sparse.find l k else none := by
    induction l with
    | nil => simp
    | cons e l ih =>
      by_cases he : e.1 = k
      · cases hp : p k <;> simp [he, hp, ih, find_cons]
      · cases hp : p e.1 <;> simp [he, hp, ih, find_cons]
  rw [Sparse.get, found]
  split <;> rfl

/-! ### Writes that wait for their commit (R115). -/

theorem find_eq_none {β : Type} [DecidableEq β] {l : Sparse β} {k : Nat} (h : Sparse.find l k = none) : ∀ e ∈ l, e.1 ≠ k := by
  simpa [Sparse.find] using h

theorem get_foldl_put (l : List (Nat × Val)) (s : State) {k : Nat} (h : ∀ e ∈ l, e.1 ≠ k) :
    (l.foldl (fun (s : State) e => s.put e.1 e.2) s).get k = s.get k := by
  induction l generalizing s with
  | nil => rfl
  | cons e l ih =>
    rw [List.foldl_cons, ih _ fun e he => h e (List.mem_cons_of_mem _ he), get_put_ne s _ (h e List.mem_cons_self).symm]

/-- An entry without an uncommitted write outlasts their loss; KEY_STATE only if no key is among them. -/
theorem loseWrites_get {s : State} {k : Nat} (hk : ∀ e ∈ s.uncommitted, e.1 ≠ k)
    (hs : k = Obj.KEY_STATE → ∀ e ∈ s.uncommitted, e.1 ∉ keyEntries) : s.loseWrites.get k = s.get k := by
  have lost := get_foldl_put s.uncommitted s hk
  unfold State.loseWrites
  dsimp only
  split
  · next hany =>
    have other : k ≠ Obj.KEY_STATE := by
      rintro rfl
      obtain ⟨e, he, hkey⟩ := List.any_eq_true.1 hany
      exact hs rfl e he (by simpa using hkey)
    exact (get_putN_ne _ _ other).trans lost
  · exact lost

theorem loseWrites_get_lost {s : State} {k : Nat} {v : Val} (h : s.uncommitted = [(k, v)]) : s.loseWrites.get k = v := by
  unfold State.loseWrites
  rw [h]
  dsimp only
  split
  · next hany =>
    have other : k ≠ Obj.KEY_STATE := by
      rintro rfl
      have unnamed : Obj.KEY_STATE ∉ keyEntries := by decide
      exact unnamed (by simpa using hany)
    exact (get_putN_ne _ _ other).trans (get_put_self s k v)
  · exact get_put_self s k v

/-! ### The stages of a reset (R98, R114). -/

/-- The lane when its sessions have closed: disarmed, and its uncommitted writes lost or committed. -/
def resetClosed (s : State) (kind : Nat) : State :=
  (if kind ≤ 3 then s.disarmForReset.loseWrites else s.disarmForReset.flush).sessionEnd

/-- The lane when the entries that its reset does not keep have returned to their defaults. -/
def resetCleared (s : State) (kind : Nat) : State := (resetClosed s kind).dropEntries kind

/-- From `s` to `t` nothing changes but entries, what waits for its commit, and the session with its staged edits. -/
structure Booked (s t : State) : Prop where
  same : { t with dict := s.dict, uncommitted := s.uncommitted, staged := s.staged, se := s.se } = s

theorem Booked.refl (s : State) : Booked s s := ⟨rfl⟩
theorem Booked.trans {s t u : State} (h : Booked s t) (h' : Booked t u) : Booked s u := by
  refine ⟨Eq.trans ?_ h.same⟩
  exact congrArg (fun x : State => { x with dict := s.dict, uncommitted := s.uncommitted, staged := s.staged, se := s.se }) h'.same

theorem put_booked (s : State) (k : Nat) (v : Val) : Booked s (s.put k v) := ⟨rfl⟩
theorem putN_booked (s : State) (k : Nat) (v : Int) : Booked s (s.putN k v) := ⟨rfl⟩
theorem flush_booked (s : State) : Booked s s.flush := ⟨rfl⟩
theorem sessionEnd_booked (s : State) : Booked s s.sessionEnd := ⟨rfl⟩

theorem foldl_put_booked (l : List (Nat × Val)) (s : State) : Booked s (l.foldl (fun (s : State) e => s.put e.1 e.2) s) := by
  induction l generalizing s with
  | nil => exact Booked.refl s
  | cons e l ih => exact (put_booked s e.1 e.2).trans (ih _)

theorem loseWrites_booked (s : State) : Booked s s.loseWrites := by
  have lost := (foldl_put_booked s.uncommitted s).trans (flush_booked _)
  unfold State.loseWrites
  dsimp only
  split
  · exact lost.trans (putN_booked ..)
  · exact lost

theorem waltzDomains_booked (s : State) : Booked s s.waltzDomains := by
  unfold State.waltzDomains
  split
  · exact putN_booked ..
  · exact Booked.refl s

theorem dropEntries_booked (s : State) (kind : Nat) : Booked s (s.dropEntries kind) := by
  refine Booked.trans ?_ (waltzDomains_booked _)
  exact ⟨rfl⟩

theorem resetCleared_booked (s : State) (kind : Nat) : Booked s.disarmForReset (resetCleared s kind) := by
  refine Booked.trans (Booked.trans ?_ (sessionEnd_booked _)) (dropEntries_booked ..)
  split
  · exact loseWrites_booked _
  · exact flush_booked _

/-! ### The end of a reset (R97, R376, R391). -/

/-- From `s` to `t` only entries change that show what the chaperone holds. -/
structure ChapOnly (s t : State) : Prop where
  same : { t with dict := s.dict } = s
  get : ∀ k, chapEntry k = false → t.get k = s.get k

theorem ChapOnly.refl (s : State) : ChapOnly s s := ⟨rfl, fun _ _ => rfl⟩
theorem ChapOnly.trans {s t u : State} (h : ChapOnly s t) (h' : ChapOnly t u) : ChapOnly s u :=
  ⟨(congrArg (fun x : State => { x with dict := s.dict }) h'.same).trans h.same, fun k hk => (h'.get k hk).trans (h.get k hk)⟩

theorem putN_chapOnly (s : State) {k : Nat} (v : Int) (hk : chapEntry k = true) : ChapOnly s (s.putN k v) :=
  ⟨rfl, fun j hj => get_putN_ne s v fun h => by simp [h, hk] at hj⟩

theorem chapStart_chapOnly (s : State) (kind : Nat) : ChapOnly s (s.chapStart kind) := by
  unfold State.chapStart
  split
  · exact ChapOnly.refl s
  · exact putN_chapOnly s 1 (by decide)

theorem ebUpdate_chapOnly (s : State) : ChapOnly s s.ebUpdate := by
  unfold State.ebUpdate
  split
  · split
    · exact ChapOnly.refl s
    · exact putN_chapOnly s _ (by decide)
  · exact ChapOnly.refl s

/-- The lane when its dies have been reset and EB_OUT stands at its level. -/
def resetDies (s : State) (kind : Nat) : State := (((resetCleared s kind).afterReset kind).chapStart kind).ebUpdate

theorem resetDies_chapOnly (s : State) (kind : Nat) : ChapOnly ((resetCleared s kind).afterReset kind) (resetDies s kind) :=
  (chapStart_chapOnly _ kind).trans (ebUpdate_chapOnly _)

/-- R97: beside the dies a reset sets the start that is due, the power states, the always-on time and its own kind. -/
theorem resetTo_eq (s : State) (kind tick : Nat) : ∃ (x : Start) (y : Power) (aon : Int),
    x.due = some (s.dueKind kind tick) ∧ y.sleep = 0 ∧ y.entry = 0 ∧ s.resetTo kind tick =
      { ((resetDies s kind).putN Obj.AON_SECONDS aon).putN Obj.LAST_RESET_KIND (s.dueKind kind tick) with st := x, pw := y } := by
  have hdies : resetDies s kind = (((((if kind ≤ 3 then s.disarmForReset.loseWrites else s.disarmForReset.flush).sessionEnd).dropEntries
    kind).afterReset kind).chapStart kind).ebUpdate := rfl
  unfold State.resetTo
  dsimp only
  rw [← hdies]
  generalize resetDies s kind = u
  cases kind == 0 <;> cases decide (kind ≤ 1) <;> exact ⟨_, _, _, rfl, rfl, rfl, rfl⟩

/-! ### Entries after a reset (R114, R115). -/

theorem resetTo_get (s : State) (kind tick : Nat) {k : Nat} (hc : chapEntry k = false) (hkind : k ≠ Obj.LAST_RESET_KIND)
    (haon : k ≠ Obj.AON_SECONDS) : (s.resetTo kind tick).get k = (resetCleared s kind).get k := by
  obtain ⟨x, y, aon, -, -, -, ht⟩ := resetTo_eq s kind tick
  rw [ht]
  exact (get_putN_ne _ _ hkind).trans ((get_putN_ne _ _ haon).trans ((resetDies_chapOnly s kind).get k hc))

theorem waltzDomains_get (s : State) {k : Nat} (h : s.chapState = 4 → k ≠ Obj.DOMAIN_STATUS) : s.waltzDomains.get k = s.get k := by
  unfold State.waltzDomains
  split
  · next hw => exact get_putN_ne _ _ (h hw)
  · rfl

/-- R114, log 250: an entry stands if its class is kept, or if it is the state of an axis held in active short circuit. -/
def stands (s : State) (kind key : Nat) : Bool := keeps kind key || (List.range 6).any fun n => s.ascHeld kind n && key == Obj.AX_STATE n

/-- R114: the entries that a reset of this kind leaves standing. -/
def entriesStanding (s : State) (kind : Nat) : State := { s with dict := s.dict.filter fun e => stands s kind e.1 }

theorem dropEntries_eq (s : State) (kind : Nat) : s.dropEntries kind = (entriesStanding s kind).waltzDomains := rfl

theorem entriesStanding_get (s : State) (kind k : Nat) : (entriesStanding s kind).get k = if stands s kind k then s.get k else defaultOf k :=
  get_filter ..

theorem entriesStanding_chapState (s : State) (kind : Nat) : (entriesStanding s kind).chapState = s.chapState := by
  have hstands : stands s kind Obj.CHAP_STATE = true := by rw [stands, keeps_chapEntry kind (by decide), Bool.true_or]
  simp only [State.chapState, State.nat, State.n, entriesStanding_get, hstands, if_true]

/-- R114, R397: an entry stands or reads its default, but for the domains that the last waltz holds up. -/
theorem dropEntries_get (s : State) (kind : Nat) {k : Nat} (h : s.chapState = 4 → k ≠ Obj.DOMAIN_STATUS) :
    (s.dropEntries kind).get k = if stands s kind k then s.get k else defaultOf k := by
  rw [dropEntries_eq, waltzDomains_get _ (by rwa [entriesStanding_chapState]), entriesStanding_get]

theorem dropEntries_domains {s : State} (kind : Nat) (h : s.chapState = 4) :
    ∃ v, (s.dropEntries kind).nat Obj.DOMAIN_STATUS = v ||| 10 := by
  rw [dropEntries_eq, State.waltzDomains, if_pos ((entriesStanding_chapState s kind).trans h)]
  exact ⟨_, (nat_putN_self ..).trans (Int.toNat_natCast _)⟩

theorem stands_false {s : State} {kind k : Nat} (hk : keeps kind k = false) (ha : 2 ≤ kind → kind ≤ 4 → ∀ n < 6, k ≠ Obj.AX_STATE n) :
    stands s kind k = false := by
  simp only [stands, hk, Bool.false_or, List.any_eq_false, List.mem_range, Bool.and_eq_true, beq_iff_eq, not_and]
  intro n hn held
  simp only [State.ascHeld, Bool.and_eq_true, decide_eq_true_eq] at held
  exact ha held.1.1 held.1.2 n hn

theorem sessionEnd_get (s : State) {k : Nat} (hc : k ≠ Obj.SESSION_CURRENT) (ho : k ≠ Obj.SESSION_OWNER) : s.sessionEnd.get k = s.get k := by
  change ((s.putN Obj.SESSION_CURRENT 0).put Obj.SESSION_OWNER (defaultOf Obj.SESSION_OWNER)).get k = s.get k
  rw [get_put_ne _ _ ho, get_putN_ne _ _ hc]

/-- The write of an entry has reached flash before the reset, and so have those that KEY_STATE follows. -/
def Committed (s : State) (k : Nat) : Prop :=
  Sparse.find s.uncommitted k = none ∧ (k = Obj.KEY_STATE → ∀ e ∈ s.uncommitted, e.1 ∉ keyEntries)

/-- The entries that disarming and the end of a session may write, and those that a reset shows itself in. -/
def resetKeys : List Nat := downKeys ++ [Obj.SESSION_CURRENT, Obj.SESSION_OWNER, Obj.DOMAIN_STATUS, Obj.LAST_RESET_KIND, Obj.AON_SECONDS]

theorem resetClosed_get (s : State) (kind : Nat) {k : Nat} (hk : k ∉ downKeys) (hc : k ≠ Obj.SESSION_CURRENT) (ho : k ≠ Obj.SESSION_OWNER)
    (hs : 3 < kind ∨ Committed s k) : (resetClosed s kind).get k = s.get k := by
  have down := disarmForReset_takenDown s
  refine (sessionEnd_get _ hc ho).trans ?_
  split
  · next hlost =>
    obtain ⟨hfind, hstate⟩ := hs.resolve_left (by omega)
    rw [← down.uncommitted] at hfind hstate
    exact (loseWrites_get (find_eq_none hfind) hstate).trans (down.get k hk)
  · exact down.get k hk

theorem lasting_not_mem {k : Nat} (h : lasting k = true) : k ∉ resetKeys := by
  have volatile : ∀ j ∈ resetKeys, lasting j = false := by decide +kernel
  intro hk
  simp [volatile k hk] at h

theorem resetTo_get_lasting (s : State) (kind tick : Nat) {k : Nat} (h : lasting k = true) (hc : chapEntry k = false) :
    (s.resetTo kind tick).get k = (resetClosed s kind).get k := by
  have hk := lasting_not_mem h
  simp only [resetKeys, List.mem_append, List.mem_cons, List.not_mem_nil, or_false, not_or] at hk
  obtain ⟨-, -, -, hdomains, hkind, haon⟩ := hk
  rw [resetTo_get s kind tick hc hkind haon, resetCleared, dropEntries_get _ _ fun _ => hdomains, stands, keeps_lasting kind h]
  rfl

/-- R376: CHAP_STATE shows the same chaperone before and after, unless it is itself listed as uncommitted and that write is lost. -/
theorem resetClosed_chapState {s : State} {kind : Nat} (h : 3 < kind ∨ Sparse.find s.uncommitted Obj.CHAP_STATE = none) :
    (resetClosed s kind).chapState = s.chapState := by
  have hget : (resetClosed s kind).get Obj.CHAP_STATE = s.get Obj.CHAP_STATE :=
    resetClosed_get s kind (by decide) (by decide) (by decide) (h.imp_right fun h => ⟨h, fun h => absurd h (by decide)⟩)
  simp only [State.chapState, State.nat, State.n, hget]

/-- R114: a volatile entry reads its default. -/
theorem resetTo_get_volatile {s : State} {kind tick key : Nat} {r : ObjRow} (h5 : kind ≠ 5)
    (hs : 3 < kind ∨ Sparse.find s.uncommitted Obj.CHAP_STATE = none) (hr : rowOf key = some r)
    (hp : r.persist = .volUnit ∨ r.persist = .volApp) (hc : chapEntry key = false) (hv : voteEntry key = false)
    (hkind : key ≠ Obj.LAST_RESET_KIND) (haon : key ≠ Obj.AON_SECONDS) (hd : s.chapState = 4 → key ≠ Obj.DOMAIN_STATUS)
    (ha : 2 ≤ kind → kind ≤ 4 → ∀ n < 6, key ≠ Obj.AX_STATE n) : (s.resetTo kind tick).get key = defaultOf key := by
  have dropped := stands_false (s := resetClosed s kind) (keeps_volatile h5 hr hp hc hv) ha
  rw [resetTo_get s kind tick hc hkind haon, resetCleared, dropEntries_get _ _ (by rwa [resetClosed_chapState hs]), dropped]
  rfl

/-- R114, R115: a stored or sealed entry stands as it was, if its write has reached flash or the reset lets it. -/
theorem resetTo_get_committed {s : State} {kind : Nat} (tick : Nat) {key : Nat} (h : lasting key = true) (hc : chapEntry key = false)
    (hs : 3 < kind ∨ Committed s key) : (s.resetTo kind tick).get key = s.get key := by
  have hk := lasting_not_mem h
  simp only [resetKeys, List.mem_append, List.mem_cons, List.not_mem_nil, or_false, not_or] at hk
  obtain ⟨hdown, hcurrent, howner, -⟩ := hk
  exact (resetTo_get_lasting s kind tick h hc).trans (resetClosed_get s kind hdown hcurrent howner hs)

/-- R115: a stored entry whose write alone has not reached flash returns to its value before it. -/
theorem resetTo_get_lost {s : State} {kind : Nat} (tick : Nat) {key : Nat} {v : Val} (h : lasting key = true) (hc : chapEntry key = false)
    (hkind : kind ≤ 3) (hu : s.uncommitted = [(key, v)]) : (s.resetTo kind tick).get key = v := by
  have hk := lasting_not_mem h
  simp only [resetKeys, List.mem_append, List.mem_cons, List.not_mem_nil, or_false, not_or] at hk
  obtain ⟨-, hcurrent, howner, -⟩ := hk
  rw [resetTo_get_lasting s kind tick h hc, resetClosed, if_pos hkind, sessionEnd_get _ hcurrent howner]
  exact loseWrites_get_lost ((disarmForReset_takenDown s).uncommitted.trans hu)

/-- R397: in the last waltz the chaperone holds PD_MEAS and PD_POWER up. -/
theorem resetTo_domains {s : State} {kind : Nat} (tick : Nat) (hs : 3 < kind ∨ Sparse.find s.uncommitted Obj.CHAP_STATE = none)
    (hw : s.chapState = 4) :
    (s.resetTo kind tick).bit Obj.DOMAIN_STATUS 1 = true ∧ (s.resetTo kind tick).bit Obj.DOMAIN_STATUS 3 = true := by
  obtain ⟨v, hv⟩ := dropEntries_domains kind ((resetClosed_chapState hs).trans hw)
  have hnat : (s.resetTo kind tick).nat Obj.DOMAIN_STATUS = v ||| 10 := by
    rw [← hv]
    simp only [State.nat, State.n, resetTo_get s kind tick (k := Obj.DOMAIN_STATUS) (by decide) (by decide) (by decide), resetCleared]
  simp only [State.bit, hnat, Nat.testBit_or]
  exact ⟨by simp [Nat.testBit, Bool.or_comm], by simp [Nat.testBit]⟩

/-! ### Units, chaperone, time and the start after a reset (R97, R98, R401, R495). -/

/-- Any part of the lane but entries, start and power is after a reset as the reset of the dies left it. -/
theorem resetTo_part {α : Type} (f : State → α) (hf : ∀ u d x y, f { u with dict := d, st := x, pw := y } = f u) (s : State) (kind tick : Nat) :
    f (s.resetTo kind tick) = f ((resetCleared s kind).afterReset kind) := by
  obtain ⟨x, y, aon, -, -, -, ht⟩ := resetTo_eq s kind tick
  have only := (resetDies_chapOnly s kind).same
  rw [ht]
  exact (hf (resetDies s kind) _ x y).trans ((hf (resetDies s kind) _ _ _).symm.trans (congrArg f only))

theorem resetTo_armed (s : State) (kind tick : Nat) {b : Nat} (hb : b < 26) : (s.resetTo kind tick).ch.armed.testBit b = false := by
  have hch : (resetCleared s kind).ch = s.disarmForReset.ch := (congrArg State.ch (resetCleared_booked s kind).same :)
  rw [resetTo_part State.ch (fun _ _ _ _ => rfl)]
  exact (congrArg (fun c : Chaperone => c.armed.testBit b) hch).trans (disarmForReset_armed s hb)

/-- R401: fail-silence outlasts a reset only where the last waltz has caused it. -/
theorem resetTo_failSilent {s : State} {kind : Nat} (tick : Nat) (h : kind = 0 ∨ s.col.silentBy ≠ some Kind.LAST_WALTZ) :
    (s.resetTo kind tick).col.failSilent = false := by
  have hcol : (resetCleared s kind).col = s.disarmForReset.col := (congrArg State.col (resetCleared_booked s kind).same :)
  rw [resetTo_part State.col (fun _ _ _ _ => rfl)]
  change (resetCleared s kind).waltzSilent kind = false
  rw [State.waltzSilent, hcol, (disarmForReset_takenDown s).silentBy]
  rcases h with h | h <;> simp [h]

/-- R495: a remap of a memory is kept while its supply stays. -/
theorem resetTo_remaps {s : State} {kind : Nat} (tick : Nat) (h2 : 2 ≤ kind) (h4 : kind ≤ 4) :
    (s.resetTo kind tick).me.remaps = s.me.remaps := by
  have hme : (resetCleared s kind).me = s.disarmForReset.me := (congrArg State.me (resetCleared_booked s kind).same :)
  rw [resetTo_part State.me (fun _ _ _ _ => rfl)]
  change (if 2 ≤ kind ∧ kind ≤ 4 then (resetCleared s kind).me.remaps else []) = s.me.remaps
  rw [if_pos ⟨h2, h4⟩, hme, (disarmForReset_takenDown s).me]

/-- R114: over a kind that the power die does not outlast, the axes are as at power-on. -/
theorem resetTo_ax {s : State} {kind : Nat} (tick : Nat) (h : kind < 2 ∨ 4 < kind) : (s.resetTo kind tick).ax = State.reset.ax := by
  have dropped (n : Nat) : (resetCleared s kind).ascHeld kind n = false := by
    have : ¬ (2 ≤ kind ∧ kind ≤ 4) := by omega
    simp [State.ascHeld, this]
  rw [resetTo_part State.ax (fun _ _ _ _ => rfl)]
  simp only [State.afterReset, dropped]
  rfl

theorem resetTo_clk (s : State) (kind tick : Nat) : (s.resetTo kind tick).clk = { now := s.clk.now } := by
  have hclk : (resetCleared s kind).clk = s.disarmForReset.clk := (congrArg State.clk (resetCleared_booked s kind).same :)
  rw [resetTo_part State.clk (fun _ _ _ _ => rfl), ← disarmForReset_clk s, ← hclk]
  rfl

theorem resetTo_pending (s : State) (kind tick : Nat) : (s.resetTo kind tick).pending = s.pending := by
  have hpending : (resetCleared s kind).pending = s.disarmForReset.pending := (congrArg State.pending (resetCleared_booked s kind).same :)
  rw [resetTo_part State.pending (fun _ _ _ _ => rfl)]
  exact hpending.trans (disarmForReset_takenDown s).pending

theorem loseWrites_uncommitted (s : State) : s.loseWrites.uncommitted = [] := by
  unfold State.loseWrites
  dsimp only
  split <;> rfl

theorem waltzDomains_uncommitted (s : State) : s.waltzDomains.uncommitted = s.uncommitted := by
  unfold State.waltzDomains
  split <;> rfl

/-- R115: no write waits for its commit over a reset. -/
theorem resetTo_uncommitted (s : State) (kind tick : Nat) : (s.resetTo kind tick).uncommitted = [] := by
  rw [resetTo_part State.uncommitted (fun _ _ _ _ => rfl)]
  change ((resetClosed s kind).dropEntries kind).uncommitted = []
  rw [dropEntries_eq, waltzDomains_uncommitted]
  change (if kind ≤ 3 then s.disarmForReset.loseWrites else s.disarmForReset.flush).uncommitted = []
  split
  · exact loseWrites_uncommitted _
  · rfl

/-- R97: the start is due, by the kind that LAST_RESET_KIND names. -/
theorem resetTo_due (s : State) (kind tick : Nat) : (s.resetTo kind tick).st.due = some (s.dueKind kind tick) ∧
    (s.resetTo kind tick).nat Obj.LAST_RESET_KIND = s.dueKind kind tick ∧
    (s.resetTo kind tick).pw.sleep = 0 ∧ (s.resetTo kind tick).pw.entry = 0 := by
  obtain ⟨x, y, aon, hdue, hsleep, hentry, ht⟩ := resetTo_eq s kind tick
  rw [ht]
  exact ⟨hdue, (nat_putN_self ..).trans (Int.toNat_natCast _), hsleep, hentry⟩

/-! ### The statement, state by state. -/

/-- What `Obligations.ResetKeepsByPersistence` claims of one reset of one state. -/
def ResetKeeps (s : State) (kind tick : Nat) : Prop :=
  let t := s.resetTo kind tick
  (∀ (key : Nat) (r : ObjRow), rowOf key = some r → (r.persist = .volUnit ∨ r.persist = .volApp) → chapEntry key = false →
    voteEntry key = false → key ≠ Obj.LAST_RESET_KIND → key ≠ Obj.AON_SECONDS → (s.chapState = 4 → key ≠ Obj.DOMAIN_STATUS) →
    (2 ≤ kind → kind ≤ 4 → ∀ n < 6, key ≠ Obj.AX_STATE n) → t.get key = defaultOf key) ∧
  (∀ (key : Nat) (r : ObjRow), rowOf key = some r → (r.persist = .stored ∨ r.persist = .sealed) → chapEntry key = false →
    (3 < kind ∨ Committed s key) → t.get key = s.get key) ∧
  (∀ (key : Nat) (r : ObjRow) (v : Val), rowOf key = some r → r.persist = .stored → chapEntry key = false → kind ≤ 3 →
    s.uncommitted = [(key, v)] → t.get key = v) ∧
  t.nodes = [] ∧ t.fb = State.reset.fb ∧ t.ob = State.reset.ob ∧ t.vs = State.reset.vs ∧ t.sol = State.reset.sol ∧
  ((kind < 2 ∨ 4 < kind) → t.ax = State.reset.ax) ∧ (s.chapState = 4 → t.bit Obj.DOMAIN_STATUS 1 = true ∧ t.bit Obj.DOMAIN_STATUS 3 = true) ∧
  (2 ≤ kind → kind ≤ 4 → t.me.remaps = s.me.remaps) ∧
  t.col.queue = [] ∧ t.col.rows = [] ∧ ((kind = 0 ∨ s.col.silentBy ≠ some Kind.LAST_WALTZ) → t.col.failSilent = false) ∧ t.se = {} ∧
  t.staged = [] ∧ t.uncommitted = [] ∧
  (∀ b < 26, t.ch.armed.testBit b = false) ∧ t.ch.request = 0 ∧ t.ch.lease = none ∧ t.ch.mainReset = true ∧
  t.st.due = some (s.dueKind kind tick) ∧ t.nat Obj.LAST_RESET_KIND = s.dueKind kind tick ∧ t.pw.sleep = 0 ∧ t.pw.entry = 0 ∧
  t.clk = { now := s.clk.now } ∧ t.pending = s.pending

theorem resetKeepsByPersistence_iff : Obligations.ResetKeepsByPersistence ↔
    ∀ (s : State) (kind tick : Nat), kind ≤ 7 → kind ≠ 5 → ResetKeeps s kind tick := Iff.rfl

/-- R114, R115: it holds wherever no uncommitted write of CHAP_STATE, a volatile entry, is listed or lost. -/
theorem resetKeeps_of_chapState_committed {s : State} {kind : Nat} (tick : Nat) (h5 : kind ≠ 5)
    (hs : 3 < kind ∨ Sparse.find s.uncommitted Obj.CHAP_STATE = none) : ResetKeeps s kind tick := by
  obtain ⟨hdue, hkind, hsleep, hentry⟩ := resetTo_due s kind tick
  refine ⟨fun key r hr hp hc hv hk haon => resetTo_get_volatile h5 hs hr hp hc hv hk haon,
    fun key r hr hp hc => resetTo_get_committed tick (lasting_of_row hr hp) hc,
    fun key r v hr hp hc hk => resetTo_get_lost tick (lasting_of_row hr (.inl hp)) hc hk, ?_, ?_, ?_, ?_, ?_, resetTo_ax tick,
    resetTo_domains tick hs, resetTo_remaps tick, ?_, ?_, resetTo_failSilent tick, ?_, ?_, resetTo_uncommitted s kind tick,
    fun b => resetTo_armed s kind tick, ?_, ?_, ?_, hdue, hkind, hsleep, hentry, resetTo_clk s kind tick, resetTo_pending s kind tick⟩
  · exact resetTo_part State.nodes (fun _ _ _ _ => rfl) s kind tick
  · exact resetTo_part State.fb (fun _ _ _ _ => rfl) s kind tick
  · exact resetTo_part State.ob (fun _ _ _ _ => rfl) s kind tick
  · exact resetTo_part State.vs (fun _ _ _ _ => rfl) s kind tick
  · exact resetTo_part State.sol (fun _ _ _ _ => rfl) s kind tick
  · exact resetTo_part (·.col.queue) (fun _ _ _ _ => rfl) s kind tick
  · exact resetTo_part (·.col.rows) (fun _ _ _ _ => rfl) s kind tick
  · exact resetTo_part State.se (fun _ _ _ _ => rfl) s kind tick
  · exact resetTo_part State.staged (fun _ _ _ _ => rfl) s kind tick
  · exact resetTo_part (·.ch.request) (fun _ _ _ _ => rfl) s kind tick
  · exact resetTo_part (·.ch.lease) (fun _ _ _ _ => rfl) s kind tick
  · exact resetTo_part (·.ch.mainReset) (fun _ _ _ _ => rfl) s kind tick

/-! ### The counterexample. -/

/-- A lane at power-on, but for a CHAP_STATE that is listed as uncommitted and would return to the last waltz. -/
def waltzUncommitted : State := { State.reset with uncommitted := [(Obj.CHAP_STATE, .num 4)] }

theorem waltzUncommitted_chapState : waltzUncommitted.chapState = 0 := by decide +kernel

/-- The loss of that write puts the chaperone into the last waltz, which then holds two domains up beside the default's. -/
theorem waltzUncommitted_domains : (waltzUncommitted.resetTo 0 0).get Obj.DOMAIN_STATUS = .num 11 ∧ defaultOf Obj.DOMAIN_STATUS = .num 3 := by
  decide +kernel

theorem waltzUncommitted_not_resetKeeps : ¬ ResetKeeps waltzUncommitted 0 0 := by
  rintro ⟨hvolatile, -⟩
  obtain ⟨r, hr, hp⟩ : ∃ r, rowOf Obj.DOMAIN_STATUS = some r ∧ r.persist = .volUnit := ⟨_, rfl, rfl⟩
  obtain ⟨hheld, hdefault⟩ := waltzUncommitted_domains
  have hreads := hvolatile Obj.DOMAIN_STATUS r hr (.inl hp) (by decide) (by decide) (by decide) (by decide)
    (fun hw => by simp [waltzUncommitted_chapState] at hw) (fun h2 => absurd h2 (by decide))
  rw [hheld, hdefault] at hreads
  simp at hreads

/-- Refutes O24: the statement is over every state, one that lists the volatile CHAP_STATE among the stored entries still to be committed
too. A reset of kind 0x0 returns that write, so that DOMAIN_STATUS stands for a last waltz that the lane was not in before.
`resetKeeps_of_chapState_committed` proves every clause where no such write is lost. -/
theorem not_resetKeepsByPersistence : ¬ Obligations.ResetKeepsByPersistence := fun h =>
  waltzUncommitted_not_resetKeeps (resetKeepsByPersistence_iff.1 h waltzUncommitted 0 0 (by decide) (by decide))

end Sys2Proof.Laws
end

section
/-!
PROOFS. The two stores: a write is read back, and canonical stores that read alike are the same list (R126, R250).
-/
namespace Sys2Proof.Laws
open Sys2Proof.Machine

/-! ### Canonical stores that read alike. -/

/-- In a store of strictly rising keys the listed value of a key is that of its one entry. -/
theorem find_eq_some_iff {β : Type} {l : Sparse β} (h : l.Pairwise fun a b => a.1 < b.1) (k : Nat) (v : β) :
    Sparse.find l k = some v ↔ (k, v) ∈ l := by
  induction l with
  | nil => simp
  | cons e l ih =>
    obtain ⟨habove, hrest⟩ := List.pairwise_cons.1 h
    rw [find_cons, List.mem_cons, Prod.ext_iff]
    split
    · next he =>
      have hlater : (k, v) ∉ l := fun hm => absurd (habove _ hm) (by simp [he])
      simp [he, hlater, eq_comm]
    · next he => simp [ih hrest, Ne.symm he]

section
variable {β : Type} [DecidableEq β] {d : Nat → β}

/-- The entries of a canonical store are the keys that do not read as their default, each with what it reads as. -/
theorem mem_iff_get {l : Sparse β} (h : Sparse.wf d l = true) (k : Nat) (v : β) :
    (k, v) ∈ l ↔ Sparse.get d l k = v ∧ v ≠ d k := by
  obtain ⟨hrising, hlisted⟩ := (wf_iff d l).1 h
  have hmem := find_eq_some_iff hrising k
  unfold Sparse.get
  cases hf : Sparse.find l k with
  | none =>
    have hv : (k, v) ∉ l := fun hm => by simp [(hmem v).2 hm] at hf
    simpa [hv] using Eq.symm
  | some u =>
    have hu : u ≠ d k := hlisted _ ((hmem u).1 hf)
    rw [← hmem, hf, Option.some_inj, Option.getD_some]
    exact ⟨fun e => ⟨e, e ▸ hu⟩, And.left⟩

/-- Canonical stores that read alike are the same list: both list the same entries in the order of their keys. -/
theorem eq_of_get_eq {l m : Sparse β} (hl : Sparse.wf d l = true) (hm : Sparse.wf d m = true)
    (h : ∀ j, Sparse.get d l j = Sparse.get d m j) : l = m := by
  have irreflexive : Std.Irrefl fun a b : Nat × β => a.1 < b.1 := ⟨fun a => lt_irrefl a.1⟩
  have asymmetric : Std.Antisymm fun a b : Nat × β => a.1 < b.1 := ⟨fun a b hab hba => absurd hab hba.asymm⟩
  refine ((wf_iff d l).1 hl).1.eq_of_mem_iff ((wf_iff d m).1 hm).1 ?_
  rintro ⟨k, v⟩
  rw [mem_iff_get hl, mem_iff_get hm, h]

end

/-- Settles O60: the laws of the store, for the dictionary and for the nodes. -/
theorem storesReadBackWhatIsWritten : Obligations.StoresReadBackWhatIsWritten := fun s k v x =>
  ⟨get_put_self s k v, fun _ => get_put_ne s v, put_nodes s k v, put_wf s k v, nodeW_setNodeW_self s k _,
    fun _ h => (nodeW_setNodeW ..).trans (if_neg h), setNode_dict s k x, setNode_wf s k x, fun _ => eq_of_get_eq⟩

end Sys2Proof.Laws
end

section
/-!
PROOFS. Rejected writes, and the confirmation of a sealed set (R131, R133, R143, R146, R148, R149).
-/
namespace Sys2Proof.Laws
open Sys2Proof.Machine

/-! ### Rejected writes (R146). -/

/-- What a write has passed that its judgement lets stand. -/
theorem writeJudge_ok {s : State} {c : Client} {key : Nat} {bytes : List Byte} {r : ObjRow} {v : Val}
    (h : s.writeJudge c key bytes = .ok (r, v)) :
    rowOf key = some r ∧ r.acc ≠ .ro ∧ ¬(r.acc = .rwc ∧ s.level c < 3) ∧ writeNeed r ≤ s.level c ∧ r.ty.decode bytes = .ok v ∧
      valueJudge r key v = 0 := by
  unfold State.writeJudge at h
  split at h
  · cases h
  next r' hrow =>
  split_ifs at h with hro hrwc hneed hseal
  split at h
  · cases h
  next v' hdecode =>
  split_ifs at h with hvalue
  cases h
  exact ⟨hrow, hro, hrwc, (le_max_left ..).trans (not_lt.1 hneed), hdecode, hvalue⟩

theorem dictWrite_error {s : State} {w : Writer} {key : Nat} {bytes : List Byte} {e : AbortCode}
    (h : s.writeJudge w.client key bytes = .error e) : s.dictWrite w key bytes = (s, e) := by
  rw [State.dictWrite, h]

/-- R146: a write that does not stand leaves everything as it was. -/
theorem clientWrite_rejected {s : State} {w : Writer} {key : Nat} {bytes : List Byte}
    (h : s.serves w.client = true → ∀ r v, s.writeJudge w.client key bytes ≠ .ok (r, v)) :
    s.clientWrite w key bytes = .next s := by
  unfold State.clientWrite
  split
  · next hserves =>
    cases hj : s.writeJudge w.client key bytes with
    | error e => rw [dictWrite_error hj]
    | ok x => exact absurd hj (h hserves x.1 x.2)
  · rfl

theorem sealedEntryWrite_rejected {s : State} {w : Writer} {key : BitVec 24} {bytes : List Byte}
    (h : isSealed key.toNat = true → s.clientWrite w key.toNat bytes = .next s) : runSealedEntryWrite w key bytes s = .next s := by
  unfold runSealedEntryWrite
  split
  · next hsealed => exact h hsealed
  · rfl

/-- Settles O14: each of these faults contradicts what a write that stands has passed. -/
theorem rejectedWritesChangeNothing : Obligations.RejectedWritesChangeNothing := by
  refine fun s w key bytes => ⟨fun h => ?_, fun h =>
    .of_run (exec_sealedEntryWrite ..) (sealedEntryWrite_rejected fun hs => by simp [h] at hs)⟩
  have hkept : s.clientWrite w key.toNat bytes = .next s := by
    refine clientWrite_rejected fun hserves r v hok => ?_
    obtain ⟨hrow, hro, hrwc, hneed, hdecode, hvalue⟩ := writeJudge_ok hok
    rcases h with h | h | ⟨r', hrow', h⟩
    · simp [h] at hserves
    · simp [h] at hrow
    obtain rfl : r' = r := Option.some_inj.1 (hrow'.symm.trans hrow)
    rcases h with h | h | h | ⟨e, h⟩ | ⟨v', h, hne⟩
    · exact hro h
    · exact hrwc h
    · exact absurd hneed (not_le.2 h)
    · simp [h] at hdecode
    · obtain rfl : v' = v := Except.ok.inj (h.symm.trans hdecode)
      exact hne hvalue
  exact ⟨.of_run (exec_registerWrite ..) hkept, .of_run (exec_sealedEntryWrite ..) (sealedEntryWrite_rejected fun _ => hkept)⟩

/-! ### SIG_CONFIRM (R149). -/

/-- R149: in a COMMISSION session any value of SIG_CONFIRM is judged. -/
theorem sigConfirm_stands {s : State} {w : Writer} (crc : Word) (hw : MayWrite s w 3) :
    runSigConfirm w crc s = .next (s.sigConfirm crc.toNat w.flash).1 := by
  have hdecode : Ty.u32.decode (le 4 crc.toNat) = .ok (.num (crc.toNat : Int)) := by
    have := crc.isLt
    simp [Ty.decode, leNat_le]
    omega
  obtain ⟨r, -, -, h⟩ := write_stands hw row_sigConfirm (by simp [namedLevel, needOf]) (.inl rfl) (by decide) hdecode rfl rfl
  exact h.trans (congrArg _ (effect_sigConfirm ..))

section
variable {s : State} {v : Nat} {flash : Bool}

theorem sigConfirm_otherValue (h : v ≠ s.sigComputed) : (s.sigConfirm v flash).1 = s := by
  rw [State.sigConfirm, if_pos h]

theorem sigConfirm_nothingStaged (hv : v = s.sigComputed) (hs : s.staged = []) (ha : s.nat Obj.SIG_STATE ≠ 0) :
    (s.sigConfirm v flash).1 = s := by
  rw [State.sigConfirm, if_neg (not_not.2 hv), if_pos ⟨by simp [hs], ha⟩]

/-- R149, step 4: the checks in their order; a failing one is reported where an entry shows it, and a set that passes them all is confirmed
where the flash takes it (log 208). -/
theorem sigConfirm_judged (hv : v = s.sigComputed) (hs : s.staged ≠ [] ∨ s.nat Obj.SIG_STATE = 0) :
    (s.sigConfirm v flash).1 = match s.asStaged.tableFails with
      | some (k, cell) => s.putN Obj.LOOP_REJECT (k * 65536 + cell : Nat)
      | none =>
        if s.asStaged.checksBefore = false then s
        else match s.asStaged.schedReject with
          | some r => s.putN Obj.SCHED_REJECT r
          | none => if s.asStaged.checksAfter = false ∨ flash = false then s else s.confirmStaged v := by
  have hjudged : ¬(s.staged.isEmpty = true ∧ s.nat Obj.SIG_STATE ≠ 0) := fun ⟨hnone, hactive⟩ =>
    hs.elim (fun h => h (List.isEmpty_iff.1 hnone)) hactive
  rw [State.sigConfirm, if_neg (not_not.2 hv), if_neg hjudged]
  cases s.asStaged.tableFails with
  | some failing => rfl
  | none =>
    cases s.asStaged.checksBefore with
    | false => rfl
    | true =>
      cases s.asStaged.schedReject with
      | some row => rfl
      | none => cases s.asStaged.checksAfter <;> cases flash <;> rfl

end

/-- Settles O17: that a set can pass every check rests on how the bank of R387 is counted (log 12). -/
theorem confirmationTakesAPassingSet : Obligations.ConfirmationTakesAPassingSet := fun s w crc hw =>
  ⟨fun hv => .of_run (exec_sigConfirm ..) (by rw [sigConfirm_stands crc hw, sigConfirm_otherValue hv]),
    fun hv hs ha => .of_run (exec_sigConfirm ..) (by rw [sigConfirm_stands crc hw, sigConfirm_nothingStaged hv hs ha]),
    fun hv hs => .of_run (exec_sigConfirm ..) ((sigConfirm_stands crc hw).trans (congrArg _ (sigConfirm_judged hv hs)))⟩

end Sys2Proof.Laws
end

section
/-!
PROOFS. The dictionary service: reads and writes of entries, whole and in segments (R128, R131, R141–R144, R148).
-/
namespace Sys2Proof.Laws
open Sys2Proof.Machine

/-! ### Whether a transfer may open, and whether an entry may be read (R128, R131, R143). -/

section
variable {s : State} {p : Pdu}

theorem initJudge_tagInUse (h : (s.transfer p.writer.client p.tag.toNat).isSome = true) : s.initJudge p = 0x05010001 := if_pos h

theorem initJudge_full (ht : s.transfer p.writer.client p.tag.toNat = none)
    (hf : 8 ≤ s.se.transfers.length ∨ 2 ≤ (s.se.transfers.filter fun t => t.client == p.writer.client).length) :
    s.initJudge p = 0x05010003 :=
  (if_neg (by simp [ht])).trans (if_pos hf)

theorem initJudge_free (ht : s.transfer p.writer.client p.tag.toNat = none)
    (hf : ¬(8 ≤ s.se.transfers.length ∨ 2 ≤ (s.se.transfers.filter fun t => t.client == p.writer.client).length)) :
    s.initJudge p = 0 :=
  (if_neg (by simp [ht])).trans (if_neg hf)

end

theorem readJudge_noIndex {key : Nat} (h : rowOf key = none) (hi : indexExists (key / 256) = false) : readJudge key = 0x06010001 := by
  simp [readJudge, h, hi]
theorem readJudge_noSub {key : Nat} (h : rowOf key = none) (hi : indexExists (key / 256) = true) : readJudge key = 0x06010002 := by
  simp [readJudge, h, hi]
theorem readJudge_writeOnly {key : Nat} {r : ObjRow} (h : rowOf key = some r) (ha : r.acc = .wo) : readJudge key = 0x06020002 := by
  simp [readJudge, h, ha]
theorem readJudge_readable {key : Nat} {r : ObjRow} (h : rowOf key = some r) (ha : r.acc ≠ .wo) : readJudge key = 0 := by
  simp [readJudge, h, ha]

/-! ### A message that reaches no service (R142, R144). -/

section
variable {s : State} {p : Pdu} (h : s.reaches p = false)
include h

theorem readInit_unreached : runReadInit p s = .next s := if_pos (by simp [h])
theorem readSeg_unreached : runReadSeg p s = .next s := if_pos (by simp [h])
theorem writeInit_unreached : runWriteInit p s = .next s := if_pos (by simp [h])
theorem writeSeg_unreached : runWriteSeg p s = .next s := if_pos (by simp [h])
theorem abort_unreached : runAbort p s = .next s := congrArg _ (if_neg (by simp [h]))
theorem unknownService_unreached : runUnknownService p s = .next s := congrArg _ (if_neg (by simp [h]))

end

/-! ### Messages that reach the service: reads (R141, R144). -/

section
variable {s : State} {p : Pdu} (hp : s.reaches p = true)
include hp

theorem abort_reached : runAbort p s = .next (s.endTransfer p.writer.client p.tag.toNat) := congrArg _ (if_pos hp)
theorem unknownService_reached : runUnknownService p s = .next (s.abort p 0x05010004) := congrArg _ (if_pos hp)

theorem readInit_rejected {code : AbortCode} (hj : s.initJudge p = code) (hc : code ≠ 0) :
    runReadInit p s = .next (s.breakTransfer p code) := by
  subst hj
  simp [runReadInit, hp, hc]

theorem readInit_unreadable {code : AbortCode} (hj : s.initJudge p = 0) (hk : readJudge (pduKey p) = code) (hc : code ≠ 0) :
    runReadInit p s = .next (s.abort p code) := by
  subst hk
  simp [runReadInit, hp, hj, hc]

/-- A value that fits the answer is whole in it. -/
theorem readInit_whole (hj : s.initJudge p = 0) (hk : readJudge (pduKey p) = 0) {bytes : List Byte} {t : State}
    (hr : (bytes, t) = s.readBytes p.writer.client (pduKey p)) (hn : bytes.length ≤ segLimit p.via) :
    runReadInit p s = .next (t.answer p 0x81 1 bytes.length bytes) := by
  simp [runReadInit, hp, hj, hk, ← hr, hn, List.take_of_length_le, b2n]

/-- A longer value opens a transfer. -/
theorem readInit_opens (hj : s.initJudge p = 0) (hk : readJudge (pduKey p) = 0) {bytes : List Byte} {t : State}
    (hr : (bytes, t) = s.readBytes p.writer.client (pduKey p)) (hn : segLimit p.via < bytes.length) :
    runReadInit p s = .next ((t.putTransfer (newTransfer p false bytes bytes.length (segLimit p.via) false)).answer p 0x81 0 bytes.length
      (bytes.take (segLimit p.via))) := by
  simp [runReadInit, hp, hj, hk, ← hr, Nat.not_le.2 hn, b2n]

theorem readSeg_noTransfer (ht : s.transfer p.writer.client p.tag.toNat = none) : runReadSeg p s = .next (s.abort p 0x05010001) := by
  simp [runReadSeg, hp, ht]

variable {t : Transfer} (ht : s.transfer p.writer.client p.tag.toNat = some t)
include ht

theorem readSeg_ofWrite (hw : t.write = true) : runReadSeg p s = .next (s.breakTransfer p 0x05010001) := by
  simp [runReadSeg, hp, ht, hw]

theorem readSeg_beyond (hw : t.write = false) (ho : t.total < p.word.toNat) :
    runReadSeg p s = .next (s.breakTransfer p 0x06040004) := by
  simp [runReadSeg, hp, ht, hw, ho]

theorem readSeg_outOfOrder (hw : t.write = false) (hb : p.word.toNat ≤ t.total) (ho : p.word.toNat ≠ t.sent) :
    runReadSeg p s = .next (s.breakTransfer p 0x05010001) := by
  simp [runReadSeg, hp, ht, hw, Nat.not_lt.2 hb, ho]

theorem readSeg_last (hw : t.write = false) (hb : p.word.toNat ≤ t.total) (ho : p.word.toNat = t.sent)
    (hn : t.total ≤ t.sent + segLimit p.via) : runReadSeg p s =
      .next ((s.endTransfer t.client t.tag).answer p 0x82 1 t.sent ((t.data.drop t.sent).take (segLimit p.via))) := by
  rw [ho] at hb
  simp [runReadSeg, hp, ht, hw, Nat.not_lt.2 hb, ho, hn, b2n]

theorem readSeg_more (hw : t.write = false) (hb : p.word.toNat ≤ t.total) (ho : p.word.toNat = t.sent)
    (hn : t.sent + segLimit p.via < t.total) : runReadSeg p s =
      .next ((s.putTransfer { t with sent := t.sent + segLimit p.via }).answer p 0x82 0 t.sent
        ((t.data.drop t.sent).take (segLimit p.via))) := by
  rw [ho] at hb
  simp [runReadSeg, hp, ht, hw, Nat.not_lt.2 hb, ho, Nat.not_le.2 hn, b2n]

end

/-! ### A transfer that times out (R143). -/

section
variable {s : State} {c : Client} {tag : Byte}

theorem segTimeout_noTransfer (ht : s.transfer c tag.toNat = none) : runSegTimeout c tag s = .next s := by
  simp [runSegTimeout, ht]

variable {t : Transfer} (ht : s.transfer c tag.toNat = some t)
include ht

theorem segTimeout_served (hs : s.serves c = true) : runSegTimeout c tag s =
    .next ((s.endTransfer c tag.toNat).sendPdu t.via (pduBytes 0x7F t.tag t.key 0 0x05010002 [])) := by
  simp [runSegTimeout, ht, hs]

theorem segTimeout_unserved (hs : s.serves c = false) : runSegTimeout c tag s = .next (s.endTransfer c tag.toNat) := by
  simp [runSegTimeout, ht, hs]

end

/-- Settles O57: each answer is that of the run in its case. -/
theorem readsAreServed : Obligations.ReadsAreServed := by
  refine fun s p => ⟨fun h => ?_, fun hp ht => ?_, fun hp ht full hfull => ⟨fun hf => ?_, fun hf => ?_, ?_⟩,
    fun t hp ht => ⟨fun hw => ?_, fun hw ho => ?_, fun hw hb ho => ?_, fun hw hb ho => ⟨fun hn => ?_, fun hn => ?_⟩⟩,
    fun hp => ?_, fun c tag => ⟨fun ht => ?_, fun t ht => ⟨fun hs => ?_, fun hs => ?_⟩⟩⟩
  · exact ⟨.of_run (exec_readInit ..) (readInit_unreached h), .of_run (exec_readSeg ..) (readSeg_unreached h),
      .of_run (exec_abort ..) (abort_unreached h), .of_run (exec_unknownService ..) (unknownService_unreached h)⟩
  · exact .of_run (exec_readInit ..) (readInit_rejected hp (initJudge_tagInUse ht) (by decide))
  · exact .of_run (exec_readInit ..) (readInit_rejected hp (initJudge_full ht (hfull.1 hf)) (by decide))
  · have hj : s.initJudge p = 0 := initJudge_free ht (mt hfull.2 hf)
    refine ⟨fun hrow hi => ?_, fun hrow hi => ?_, fun r hrow ha => ?_, fun r hrow ha bytes t hread => ⟨fun hn => ?_, fun hn => ?_⟩⟩
    · exact .of_run (exec_readInit ..) (readInit_unreadable hp hj (readJudge_noIndex hrow hi) (by decide))
    · exact .of_run (exec_readInit ..) (readInit_unreadable hp hj (readJudge_noSub hrow hi) (by decide))
    · exact .of_run (exec_readInit ..) (readInit_unreadable hp hj (readJudge_writeOnly hrow ha) (by decide))
    · exact .of_run (exec_readInit ..) (readInit_whole hp hj (readJudge_readable hrow ha) hread hn)
    · exact .of_run (exec_readInit ..) (readInit_opens hp hj (readJudge_readable hrow ha) hread hn)
  · exact .of_run (exec_readSeg ..) (readSeg_noTransfer hp ht)
  · exact .of_run (exec_readSeg ..) (readSeg_ofWrite hp ht hw)
  · exact .of_run (exec_readSeg ..) (readSeg_beyond hp ht hw ho)
  · exact .of_run (exec_readSeg ..) (readSeg_outOfOrder hp ht hw hb ho)
  · exact .of_run (exec_readSeg ..) (readSeg_last hp ht hw hb ho hn)
  · exact .of_run (exec_readSeg ..) (readSeg_more hp ht hw hb ho hn)
  · exact ⟨.of_run (exec_abort ..) (abort_reached hp), .of_run (exec_unknownService ..) (unknownService_reached hp)⟩
  · exact .of_run (exec_segTimeout ..) (segTimeout_noTransfer ht)
  · exact .of_run (exec_segTimeout ..) (segTimeout_served ht hs)
  · exact .of_run (exec_segTimeout ..) (segTimeout_unserved ht hs)

/-! ### Writes that are carried out (R144). -/

/-- R143: a segment of a write keeps to the limit of its transport and to the write's length, whose end alone is its last. -/
theorem segOk_iff (p : Pdu) (before total : Nat) : segOk p before total = true ↔
    p.data.length ≤ segLimit p.via ∧ before + p.data.length ≤ total ∧ (pduLast p = true ↔ before + p.data.length = total) := by
  rw [segOk, Bool.and_eq_true, decide_eq_true_iff, beq_iff_eq, Bool.eq_iff_iff, decide_eq_true_iff, and_assoc]

section
variable {s t : State} {p : Pdu} {key word : Nat} {bytes : List Byte} {code answer : Nat}

theorem writeDone_taken (h : (t, code) = s.dictWrite p.writer key bytes) (hc : code = 0) :
    s.writeDone p key bytes answer word = t.answer p answer 0 word [] := by
  simp [State.writeDone, ← h, hc]

theorem writeDone_rejected (h : (t, code) = s.dictWrite p.writer key bytes) (hc : code ≠ 0) :
    s.writeDone p key bytes answer word = t.abort p code := by
  simp [State.writeDone, ← h, hc]

end

/-! ### Messages that reach the service: writes (R141, R143, R148). -/

section
variable {s : State} {p : Pdu} (hp : s.reaches p = true)
include hp

theorem writeInit_rejected (hj : s.initJudge p ≠ 0) : runWriteInit p s = .next (s.breakTransfer p (s.initJudge p)) := by
  simp [runWriteInit, hp, hj]

theorem writeInit_badLength (hj : s.initJudge p = 0) (hk : segOk p 0 p.word.toNat = false) :
    runWriteInit p s = .next (s.abort p 0x06040001) := by
  simp [runWriteInit, hp, hj, hk]

theorem writeInit_opens (hj : s.initJudge p = 0) (hk : segOk p 0 p.word.toNat = true) (hl : pduLast p = false) :
    runWriteInit p s = .next ((s.putTransfer (newTransfer p true p.data p.word.toNat 0 (needsSession (pduKey p) p.data))).answer p 0x83 0
      p.data.length []) := by
  simp [runWriteInit, hp, hj, hk, hl]

theorem writeInit_whole (hj : s.initJudge p = 0) (hk : segOk p 0 p.word.toNat = true) (hl : pduLast p = true) :
    runWriteInit p s = .next (s.writeDone p (pduKey p) p.data 0x83 p.data.length) := by
  simp [runWriteInit, hp, hj, hk, hl]

theorem writeSeg_noTransfer (ht : s.transfer p.writer.client p.tag.toNat = none) : runWriteSeg p s = .next (s.abort p 0x05010001) := by
  simp [runWriteSeg, hp, ht]

variable {x : Transfer} (ht : s.transfer p.writer.client p.tag.toNat = some x)
include ht

theorem writeSeg_ofRead (hw : x.write = false) : runWriteSeg p s = .next (s.breakTransfer p 0x05010001) := by
  simp [runWriteSeg, hp, ht, hw]

variable (hw : x.write = true)
include hw

/-- R148: the session whose rights a write uses has closed. -/
theorem writeSeg_sessionClosed (hc : x.closed = true) (hs : x.session = true) :
    runWriteSeg p s = .next (s.breakTransfer p 0x06030001) := by
  simp [runWriteSeg, hp, ht, hw, hc, hs]

variable (hs : ¬(x.closed = true ∧ x.session = true))
include hs

theorem writeSeg_outOfOrder (ho : p.word.toNat ≠ x.data.length) : runWriteSeg p s = .next (s.breakTransfer p 0x05010001) := by
  simp [runWriteSeg, hp, ht, hw, hs, ho]

variable (ho : p.word.toNat = x.data.length)
include ho

theorem writeSeg_badLength (hk : segOk p x.data.length x.total = false) :
    runWriteSeg p s = .next (s.breakTransfer p 0x06040001) := by
  simp [runWriteSeg, hp, ht, hw, hs, ho, hk]

theorem writeSeg_more (hk : segOk p x.data.length x.total = true) (hl : pduLast p = false) :
    runWriteSeg p s = .next ((s.putTransfer { x with data := x.data ++ p.data }).answer p 0x84 0 x.data.length []) := by
  simp [runWriteSeg, hp, ht, hw, hs, ho, hk, hl]

theorem writeSeg_last (hk : segOk p x.data.length x.total = true) (hl : pduLast p = true) :
    runWriteSeg p s = .next ((s.endTransfer x.client x.tag).writeDone p x.key (x.data ++ p.data) 0x84 x.data.length) := by
  simp [runWriteSeg, hp, ht, hw, hs, ho, hk, hl]

end

/-- Settles O58: each answer is that of the run in its case. -/
theorem writesAreServed : Obligations.WritesAreServed := by
  refine fun s p => ⟨fun h => ⟨.of_run (exec_writeInit ..) (writeInit_unreached h), .of_run (exec_writeSeg ..) (writeSeg_unreached h)⟩,
    fun hp keeps hkeeps => ?_⟩
  have hok (before total : Nat) : segOk p before total = true ↔ keeps before total := by
    rw [hkeeps]
    exact segOk_iff ..
  have hbad (before total : Nat) (h : ¬keeps before total) : segOk p before total = false :=
    Bool.eq_false_of_not_eq_true (mt (hok ..).1 h)
  refine ⟨fun hj => ?_, fun hj hk => ?_, fun hj hk => ⟨fun hl => ?_, fun hl t code hdone => ⟨fun hc => ?_, fun hc => ?_⟩⟩, fun ht => ?_,
    fun x ht => ⟨fun hw => ?_, fun hw hc hs => ?_, fun hw hs => ?_⟩⟩
  · exact .of_run (exec_writeInit ..) (writeInit_rejected hp hj)
  · exact .of_run (exec_writeInit ..) (writeInit_badLength hp hj (hbad _ _ hk))
  · exact .of_run (exec_writeInit ..) (writeInit_opens hp hj ((hok ..).2 hk) hl)
  · exact .of_run (exec_writeInit ..) (by rw [writeInit_whole hp hj ((hok ..).2 hk) hl, writeDone_taken hdone hc])
  · exact .of_run (exec_writeInit ..) (by rw [writeInit_whole hp hj ((hok ..).2 hk) hl, writeDone_rejected hdone hc])
  · exact .of_run (exec_writeSeg ..) (writeSeg_noTransfer hp ht)
  · exact .of_run (exec_writeSeg ..) (writeSeg_ofRead hp ht hw)
  · exact .of_run (exec_writeSeg ..) (writeSeg_sessionClosed hp ht hw hc hs)
  · have hrights : ¬(x.closed = true ∧ x.session = true) := by simpa [imp_iff_not_or] using hs
    refine ⟨fun ho => ?_, fun ho hk => ?_, fun ho hk => ⟨fun hl => ?_, fun hl t code hdone => ⟨fun hc => ?_, fun hc => ?_⟩⟩⟩
    · exact .of_run (exec_writeSeg ..) (writeSeg_outOfOrder hp ht hw hrights ho)
    · exact .of_run (exec_writeSeg ..) (writeSeg_badLength hp ht hw hrights ho (hbad _ _ hk))
    · exact .of_run (exec_writeSeg ..) (writeSeg_more hp ht hw hrights ho ((hok ..).2 hk) hl)
    · exact .of_run (exec_writeSeg ..) (by rw [writeSeg_last hp ht hw hrights ho ((hok ..).2 hk) hl, writeDone_taken hdone hc])
    · exact .of_run (exec_writeSeg ..) (by rw [writeSeg_last hp ht hw hrights ho ((hok ..).2 hk) hl, writeDone_rejected hdone hc])

end Sys2Proof.Laws
end

section
/-!
PROOFS. Sessions: the opening by challenge and response, the close, lockouts and lapses (R135–R139, R148).
-/
namespace Sys2Proof.Laws
open Sys2Proof.Machine

/-! ### Whether a session may open (R136–R139). -/

section
variable {s : State} {code : Nat}

theorem openJudge_noCode (h : code = 0 ∨ 3 < code) : s.openJudge code = 0x06040003 := if_pos (by omega)

/-- R136: a COMMISSION session wants a second of rest. -/
theorem openJudge_moving (hk : s.bit Obj.KEY_STATE (code - 1) = true) (hc : code = 3) (hr : s.pw.rest < 100000000 ∨ s.atRest = false) :
    s.openJudge code = 0x06060002 :=
  (if_neg (by omega)).trans ((if_neg (by simp [hk])).trans (if_pos ⟨hc, by simpa using hr⟩))

variable (h1 : 1 ≤ code) (h3 : code ≤ 3)
include h1 h3

theorem openJudge_noKey (hk : s.bit Obj.KEY_STATE (code - 1) = false) : s.openJudge code = 0x06070001 :=
  (if_neg (by omega)).trans (if_pos (by simp [hk]))

theorem openJudge_mayOpen (hk : s.bit Obj.KEY_STATE (code - 1) = true) (hr : code ≠ 3 ∨ (100000000 ≤ s.pw.rest ∧ s.atRest = true)) :
    s.openJudge code = 0 := by
  have hrests : ¬(code = 3 ∧ (s.pw.rest < 100000000 ∨ (!s.atRest) = true)) := by
    rintro ⟨hc, hm⟩
    obtain ⟨hrest, hspeed⟩ := hr.resolve_left (not_not.2 hc)
    simp only [hspeed, Bool.not_true, Bool.false_eq_true, or_false] at hm
    omega
  exact (if_neg (by omega)).trans ((if_neg (by simp [hk])).trans (if_neg hrests))

end

/-! ### What the end and the start of a session leave. -/

theorem sessionEnd_current (s : State) : s.sessionEnd.nat Obj.SESSION_CURRENT = 0 := by
  have other : Obj.SESSION_CURRENT ≠ Obj.SESSION_OWNER := by decide
  exact nat_of_get (s := (s.putN Obj.SESSION_CURRENT 0).clear Obj.SESSION_OWNER) (n := 0) ((get_put_ne _ _ other).trans (get_put_self ..))

/-- R148: a transfer that used the rights of the session that ends is closed. -/
theorem sessionEnd_closes (s : State) : ∀ t ∈ s.sessionEnd.se.transfers, t.session = true → s.se.owner = some t.client → t.closed = true := by
  intro t ht hsession howner
  obtain ⟨u, -, rfl⟩ := List.mem_map.1 ht
  have hrights : u.session = true := hsession
  have howned : s.se.owner = some u.client := howner
  simp [howned, hrights]

section
variable (s : State) (c : Client) (code : Nat)

theorem sessionStart_get (k : Nat) : (s.sessionStart c code).get k =
    (((s.putN Obj.SESSION_CURRENT code).putN Obj.SESSION_OWNER (ownerWord c)).putN Obj.AUTH_FAILS 0).get k := rfl

theorem sessionStart_current : (s.sessionStart c code).nat Obj.SESSION_CURRENT = code :=
  nat_of_get (by simp (decide := true) [sessionStart_get, get_putN])

theorem sessionStart_authFails : (s.sessionStart c code).n Obj.AUTH_FAILS = 0 := by
  simp [State.n, sessionStart_get, get_putN]

end

/-! ### SESSION_OPEN (R137–R139). -/

/-- R135, R137: what a request to open a session leaves of the session and challenge before it. -/
def reopened (s : State) : State := (s.when s.se.owner.isSome (·.sessionEnd)).dropChallenge

theorem reopened_unowned {s : State} (h : s.se.owner = none) : reopened s = s.dropChallenge := by simp [reopened, h]
theorem reopened_owned {s : State} (h : s.se.owner.isSome = true) : reopened s = s.sessionEnd.dropChallenge := by simp [reopened, h]

section
variable {s : State} {p : Pdu} (code : Byte) (nonce : BitVec 128)

theorem sessionOpen_unreached (h : s.reaches p = false) : runSessionOpen p code nonce s = .next s := if_pos (by simp [h])

variable (hp : s.reaches p = true)
include hp

theorem sessionOpen_lockedOut (hl : 0 < s.se.lockout) : runSessionOpen p code nonce s = .next (s.abort p 0x06070002) := by
  simp [runSessionOpen, hp, hl]

variable (hl : s.se.lockout = 0)
include hl

theorem sessionOpen_heldByOther (ho : s.heldByOther p.writer.client = true) :
    runSessionOpen p code nonce s = .next (s.abort p 0x06070003) := by
  simp [runSessionOpen, hp, hl, ho]

variable (ho : s.heldByOther p.writer.client = false)
include ho

theorem sessionOpen_rejected {e : AbortCode} (hj : (reopened s).openJudge code.toNat = e) (he : e ≠ 0) :
    runSessionOpen p code nonce s = .next ((reopened s).abort p e) := by
  subst hj
  rw [reopened] at he
  simp [runSessionOpen, hp, hl, ho, he, reopened]

theorem sessionOpen_challenges (hj : (reopened s).openJudge code.toNat = 0) :
    runSessionOpen p code nonce s = .next ((reopened s).challenge p code.toNat (le 16 nonce.toNat)) := by
  rw [reopened] at hj
  simp [runSessionOpen, hp, hl, ho, hj, reopened]

end

/-! ### SESSION_RESPONSE (R136–R138). -/

section
variable {s : State} {p : Pdu} (mac : BitVec 256)

theorem sessionResponse_unreached (h : s.reaches p = false) : runSessionResponse p mac s = .next s := if_pos (by simp [h])

variable (hp : s.reaches p = true)
include hp

theorem sessionResponse_unchallenged (hc : s.se.challenge = none) : runSessionResponse p mac s = .next (s.abort p 0x06070001) := by
  simp [runSessionResponse, hp, hc]

variable {c : Client} {code : Nat} {lane nonce : List Byte} (hc : s.se.challenge = some (c, code, lane, nonce))
include hc

theorem sessionResponse_ofOther (ho : c ≠ p.writer.client) : runSessionResponse p mac s = .next (s.abort p 0x06070003) := by
  simp [runSessionResponse, hp, hc, ho]

variable (ho : c = p.writer.client) {key : List Byte} (hk : key = s.oct (Obj.KEY_SERVICE + (code - 1)))
include ho hk

theorem sessionResponse_wrong (hm : hmac key (challengeText 0x53 code lane nonce) ≠ le 32 mac.toNat) :
    runSessionResponse p mac s = .next (s.authFail.abort p 0x06070001) := by
  subst hk
  simp [runSessionResponse, hp, hc, ho, hm]

variable (hm : hmac key (challengeText 0x53 code lane nonce) = le 32 mac.toNat)
include hm

theorem sessionResponse_mayNotOpen (hj : s.openJudge code ≠ 0) :
    runSessionResponse p mac s = .next (s.dropChallenge.abort p (s.openJudge code)) := by
  subst hk
  simp [runSessionResponse, hp, hc, ho, hm, hj]

theorem sessionResponse_opens (hj : s.openJudge code = 0) : runSessionResponse p mac s =
    .next ((s.sessionStart c code).answer p 0x91 0 0 ((hmac key (challengeText 0x4C code lane nonce)).take 16)) := by
  subst hk
  simp [runSessionResponse, hp, hc, ho, hm, hj]

end

/-! ### SESSION_CLOSE and the ends without a request (R135, R141). -/

section
variable {s : State} {p : Pdu}

theorem sessionClose_unreached (h : s.reaches p = false) : runSessionClose p s = .next s := if_pos (by simp [h])

theorem sessionClose_owner (hp : s.reaches p = true) (ho : s.se.owner = some p.writer.client) :
    runSessionClose p s = .next (s.sessionEnd.answer p 0x92 0 0 []) := by
  simp [runSessionClose, hp, ho]

theorem sessionClose_noSession (hp : s.reaches p = true) (ho : s.se.owner = none) :
    runSessionClose p s = .next (s.answer p 0x92 0 0 []) := by
  simp [runSessionClose, hp, ho]

theorem sessionClose_ofOther (hp : s.reaches p = true) (hs : s.se.owner ≠ none) (ho : s.se.owner ≠ some p.writer.client) :
    runSessionClose p s = .next (s.abort p 0x06070003) := by
  simp [runSessionClose, hp, hs, ho]

theorem sessionIdleExpiry_ends (h : s.se.owner.isSome = true) : runSessionIdleExpiry s = .next s.sessionEnd := congrArg _ (if_pos h)
theorem sessionIdleExpiry_noSession (h : s.se.owner = none) : runSessionIdleExpiry s = .next s := congrArg _ (if_neg (by simp [h]))

theorem sessionOwnerSilence_ends {net node : BitVec 8} (h : s.se.owner = some (.ralune net node)) :
    runSessionOwnerSilence s = .next s.sessionEnd := by
  simp [runSessionOwnerSilence, h]

theorem sessionOwnerSilence_notRalune (h : s.se.owner = none ∨ s.se.owner = some .stream) : runSessionOwnerSilence s = .next s := by
  rcases h with h | h <;> simp [runSessionOwnerSilence, h]

end

/-- Settles O59: each answer is that of the run in its case, and each state's session is what its operation leaves. -/
theorem sessionsOpenAndClose : Obligations.SessionsOpenAndClose := by
  refine fun s => ⟨fun p code nonce => ⟨fun h => ?_, fun hp => ⟨fun hl => ?_, fun hl ho => ?_, fun hl ho =>
      ⟨reopened s, reopened_unowned, reopened_owned, fun hcode => ?_, fun h1 h3 => ⟨fun hk => ?_, fun hk =>
        ⟨fun hc hr => ?_, fun hr => ?_⟩⟩⟩⟩⟩,
    fun p mac => ⟨fun h => ?_, fun hp => ⟨fun hc => ?_, fun c code lane nonce hc => ⟨fun ho => ?_, fun ho key hk =>
      ⟨fun hm hj => ?_, fun hm hj => ⟨?_, sessionStart_current .., rfl, sessionStart_authFails .., rfl⟩, fun hm => ⟨?_, rfl⟩⟩⟩⟩⟩,
    fun p => ⟨fun h => ?_, fun hp => ⟨fun ho => ?_, fun ho => ?_, fun hs ho => ?_⟩⟩, fun h => ?_, fun h => ?_, fun ⟨net, node, h⟩ => ?_,
    fun h => ?_, ?_, ?_, rfl, rfl, sessionEnd_current s, sessionEnd_closes s⟩
  · exact .of_run (exec_sessionOpen ..) (sessionOpen_unreached code nonce h)
  · exact .of_run (exec_sessionOpen ..) (sessionOpen_lockedOut code nonce hp hl)
  · exact .of_run (exec_sessionOpen ..) (sessionOpen_heldByOther code nonce hp hl ho)
  · exact .of_run (exec_sessionOpen ..) (sessionOpen_rejected code nonce hp hl ho (openJudge_noCode hcode) (by decide))
  · exact .of_run (exec_sessionOpen ..) (sessionOpen_rejected code nonce hp hl ho (openJudge_noKey h1 h3 hk) (by decide))
  · exact .of_run (exec_sessionOpen ..) (sessionOpen_rejected code nonce hp hl ho (openJudge_moving hk hc hr) (by decide))
  · exact .of_run (exec_sessionOpen ..) (sessionOpen_challenges code nonce hp hl ho (openJudge_mayOpen h1 h3 hk hr))
  · exact .of_run (exec_sessionResponse ..) (sessionResponse_unreached mac h)
  · exact .of_run (exec_sessionResponse ..) (sessionResponse_unchallenged mac hp hc)
  · exact .of_run (exec_sessionResponse ..) (sessionResponse_ofOther mac hp hc ho)
  · exact .of_run (exec_sessionResponse ..) (sessionResponse_mayNotOpen mac hp hc ho hk hm hj)
  · exact .of_run (exec_sessionResponse ..) (sessionResponse_opens mac hp hc ho hk hm hj)
  · exact .of_run (exec_sessionResponse ..) (sessionResponse_wrong mac hp hc ho hk hm)
  · exact .of_run (exec_sessionClose ..) (sessionClose_unreached h)
  · exact .of_run (exec_sessionClose ..) (sessionClose_owner hp ho)
  · exact .of_run (exec_sessionClose ..) (sessionClose_noSession hp ho)
  · exact .of_run (exec_sessionClose ..) (sessionClose_ofOther hp hs ho)
  · exact .of_run (exec_sessionIdleExpiry ..) (sessionIdleExpiry_ends h)
  · exact .of_run (exec_sessionIdleExpiry ..) (sessionIdleExpiry_noSession h)
  · exact .of_run (exec_sessionOwnerSilence ..) (sessionOwnerSilence_ends h)
  · exact .of_run (exec_sessionOwnerSilence ..) (sessionOwnerSilence_notRalune h)
  · exact .of_run (exec_challengeLapse ..) rfl
  · exact .of_run (exec_lockoutExpiry ..) rfl

end Sys2Proof.Laws
end

section
/-!
PROOFS. What the converters deliver: integrations, offset averages, general-purpose windows and calibrations (R155–R176).
-/
namespace Sys2Proof.Laws
open Sys2Proof.Machine

/-! ### What a fault message leaves of the measuring units. -/

theorem Told.ms {s t : State} (h : Told s t) : t.ms = s.ms := (congrArg State.ms h.same :)

theorem Told.oct {s t : State} (h : Told s t) {k : Nat} (hk : k ≠ Obj.FAULT_DROPS) : t.oct k = s.oct k := by
  rw [State.oct, h.get k hk, State.oct]

theorem vmod_vset_self {α : Type} [Inhabited α] {n : Nat} (v : Vector α n) (i : Fin n) (x : α) (f : α → α) :
    vmod (vset v i x) i f = vset v i (f x) := by
  rw [vmod, vget_vset_self]
  exact Vector.setIfInBounds_setIfInBounds ..

/-! ### Integrations of the IC converters (R159, R160, R164). -/

section
variable {n : Fin 18} {s : State}

theorem icIntegrationStart_starts (ho : s.ms.opened = true) (hw : vget s.ms.whole (n.val / 3) = false) (hl : vget s.ms.legs n = none) :
    runIcIntegrationStart n s = .next { s with ms.integrating := vset s.ms.integrating n true } :=
  congrArg _ (if_pos (by simp [ho, hw, hl]))

theorem icIntegrationStart_idle (h : s.ms.opened = false ∨ vget s.ms.whole (n.val / 3) = true ∨ vget s.ms.legs n ≠ none) :
    runIcIntegrationStart n s = .next s := by
  refine congrArg _ (if_neg ?_)
  rintro ⟨ho, hw, hl⟩
  rcases h with h | h | h
  · simp [h] at ho
  · simp [h] at hw
  · exact h (Option.isNone_iff_eq_none.1 hl)

/-- R164: over the whole tick the integration time is the tick's own. -/
theorem icIntegrationEnd_freezes (c : Charge) (h : vget s.ms.integrating n = true) : runIcIntegrationEnd n c s =
    .next { s with
      ms.legs := vset s.ms.legs n (some (if vget s.ms.whole (n.val / 3) then { c with w := s.clk.tickLen / 2 } else c))
      ms.integrating := vset s.ms.integrating n false } := if_pos h

theorem icIntegrationEnd_idle (c : Charge) (h : vget s.ms.integrating n = false) : runIcIntegrationEnd n c s = .next s :=
  if_neg (by simp [h])

/-! ### The average of a shunt's offset (R164). -/

theorem shuntOffsetAverage_few (h : vget s.ms.offCount n < 16) : runShuntOffsetAverage n s = .next s := if_pos h

/-- R164: sixteen results are used up, and whether their average is beyond the limit is kept; it is reported when it comes to be so. -/
theorem shuntOffsetAverage_taken (h : 16 ≤ vget s.ms.offCount n) {beyond : Bool}
    (hb : decide (16 * s.n Obj.SHUNT_OFFSET_LIMIT < |vget s.ms.offSum n|) = beyond) :
    runShuntOffsetAverage n s = .next
      { s.when (beyond && !vget s.ms.offBeyond n)
          (·.raise (Src.ic n) Kind.SHUNT_OFFSET 1 (some (Config.roundQuot (vget s.ms.offSum n) 16))) with
        ms := { s.ms with offSum := vset s.ms.offSum n 0, offCount := vset s.ms.offCount n 0, offBeyond := vset s.ms.offBeyond n beyond } } := by
  rw [← Int.natCast_natAbs] at hb
  rw [runShuntOffsetAverage, if_neg (by omega)]
  dsimp only
  rw [hb, (when_told _ _ _ (raise_told ..)).ms]

end

/-! ### General-purpose windows (R168, R169). -/

section
variable {g : Fin 4} {s : State}

theorem gcSettleEnd_idle (h : (vget s.ms.gc g).wait = true ∨ (vget s.ms.gc g).window = true ∨ s.bit Obj.DOMAIN_STATUS 1 = false) :
    runGcSettleEnd g s = .next s := if_pos (by simpa using h)

/-- R168: the row that has settled is one of the table as it runs. -/
theorem gcSettleEnd_settles (hwait : (vget s.ms.gc g).wait = false) (hwin : (vget s.ms.gc g).window = false)
    (hup : s.bit Obj.DOMAIN_STATUS 1 = true) {c : Gc} (hc : c = { vget s.ms.gc g with table := s.gcTable g }) :
    runGcSettleEnd g s = .next (if scanTicks c.current then { s with ms.gc := vset s.ms.gc g { c with wait := true } }
      else ({ s with ms.gc := vset s.ms.gc g c } : State).gcOpen g) := by
  subst hc
  rw [runGcSettleEnd, if_neg (by simp [hwait, hwin, hup])]
  dsimp only
  rw [vget_vset_self, vmod_vset_self]

/-- R156, R168: what the charge of the window that has ended gives. -/
def windowResult (s : State) (g : Fin 4) (c : Charge) : Int × Nat :=
  resultOf { c with w := (vget s.ms.gc g).length } (s.n (Obj.GC_CAL_OFFSET g)) (s.n (Obj.GC_CAL_GAIN g))

/-- R179: the flags of the row whose window has ended. -/
def windowFlags (s : State) (g : Fin 4) (held clamped : Bool) : Nat :=
  statusFlags false false held clamped (vget s.ms.uncal (34 + g)) (vget s.ms.gc g).settled (scanRef (vget s.ms.gc g).current) g

/-- R168, R176: where a converter goes on: the next row, or the first one of the table that then runs. -/
def gcNext (s : State) (g : Fin 4) : Gc :=
  let wrap := (vget s.ms.gc g).table.length ≤ (vget s.ms.gc g).row + 1
  { next := (vget s.ms.gc g).next, row := if wrap then 0 else (vget s.ms.gc g).row + 1
    table := if ¬ wrap then (vget s.ms.gc g).table else if s.ms.calRun = 0 then scanRows (s.oct (Obj.GC_SCAN g)) else (vget s.ms.gc g).next }

theorem gcWindowEnd_open (c : Charge) (h : (vget s.ms.gc g).ended = false) : runGcWindowEnd g c s = .next s := if_neg (by simp [h])

/-- R173: in a calibration the channel's result stands as it was, and no clamp is judged. -/
theorem gcWindowEnd_held (c : Charge) (h : (vget s.ms.gc g).ended = true) (hc : s.calibrating (34 + g) = true) {ch : Nat}
    (hch : ch = scanCh (vget s.ms.gc g).current) :
    runGcWindowEnd g c s = .next (({ s with ms := { s.ms with
      gcReady := s.ms.gcReady ++ [(ch, s.node (320 + ch), windowFlags s g true false)], gc := vset s.ms.gc g (gcNext s g) } } : State).mirrorSupply
        ch (s.node (320 + ch))) := by
  subst hch
  rw [runGcWindowEnd, if_pos h]
  simp [hc, windowFlags, gcNext]

theorem gcWindowEnd_delivers (c : Charge) (h : (vget s.ms.gc g).ended = true) (hc : s.calibrating (34 + g) = false) {ch : Nat}
    (hch : ch = scanCh (vget s.ms.gc g).current) {r : Int × Nat} (hr : r = windowResult s g c) {t : State}
    (ht : t = s.when (r.2 != 0 && !vget s.ms.chClamped ch) (·.raise (Src.gc g) Kind.ADC_RANGE r.2)) :
    runGcWindowEnd g c s = .next (({ t with ms := { s.ms with
      chClamped := vset s.ms.chClamped ch (r.2 != 0), gcReady := s.ms.gcReady ++ [(ch, r.1, windowFlags s g false (r.2 != 0))]
      gc := vset s.ms.gc g (gcNext s g) } } : State).mirrorSupply ch r.1) := by
  have htold : Told s t := ht ▸ when_told _ _ _ (raise_told ..)
  have hscan : t.oct (Obj.GC_SCAN g) = s.oct (Obj.GC_SCAN g) := htold.oct (by unfold Obj.GC_SCAN Obj.FAULT_DROPS; omega)
  rw [windowResult] at hr
  rw [runGcWindowEnd, if_pos h]
  simp only [hc, Bool.false_eq_true, if_false, Bool.not_false, Bool.and_true, ← hch, ← hr, ← ht, htold.ms, hscan, windowFlags, gcNext,
    Bool.not_eq_true', decide_eq_false_iff_not]

end

/-- Settles O30: each command's run, under the condition that lets it deliver and under its negation. -/
theorem convertersDeliver : Obligations.ConvertersDeliver := by
  refine ⟨fun n s ho hw hl => ?_, fun n s h => ?_, fun n c s hi hw => ?_, fun n c s hi hw => ?_, fun n c s hi => ?_,
    fun n s h => ?_, fun n s h hw => ?_, fun n s h hb hr => ?_, fun n s h hb hr => ?_, fun g s hwait hwin hup ht => ?_,
    fun g s hwait hwin hup ht => ?_, fun g s h => ?_, fun g c s h => ?_, fun g c s h => ⟨fun hc => ?_, fun hc => ?_⟩,
    fun res s h => ?_, fun res s h => ?_⟩
  · exact .of_run (exec_icIntegrationStart ..) (icIntegrationStart_starts ho hw hl)
  · exact .of_run (exec_icIntegrationStart ..) (icIntegrationStart_idle h)
  · exact .of_run (exec_icIntegrationEnd ..) (by rw [icIntegrationEnd_freezes c hi, hw]; rfl)
  · exact .of_run (exec_icIntegrationEnd ..) (by rw [icIntegrationEnd_freezes c hi, hw]; rfl)
  · exact .of_run (exec_icIntegrationEnd ..) (icIntegrationEnd_idle c hi)
  · exact .of_run (exec_shuntOffsetAverage ..) (shuntOffsetAverage_few h)
  · exact .of_run (exec_shuntOffsetAverage ..) (shuntOffsetAverage_taken h (decide_eq_false (not_lt.2 hw)))
  · exact .of_run (exec_shuntOffsetAverage ..) (by rw [shuntOffsetAverage_taken h (decide_eq_true hb), hr]; rfl)
  · exact .of_run (exec_shuntOffsetAverage ..) (by rw [shuntOffsetAverage_taken h (decide_eq_true hb), hr]; rfl)
  · exact .of_run (exec_gcSettleEnd ..) ((gcSettleEnd_settles hwait hwin hup rfl).trans (congrArg _ (if_neg (Bool.not_eq_true _ ▸ ht))))
  · exact .of_run (exec_gcSettleEnd ..) ((gcSettleEnd_settles hwait hwin hup rfl).trans (congrArg _ (if_pos ht)))
  · exact .of_run (exec_gcSettleEnd ..) (gcSettleEnd_idle h)
  · exact .of_run (exec_gcWindowEnd ..) (gcWindowEnd_open c h)
  · exact .of_run (exec_gcWindowEnd ..) (gcWindowEnd_held c h hc rfl)
  · refine .of_run (exec_gcWindowEnd ..) (gcWindowEnd_delivers c h hc rfl rfl ?_)
    exact if_congr (by simp [windowResult]) rfl rfl
  · exact .of_run (exec_calibrationComplete ..) (congrArg _ (if_pos h))
  · exact .of_run (exec_calibrationComplete ..) (congrArg _ (if_neg h))

end Sys2Proof.Laws
end

section
/-!
PROOFS. References settle and fail; sensor supplies switch off, retry and latch (R170–R172, R178–R181).
-/
namespace Sys2Proof.Laws
open Sys2Proof.Machine

/-! ### References (R170–R172). -/

section
variable {s : State} {r : Ref}

/-- R170, R171, R180: what lets a reference settle while PD_MEAS is up. -/
def refMay (s : State) : Ref → Bool
  | .sup k => (vget s.ms.sup k).on
  | .refin => s.refinOk
  | .internal => true

theorem refinOk_iff : s.refinOk = true ↔ s.nodeU 443 = 0x50 ∨ (2000 ≤ s.refinMv ∧ s.refinMv ≤ 3000) := by
  simp [State.refinOk]

/-- The reading before channel 59's first result says nothing; after it, only a reading in the range lets REFIN settle. -/
theorem refMay_iff : refMay s r = true ↔ (∀ k, r = .sup k → (vget s.ms.sup k).on = true) ∧
    (r = .refin → s.nodeU 443 = 0x50 ∨ (2000 ≤ s.refinMv ∧ s.refinMv ≤ 3000)) := by
  cases r with
  | internal => simp [refMay]
  | refin => simp [refMay, refinOk_iff]
  | sup k => simp [refMay]

theorem refSettledSet_eq : runRefSettledSet r s = .next (if s.bit Obj.DOMAIN_STATUS 1 && refMay s r then
    { s.putBit Obj.REF_STATUS (refBit (refCode r)) true with ms.refRaised := vset s.ms.refRaised (refCode r) false } else s) := by
  cases r <;> rfl

theorem refSettledSet_settles (hup : s.bit Obj.DOMAIN_STATUS 1 = true) (hm : refMay s r = true) : runRefSettledSet r s =
    .next { s.putBit Obj.REF_STATUS (refBit (refCode r)) true with ms.refRaised := vset s.ms.refRaised (refCode r) false } :=
  refSettledSet_eq.trans (congrArg _ (if_pos (by simp [hup, hm])))

theorem refSettledSet_barred (h : s.bit Obj.DOMAIN_STATUS 1 = false ∨ ¬ refMay s r = true) : runRefSettledSet r s = .next s :=
  refSettledSet_eq.trans (congrArg _ (if_neg (by simpa [or_iff_not_imp_left] using h)))

theorem not_refMay (h : (∃ k, r = .sup k ∧ (vget s.ms.sup k).on = false) ∨
    (r = .refin ∧ s.nodeU 443 ≠ 0x50 ∧ (s.refinMv < 2000 ∨ 3000 < s.refinMv))) : ¬ refMay s r = true := by
  rw [refMay_iff]
  rintro ⟨hsup, hrefin⟩
  rcases h with ⟨k, hk, hoff⟩ | ⟨hr, hres, hout⟩
  · simp [hsup k hk] at hoff
  · have := hrefin hr
    omega

theorem refSettledClear_fails (h : s.refSettled (refCode r) = true) : runRefSettledClear r s = .next (s.refFail (refCode r)) :=
  congrArg _ (if_pos h)
theorem refSettledClear_unsettled (h : s.refSettled (refCode r) = false) : runRefSettledClear r s = .next s :=
  congrArg _ (if_neg (by simp [h]))

theorem refSettleTimeout_fails (hs : s.nat Obj.START_STEP < 12) (h : s.refSettled (refCode r) = false) :
    runRefSettleTimeout r s = .next { s.refFail (refCode r) with st.noLead := true } := congrArg _ (if_pos (by simp [hs, h]))
theorem refSettleTimeout_past (h : 12 ≤ s.nat Obj.START_STEP ∨ s.refSettled (refCode r) = true) : runRefSettleTimeout r s = .next s := by
  refine congrArg _ (if_neg ?_)
  rintro ⟨hs, hu⟩
  rcases h with h | h
  · omega
  · simp [h] at hu

end

/-! ### Sensor supplies (R178–R181). -/

section
variable {s : State} {k : Fin 4}

theorem supFault_off (high : Bool) (h : (vget s.ms.sup k).on = false) : runSupFault k high s = .next s := if_neg (by simp [h])

/-- R180, R181: the fault is raised and the supply is off before its reference is judged. -/
theorem supFault_switchesOff (high : Bool) (h : (vget s.ms.sup k).on = true) {t u : State}
    (ht : t = s.raise Src.supply (if high then Kind.SUPPLY_OV else Kind.SUPPLY_UV) (6 + k) (some (readingMv (53 + k) (s.node (320 + 53 + k)))))
    (hu : u = { t.putBit Obj.SUP_STATUS k true with ms.sup := vmod t.ms.sup k fun p => { p with on := false } }) :
    runSupFault k high s = .next (if u.refSettled (4 + k) then u.refFail (4 + k) else u) := by
  subst hu ht
  exact if_pos h

theorem supRetry_idle (ok : Bool) (h : s.bit Obj.SUP_STATUS k = false ∨ s.bit Obj.SUP_STATUS (4 + k) = true ∨ s.bit Obj.DOMAIN_STATUS 1 = false) :
    runSupRetry k ok s = .next s := by
  refine if_neg ?_
  rcases h with h | h | h <;> simp [h]

variable (hf : s.bit Obj.SUP_STATUS k = true) (hl : s.bit Obj.SUP_STATUS (4 + k) = false) (hup : s.bit Obj.DOMAIN_STATUS 1 = true)
include hf hl hup

theorem supRetry_recovers : runSupRetry k true s =
    .next { s.putBit Obj.SUP_STATUS k false with ms.sup := vset s.ms.sup k { on := true, failed := 0 } } := by
  simp [runSupRetry, hf, hl, hup]

theorem supRetry_fails {t : State} (ht : t = { s with ms.sup := vset s.ms.sup k { on := false, failed := (vget s.ms.sup k).failed + 1 } }) :
    runSupRetry k false s =
      .next (if s.nat Obj.SUP_RETRIES ≤ (vget s.ms.sup k).failed + 1 then t.putBit Obj.SUP_STATUS (4 + k) true else t) := by
  subst ht
  rw [runSupRetry, if_pos (by simp [hf, hl, hup]), if_neg Bool.false_ne_true]
  exact congrArg Host.Outcome.next (if_congr decide_eq_true_iff rfl rfl)

end

/-- Settles O31: each command's run, under the condition that lets it do something and under its negation. -/
theorem referencesAndSensorSupplies : Obligations.ReferencesAndSensorSupplies := by
  refine ⟨fun r s hup hsup hrefin => ?_, fun r s h => ?_, fun r s h => ?_, fun r s h => ?_, fun r s hs h => ?_, fun r s h => ?_,
    fun k high s h => ?_, fun k high s h => ⟨fun hr => ?_, fun hr => ?_⟩, fun k ok s h => ?_,
    fun k s hf hl hup => ⟨?_, fun h => ?_, fun h => ?_⟩⟩
  · exact .of_run (exec_refSettledSet ..) (refSettledSet_settles hup (refMay_iff.2 ⟨hsup, hrefin⟩))
  · exact .of_run (exec_refSettledSet ..) (refSettledSet_barred (h.imp_right not_refMay))
  · exact .of_run (exec_refSettledClear ..) (refSettledClear_fails h)
  · exact .of_run (exec_refSettledClear ..) (refSettledClear_unsettled h)
  · exact .of_run (exec_refSettleTimeout ..) (refSettleTimeout_fails hs h)
  · exact .of_run (exec_refSettleTimeout ..) (refSettleTimeout_past h)
  · exact .of_run (exec_supFault ..) (supFault_off high h)
  · exact .of_run (exec_supFault ..) ((supFault_switchesOff high h rfl rfl).trans (congrArg _ (if_pos hr)))
  · exact .of_run (exec_supFault ..) ((supFault_switchesOff high h rfl rfl).trans (congrArg _ (if_neg (Bool.not_eq_true _ ▸ hr))))
  · exact .of_run (exec_supRetry ..) (supRetry_idle ok h)
  · exact .of_run (exec_supRetry ..) (supRetry_recovers hf hl hup)
  · exact .of_run (exec_supRetry ..) ((supRetry_fails hf hl hup rfl).trans (congrArg _ (if_pos h)))
  · exact .of_run (exec_supRetry ..) ((supRetry_fails hf hl hup rfl).trans (congrArg _ (if_neg (not_le.2 h))))

end Sys2Proof.Laws
end

section
/-!
PROOFS. Edges of the feedback inputs: what is refused, what is counted, and what counting leaves of the counter (R184–R189, R304).
-/
namespace Sys2Proof.Laws
open Sys2Proof.Machine

/-! ### What the latch, the accumulator and the compare units leave of the counter. -/

theorem Told.n {s t : State} (h : Told s t) {k : Nat} (hk : k ≠ Obj.FAULT_DROPS) : t.n k = s.n k := by rw [State.n, h.get k hk, State.n]

section
variable (s : State) (m : Fin 12)

theorem raise_counter (src kind qual : Nat) (d : Option Int) :
    (s.raise src kind qual d).n (Obj.FB_COUNTER m) = s.n (Obj.FB_COUNTER m) :=
  (raise_told ..).n (by have := m.isLt; unfold Obj.FB_COUNTER Obj.FAULT_DROPS; omega)

theorem latchTrigger_counter (cause clock time : Nat) :
    (s.latchTrigger m cause clock time).n (Obj.FB_COUNTER m) = s.n (Obj.FB_COUNTER m) := by
  have status (t : State) (v : Int) : (t.putN (Obj.FB_STATUS m) v).n (Obj.FB_COUNTER m) = t.n (Obj.FB_COUNTER m) :=
    n_putN_ne _ _ (by unfold Obj.FB_COUNTER Obj.FB_STATUS; omega)
  unfold State.latchTrigger
  split_ifs
  · rfl
  · exact n_putN_ne _ _ (by unfold Obj.FB_COUNTER Obj.LATCH_CAUSE; omega)
  · refine (when_keeps (g := fun t => t.n (Obj.FB_COUNTER m)) (status ..) _).trans ((status ..).trans ?_)
    simp (disch := omega) [State.count, n_putN_ne, Obj.FB_COUNTER, Obj.LATCH_COUNT, Obj.LATCH_CAUSE, Obj.LATCH_TIME, Obj.LATCH_POSITION]
  · exact n_putN_ne _ _ (by unfold Obj.FB_COUNTER Obj.LATCH_OVERRUNS; omega)

theorem fbAccum_counter (d : Int) : (s.fbAccum m d).n (Obj.FB_COUNTER m) = s.n (Obj.FB_COUNTER m) := by
  have accum (v : Int) : (s.putN (Obj.EXT_ACCUM m) v).n (Obj.FB_COUNTER m) = s.n (Obj.FB_COUNTER m) :=
    n_putN_ne _ _ (by unfold Obj.FB_COUNTER Obj.EXT_ACCUM; omega)
  have status (t : State) (v : Int) : (t.putN (Obj.FB_STATUS m) v).n (Obj.FB_COUNTER m) = t.n (Obj.FB_COUNTER m) :=
    n_putN_ne _ _ (by unfold Obj.FB_COUNTER Obj.FB_STATUS; omega)
  unfold State.fbAccum
  split_ifs
  · rfl
  · refine (when_keeps (g := fun t => t.n (Obj.FB_COUNTER m)) ?_ _).trans (accum _)
    exact (raise_counter ..).trans ((status ..).trans (status ..))

theorem cmpCount_counter (back : Bool) (clock : Nat) : (s.cmpCount m back clock).n (Obj.FB_COUNTER m) = s.n (Obj.FB_COUNTER m) := by
  refine each_keeps (g := fun t => t.n (Obj.FB_COUNTER m)) (fun t u => ?_) _ _
  have unit (x : State) (v : Int) : (x.putN (Obj.CMP_STATUS m u) v).n (Obj.FB_COUNTER m) = x.n (Obj.FB_COUNTER m) :=
    n_putN_ne _ _ (by unfold Obj.FB_COUNTER Obj.CMP_STATUS; omega)
  dsimp only
  split_ifs
  · refine (when_keeps (g := fun x => x.n (Obj.FB_COUNTER m)) (latchTrigger_counter ..) _).trans ?_
    refine (n_putN_ne _ _ ?_).trans ((unit ..).trans (unit ..))
    unfold Obj.FB_COUNTER Obj.CMP_TIME
    omega
  · rfl

/-- R185: one count moves the counter by it, modulo 2^32, and no count leaves it. -/
theorem fbCount_counter (d : Int) (clock : Nat) : (s.fbCount m d clock).n (Obj.FB_COUNTER m) =
    if d = 0 then s.n (Obj.FB_COUNTER m) else (s.n (Obj.FB_COUNTER m) + d) % 2 ^ 32 := by
  unfold State.fbCount
  split_ifs
  · rfl
  · refine (cmpCount_counter ..).trans ((fbAccum_counter ..).trans ((n_putN_ne _ _ ?_).trans (n_putN_self ..)))
    unfold Obj.FB_COUNTER Obj.FB_STATUS
    omega

end

/-! ### Edges that come too close (R186, R187). -/

theorem tooClose_iff {gap clock : Nat} {last : Option Nat} :
    tooClose gap clock last = true ↔ ∃ t, last = some t ∧ t ≤ clock ∧ clock < t + gap := by
  cases last <;> simp [tooClose]

theorem fbClose_iff {s : State} {n clock : Nat} {own other : Option Nat} : s.fbClose n clock own other = true ↔
    tooClose (s.fbDelay n + 1) clock own = true ∨ (s.nat (Obj.FB_CLASS n) = 0 ∧ tooClose (s.fbDelay n + 1) clock other = true) := by
  simp [State.fbClose]

theorem fbReject_rejects (s : State) (n : Fin 12) : (vget (s.fbReject n).fb n).rejects = (vget s.fb n).rejects + 1 := by
  rw [State.fbReject, vmod, vget_vset_self]

/-- R186: the channel after the refused edges are counted as rejected pulses. -/
def refusedEdges (s : State) (n : Nat) (onA onB : Bool) : State := (s.when onA (·.fbReject n)).when onB (·.fbReject n)

/-! ### What accepted levels count (R185). -/

/-- The levels of a channel's inputs, as accepted at a filter clock. -/
def levelsPut (s : State) (n : Nat) (a b : Bool) (clock : Nat) : State :=
  { s with fb := vmod s.fb n fun f =>
    { f with a := a, b := b, indexed := f.indexed && f.a == a && f.b == b
             lastA := if f.a != a then some clock else f.lastA, lastB := if f.b != b then some clock else f.lastB } }

theorem levelsPut_a (s : State) (n : Fin 12) (a b : Bool) (clock : Nat) : (vget (levelsPut s n a b clock).fb n).a = a := by
  rw [levelsPut, vmod, vget_vset_self]
theorem levelsPut_rejects (s : State) (n : Fin 12) (a b : Bool) (clock : Nat) :
    (vget (levelsPut s n a b clock).fb n).rejects = (vget s.fb n).rejects := by
  rw [levelsPut, vmod, vget_vset_self]

/-- R185: the counts of a change of levels by class and mode, before FB_INVERT. -/
def levelCounts (cls mode stepEdge : Nat) (a0 b0 a b : Bool) : Int :=
  match cls with
  | 0 => (quadCount mode a0 b0 a b).getD 0
  | 1 => if (if stepEdge = 0 then !a0 && a else a0 && !a) then (if b then -1 else 1) else 0
  | _ => b2n (!a0 && a) - b2n (!b0 && b)

theorem levelCounts_same (cls mode stepEdge : Nat) (a b : Bool) : levelCounts cls mode stepEdge a b a b = 0 := by
  unfold levelCounts
  split <;> simp [quadCount]

/-- R185: STEP_EDGE selects the rising edge where it is 0, and the falling edge otherwise. -/
theorem stepEdge_iff {stepEdge : Nat} {a0 a : Bool} :
    (if stepEdge = 0 then !a0 && a else a0 && !a) = true ↔ a0 ≠ a ∧ (a = true ↔ stepEdge = 0) := by
  by_cases h : stepEdge = 0 <;> cases a0 <;> cases a <;> simp [h]

/-- R185: the sign that FB_INVERT gives a channel's counts. -/
def fbSign (t : State) (n : Nat) : Int := if t.on (Obj.FB_INVERT n) then -1 else 1

/-- R185, R186: what becomes of a channel once its levels `a` and `b` are accepted, `a0` and `b0` before. -/
def levelsCount (t : State) (n : Nat) (a0 b0 a b : Bool) (clock : Nat) : State :=
  match t.nat (Obj.FB_CLASS n) with
  | 0 =>
    match quadCount (t.nat (Obj.FB_COUNT_MODE n)) a0 b0 a b with
    | some d => t.fbCount n (fbSign t n * d) clock
    | none => { t.count (Obj.FB_QERRORS n) 32 with fb := vmod t.fb n fun f => { f with illegal := f.illegal + 1 } }
  | 1 =>
    t.fbCount n (if (if t.nat (Obj.STEP_EDGE n) = 0 then !a0 && a else a0 && !a) then (if b then -fbSign t n else fbSign t n) else 0) clock
  | _ => t.fbCount n (fbSign t n * ((b2n (!a0 && a) : Int) - b2n (!b0 && b))) clock

/-- R184–R187: edges too close are refused, the levels that remain are accepted, and their change is counted. -/
theorem fbEdge_levels (s : State) (n : Nat) (a b : Bool) (clock : Nat) : let f := vget s.fb n
    let refuseA := f.a != a && s.fbClose n clock f.lastA f.lastB
    let refuseB := f.b != b && s.fbClose n clock f.lastB f.lastA
    s.fbEdge n (.levels a b) clock = levelsCount (levelsPut (refusedEdges s n refuseA refuseB) n
      (if refuseA then f.a else a) (if refuseB then f.b else b) clock) n f.a f.b (if refuseA then f.a else a) (if refuseB then f.b else b) clock :=
  rfl

theorem fbCount_zero (t : State) (n clock : Nat) : t.fbCount n 0 clock = t := rfl

theorem levelsCount_same (t : State) (n : Nat) (a b : Bool) (clock : Nat) : levelsCount t n a b a b clock = t := by
  unfold levelsCount
  split <;> simp [quadCount, fbCount_zero]

theorem fbCount_signed (t : State) (n : Fin 12) (d : Int) (clock : Nat) : (t.fbCount n (fbSign t n * d) clock).n (Obj.FB_COUNTER n) =
    if d = 0 then t.n (Obj.FB_COUNTER n) else (t.n (Obj.FB_COUNTER n) + if t.n (Obj.FB_INVERT n) ≠ 0 then -d else d) % 2 ^ 32 := by
  rw [fbCount_counter, fbSign, State.on]
  by_cases h : t.n (Obj.FB_INVERT n) = 0 <;> simp [h]

theorem levelsCount_counter (t : State) (n : Fin 12) (a0 b0 a b : Bool) (clock : Nat) {d : Int}
    (hd : d = levelCounts (t.nat (Obj.FB_CLASS n)) (t.nat (Obj.FB_COUNT_MODE n)) (t.nat (Obj.STEP_EDGE n)) a0 b0 a b) :
    (levelsCount t n a0 b0 a b clock).n (Obj.FB_COUNTER n) = if d = 0 then t.n (Obj.FB_COUNTER n) else
      (t.n (Obj.FB_COUNTER n) + if t.n (Obj.FB_INVERT n) ≠ 0 then -d else d) % 2 ^ 32 := by
  subst hd
  unfold levelsCount levelCounts
  split
  · split
    · next d hquad => rw [hquad, Option.getD_some, fbCount_signed]
    · next hquad =>
      rw [hquad, Option.getD_none, if_pos rfl]
      exact n_putN_ne _ _ (by unfold Obj.FB_COUNTER Obj.FB_QERRORS; omega)
  · rw [← fbCount_signed t n _ clock]
    congr 2
    split_ifs <;> simp
  · exact fbCount_signed ..

section
variable {s : State} {n : Fin 12} {a b : Bool} {clock : Nat}

/-- Levels whose every edge keeps its distance are accepted as they are. -/
theorem fbEdge_accepted (hA : (vget s.fb n).a ≠ a → s.fbClose n clock (vget s.fb n).lastA (vget s.fb n).lastB = false)
    (hB : (vget s.fb n).b ≠ b → s.fbClose n clock (vget s.fb n).lastB (vget s.fb n).lastA = false) :
    s.fbEdge n (.levels a b) clock = levelsCount (levelsPut s n a b clock) n (vget s.fb n).a (vget s.fb n).b a b clock := by
  have onA : ((vget s.fb n).a != a && s.fbClose n clock (vget s.fb n).lastA (vget s.fb n).lastB) = false := by
    rw [Bool.and_eq_false_imp]
    exact fun h => hA (bne_iff_ne.1 h)
  have onB : ((vget s.fb n).b != b && s.fbClose n clock (vget s.fb n).lastB (vget s.fb n).lastA) = false := by
    rw [Bool.and_eq_false_imp]
    exact fun h => hB (bne_iff_ne.1 h)
  rw [fbEdge_levels, onA, onB]
  rfl

/-- R186, R187: an edge of A that comes too close leaves the levels as they are and is a rejected pulse (log 222). -/
theorem fbEdge_refused (ha : (vget s.fb n).a ≠ a) (hb : (vget s.fb n).b = b)
    (hc : s.fbClose n clock (vget s.fb n).lastA (vget s.fb n).lastB = true) :
    s.fbEdge n (.levels a b) clock = levelsPut (s.fbReject n) n (vget s.fb n).a (vget s.fb n).b clock := by
  have onA : ((vget s.fb n).a != a && s.fbClose n clock (vget s.fb n).lastA (vget s.fb n).lastB) = true := by simp [ha, hc]
  have onB : ((vget s.fb n).b != b && s.fbClose n clock (vget s.fb n).lastB (vget s.fb n).lastA) = false := by simp [hb]
  rw [fbEdge_levels, onA, onB, if_pos rfl, if_neg Bool.false_ne_true, ← hb, levelsCount_same]
  rfl

end

/-- Settles O33: an edge of A too close is refused; otherwise the accepted levels count by class and mode. -/
theorem inputEdgesCount : Obligations.InputEdgesCount := by
  intro s n a b clock a0 b0 mode x close hclose
  have hclosed (own other : Option Nat) : s.fbClose n clock own other = true ↔ close own ∨ (s.nat (Obj.FB_CLASS n) = 0 ∧ close other) := by
    rw [hclose]
    simp only [fbClose_iff, tooClose_iff, Nat.add_assoc]
  have hopen (own other : Option Nat) (h : ¬ close own ∧ (s.nat (Obj.FB_CLASS n) = 0 → ¬ close other)) :
      s.fbClose n clock own other = false := by
    rw [← Bool.not_eq_true, hclosed]
    rintro (hown | ⟨hquad, hother⟩)
    · exact h.1 hown
    · exact h.2 hquad hother
  refine ⟨fun ha hb hc => ?_, fun hA hB counts hcounts => ?_⟩
  · have hx : x = levelsPut (s.fbReject n) n a0 b0 clock := fbEdge_refused ha hb ((hclosed ..).2 hc)
    rw [hx]
    refine ⟨n_putN_ne _ _ ?_, ?_, ?_⟩
    · unfold Obj.FB_COUNTER Obj.FB_REJECTS; omega
    · exact levelsPut_a ..
    · exact (levelsPut_rejects ..).trans (fbReject_rejects ..)
  · have hx : x = levelsCount (levelsPut s n a b clock) n a0 b0 a b clock :=
      fbEdge_accepted (fun h => hopen _ _ (hA h)) fun h => hopen _ _ (hB h)
    have hcount (d : Int) (hd : d = levelCounts (s.nat (Obj.FB_CLASS n)) mode (s.nat (Obj.STEP_EDGE n)) a0 b0 a b) : counts d := by
      rw [hcounts, hx]
      exact levelsCount_counter _ _ _ _ _ _ _ hd
    clear_value a0 b0 mode
    refine ⟨fun hclass => ⟨fun ha hb => ?_, fun ha hb => ?_, fun ha hb hm => ?_, fun ha hb hm => ?_, fun ha hb hm => ?_, fun ha hb hm => ?_⟩,
      fun hclass edge hedge => ⟨fun h => ?_, fun h => ?_⟩, fun hclass => ⟨_, _, rfl, rfl, ?_⟩⟩
    all_goals refine hcount _ ?_
    · simp [levelCounts, hclass, quadCount, ha, hb]
    · simp [levelCounts, hclass, quadCount, ha, hb]
    · rcases hm with rfl | rfl <;> simp [levelCounts, hclass, quadCount, ha, hb]
    · simp [levelCounts, hclass, quadCount, ha, hb, hm]
    · simp [levelCounts, hclass, quadCount, ha, hb, hm]
    · rcases hm with rfl | rfl <;> simp [levelCounts, hclass, quadCount, ha, hb]
    · rw [hclass, levelCounts, if_pos (stepEdge_iff.2 (hedge.1 h))]
    · rw [hclass, levelCounts, if_neg (mt stepEdge_iff.1 (mt hedge.2 h))]
    · simp [levelCounts, hclass, b2n]

end Sys2Proof.Laws
end

section
/-!
PROOFS. Feedback inputs: edges that gears follow, the extension, index events and latch inputs (R184–R199, R300, R301).
-/
namespace Sys2Proof.Laws
open Sys2Proof.Machine

/-! ### The extension (R189, R190). -/

section
variable {n : Fin 12} {s : State}

theorem extensionRead_stopped (h : s.appStopped = true) : runExtensionRead n s = .next s := if_pos h

theorem extensionRead_extends (h : s.appStopped = false) (hv : s.bit (Obj.FB_STATUS n) 7 = true) : runExtensionRead n s =
    .next ((s.putN (Obj.EXT_ACCUM n) 0).putN (Obj.FB_EXT_POSITION n) (wrap64 (s.n (Obj.FB_EXT_POSITION n) + s.n (Obj.EXT_ACCUM n)))) :=
  (if_neg (by simp [h])).trans (congrArg _ (if_pos hv))

theorem extensionRead_empties (h : s.appStopped = false) (hv : s.bit (Obj.FB_STATUS n) 7 = false) :
    runExtensionRead n s = .next (s.putN (Obj.EXT_ACCUM n) 0) :=
  (if_neg (by simp [h])).trans (congrArg _ (if_neg (by simp [hv])))

end

/-! ### The index (R191–R194). -/

section
variable {s : State} {n clock : Nat}

/-- R191: is Z asserted in the gated state, for the first time since it was entered? -/
def indexGated (s : State) (n : Nat) : Bool :=
  s.nat (Obj.FB_CLASS n) != 0 ||
    (2 * b2n (vget s.fb n).b + b2n (vget s.fb n).a == s.nat (Obj.INDEX_GATE n) && !(vget s.fb n).indexed)

theorem indexGated_iff : indexGated s n = true ↔ s.nat (Obj.FB_CLASS n) ≠ 0 ∨
    (2 * b2n (vget s.fb n).b + b2n (vget s.fb n).a = s.nat (Obj.INDEX_GATE n) ∧ (vget s.fb n).indexed = false) := by
  simp [indexGated]

/-- R191: the index is recognised and counted. -/
def indexCounted (s : State) (n : Nat) : State :=
  ({ s with fb := vmod s.fb n fun f => { f with indexed := true } } : State).putN (Obj.FB_STATUS n)
    ((s.nat (Obj.FB_STATUS n) / 65536 + 1) % 65536 * 65536 + s.nat (Obj.FB_STATUS n) % 65536 : Nat)

theorem indexCounted_fbDelay (s : State) (n : Nat) : (indexCounted s n).fbDelay n = s.fbDelay n := by
  have kept {k : Nat} (hk : k ≠ Obj.FB_STATUS n) : (indexCounted s n).nat k = s.nat k := nat_putN_ne _ _ hk
  rw [State.fbDelay, kept (by unfold Obj.FB_FILTER_N Obj.FB_STATUS; omega), kept (by unfold Obj.FB_FILTER_DIV Obj.FB_STATUS; omega), State.fbDelay]

/-- R197: the channel once the index is counted and latched, before it is compared (log 219). -/
def indexMet (s : State) (n clock : Nat) : State := (indexCounted s n).latchTrigger n 0 clock (clock - s.fbDelay n)

theorem indexEvent_ungated (h : indexGated s n = false) : s.indexEvent n clock = s := if_neg (by simpa [indexGated] using h)

end

section
variable (u : State) (n : Nat) (actual : Int)

/-- R192: the index sets the reference. -/
def indexReferred : State := (u.putBit (Obj.FB_STATUS n) 5 true).putN (Obj.INDEX_REF n) actual

/-- R191–R194: what becomes of a channel whose index is met at a count. -/
def indexJudged : State :=
  if u.n (Obj.INDEX_CPR n) = 0 then u.putN (Obj.INDEX_REF n) actual
  else if !u.bit (Obj.FB_STATUS n) 5 then
    let first := indexReferred u n actual
    if first.nat (Obj.INDEX_HOME n) = 1 then
      (first.fbStep n (first.n (Obj.INDEX_HOME_COUNT n))).putN (Obj.INDEX_REF n) (first.n (Obj.INDEX_HOME_COUNT n))
    else first
  else
    let d := slipOf (u.n (Obj.INDEX_CPR n)) actual (u.n (Obj.INDEX_REF n))
    if d = 0 then u else u.indexSlip n actual d

theorem indexEvent_gated {s : State} {clock : Nat} (h : indexGated s n = true) :
    s.indexEvent n clock = indexJudged (indexMet s n clock) n (s.n (Obj.FB_COUNTER n)) := by
  rw [indexMet, ← indexCounted_fbDelay]
  exact if_pos h

theorem indexReferred_home : (indexReferred u n actual).nat (Obj.INDEX_HOME n) = u.nat (Obj.INDEX_HOME n) :=
  (nat_putN_ne _ _ (by unfold Obj.INDEX_HOME Obj.INDEX_REF; omega)).trans (nat_putN_ne _ _ (by unfold Obj.INDEX_HOME Obj.FB_STATUS; omega))

end

section
variable {u : State} {n : Nat} {actual : Int}

theorem indexJudged_noRevolution (hc : u.n (Obj.INDEX_CPR n) = 0) : indexJudged u n actual = u.putN (Obj.INDEX_REF n) actual := if_pos hc

variable (hc : u.n (Obj.INDEX_CPR n) ≠ 0)
include hc

theorem indexJudged_first (hv : u.bit (Obj.FB_STATUS n) 5 = false) (hh : u.nat (Obj.INDEX_HOME n) ≠ 1) :
    indexJudged u n actual = indexReferred u n actual :=
  (if_neg hc).trans ((if_pos (congrArg not hv)).trans (if_neg ((indexReferred_home ..).trans_ne hh)))

theorem indexJudged_home (hv : u.bit (Obj.FB_STATUS n) 5 = false) (hh : u.nat (Obj.INDEX_HOME n) = 1) : indexJudged u n actual =
    ((indexReferred u n actual).fbStep n ((indexReferred u n actual).n (Obj.INDEX_HOME_COUNT n))).putN (Obj.INDEX_REF n)
      ((indexReferred u n actual).n (Obj.INDEX_HOME_COUNT n)) :=
  (if_neg hc).trans ((if_pos (congrArg not hv)).trans (if_pos ((indexReferred_home ..).trans hh)))

variable (hv : u.bit (Obj.FB_STATUS n) 5 = true)
include hv

theorem indexJudged_agrees (h0 : slipOf (u.n (Obj.INDEX_CPR n)) actual (u.n (Obj.INDEX_REF n)) = 0) : indexJudged u n actual = u :=
  (if_neg hc).trans ((if_neg (by simp [hv])).trans (if_pos h0))

theorem indexJudged_slips (h0 : slipOf (u.n (Obj.INDEX_CPR n)) actual (u.n (Obj.INDEX_REF n)) ≠ 0) :
    indexJudged u n actual = u.indexSlip n actual (slipOf (u.n (Obj.INDEX_CPR n)) actual (u.n (Obj.INDEX_REF n))) :=
  (if_neg hc).trans ((if_neg (by simp [hv])).trans (if_neg h0))

end

/-! ### Latch inputs (R199). -/

/-- R199: LATCH_EDGE takes the rising edge where it is 0, the falling edge where it is 1, and both where it is 2. -/
theorem latchEdge_iff {e : Nat} {rising : Bool} :
    (e = 2 ∨ (e = 0 ∧ rising = true) ∨ (e = 1 ∧ (!rising) = true)) ↔ (e = 2 ∨ e = if rising then 0 else 1) := by
  cases rising <;> simp

theorem latchInputEdge_latches (k : Fin 4) (rising : Bool) (time : Nat) (s : State) : runLatchInputEdge k rising time s =
    .next (s.each 12 fun x n =>
      if x.nat (Obj.LATCH_INPUT n) = k.val ∧ (x.nat (Obj.LATCH_EDGE n) = 2 ∨ x.nat (Obj.LATCH_EDGE n) = if rising then 0 else 1)
      then x.latchTrigger n 1 (time + 8) time else x) := by
  refine congrArg (fun f => Host.Outcome.next (s.each 12 f)) ?_
  funext x n
  exact if_congr (and_congr_right' latchEdge_iff) rfl rfl

/-- Settles O32: each command's run, the index event's by the gate, the reference and the slip. -/
theorem feedbackCounts : Obligations.FeedbackCounts := by
  refine ⟨fun n e clock s => .of_run (exec_fbInputEdge ..) rfl, fun n s h => ?_, fun n s h hv => ?_, fun n s h hv => ?_,
    fun n clock s hclass hgate => ?_, fun n clock s hgate => ?_, fun k rising time s => ?_⟩
  · exact .of_run (exec_extensionRead ..) (extensionRead_stopped h)
  · exact .of_run (exec_extensionRead ..) (extensionRead_extends h hv)
  · exact .of_run (exec_extensionRead ..) (extensionRead_empties h hv)
  · have hshut : indexGated s n = false := by
      rw [← Bool.not_eq_true, indexGated_iff]
      rintro (hc | ⟨hg, hi⟩)
      · exact hc hclass
      · exact hgate.elim (fun h => h hg) (fun h => by simp [h] at hi)
    exact .of_run (exec_indexEvent ..) (by rw [runIndexEvent, indexEvent_ungated hshut])
  · have hopen : indexGated s n = true := indexGated_iff.2 hgate
    have event {v : State} (hv : indexJudged (indexMet s n clock) n (s.n (Obj.FB_COUNTER n)) = v) :
        Gives (.indexEvent n clock) s (v.gearsFollow n) :=
      .of_run (exec_indexEvent ..) (by rw [runIndexEvent, indexEvent_gated n hopen, hv])
    refine ⟨fun hc => ?_, fun hc hv hh => ?_, fun hc hv hh => ?_, fun hv hc h0 => ?_, fun hv hc h0 => ?_⟩
    · exact event (indexJudged_noRevolution hc)
    · exact event (indexJudged_first hc hv hh)
    · exact event (indexJudged_home hc hv hh)
    · exact event (indexJudged_agrees hc hv h0)
    · exact event (indexJudged_slips hc hv h0)
  · exact .of_run (exec_latchInputEdge ..) (latchInputEdge_latches ..)

end Sys2Proof.Laws
end

section
/-!
PROOFS. SENT: frames that are judged, delivered and rejected, their slow messages, and timeouts (R201–R205).
-/
namespace Sys2Proof.Laws
open Sys2Proof.Machine

theorem on_eq_false {s : State} {k : Nat} (h : s.n k = 0) : s.on k = false := by simp [State.on, h]
theorem on_eq_true {s : State} {k : Nat} (h : s.n k ≠ 0) : s.on k = true := by simp [State.on, h]

section
variable (s : State) (n : Fin 8) (f : SentFrame)

/-! ### What a frame leaves, accepted or not (R201, R202). -/

/-- R201: a channel that is on takes the length of a frame's calibration pulse, whatever becomes of the frame. -/
def sentMeasured : State :=
  { s.putN (Obj.SN_MEASURED_TICK n) (Config.roundQuot (10 * f.cal) 56) with sn := vset s.sn n { vget s.sn n with lastCal := some f.cal } }

theorem sentMeasured_n {k : Nat} (hk : k ≠ Obj.SN_MEASURED_TICK n) : (sentMeasured s n f).n k = s.n k := n_putN_ne _ _ hk
theorem sentMeasured_nat {k : Nat} (hk : k ≠ Obj.SN_MEASURED_TICK n) : (sentMeasured s n f).nat k = s.nat k := nat_putN_ne _ _ hk

theorem sentMeasured_channel : vget (sentMeasured s n f).sn n = { vget s.sn n with lastCal := some f.cal } := vget_vset_self ..

/-- R202: the channel counts a rejection, and takes its qualifier where it is the first of the beat (log 220). -/
def sentRejected (c : Sent) (q : Nat) : Sent := { c with rejected := c.rejected + 1, why := if c.rejected = 0 then q else c.why }

theorem sentRejected_of {c : Sent} {q r w : Nat} (hr : c.rejected = r) (hw : c.why = w) :
    sentRejected c q = { c with rejected := r + 1, why := if r = 0 then q else w } := by
  subst hr hw
  rfl

theorem sentReject_counts (q : Nat) : s.sentReject n q =
    { s.count (Obj.SN_ERRORS n) 32 with sn := vset s.sn n (sentRejected (vget s.sn n) q) } := rfl

/-- R202: a frame that fails a check also ends the slow message in progress. -/
theorem sentReject_endsSlow (q : Nat) : ({ s with sn := vmod s.sn n fun c => { c with slow := [] } } : State).sentReject n q =
    { s.count (Obj.SN_ERRORS n) 32 with sn := vset s.sn n { sentRejected (vget s.sn n) q with slow := [] } } :=
  congrArg (fun sn => { s.count (Obj.SN_ERRORS n) 32 with sn := sn }) (vmod_vset_self ..)

/-! ### An accepted frame (R201, R203–R205). -/

/-- R201, R203: what an accepted frame's data nibbles give. -/
def sentValue (d : List Nat) : Nat × Option Nat :=
  if s.nat (Obj.SN_FORMAT n) = 1 then (nibblesVal (d.take 3), some (nibblesVal (d.drop 3).reverse)) else (nibblesVal d, none)

/-- R205: the status nibbles that an accepted frame completes, the last 18 of them. -/
def sentRows : List (Bool × Bool) :=
  let status := f.nibbles.headD 12 - 12
  let all := (vget s.sn n).slow ++ [(status.testBit 3, status.testBit 2)]
  if s.nat (Obj.SN_SLOW_MODE n) = 0 then [] else all.drop (all.length - 18)

/-- R203, R204: an accepted frame waits for the tick edge. -/
def sentAccepted : State :=
  let v := sentValue s n (((f.nibbles.drop 1).take (s.nat (Obj.SN_NIBBLES n))).map (· - 12))
  { s with sn := vmod s.sn n fun c =>
    { c with accepted := (c.accepted + 1) % 65536, timeout := false, nibble := f.nibbles.headD 12 - 12, slow := sentRows s n f
             ready := some ⟨v.1, v.2, f.nibbles.headD 12 - 12, f.start - 100 * s.nat (Obj.SN_LATENCY n)⟩ } }

/-- R205: the slow message that status nibbles complete enters the table where its CRC agrees, and is a rejection where it does not. -/
def sentDelivered (x : State) (rows : List (Bool × Bool)) : State :=
  match x.slowMessage n rows with
  | some (id, data, true) => x.sentSlow n id data (sentEnd f)
  | some (_, _, false) => x.sentReject n 2
  | none => x

variable {s n f} (hon : s.n (Obj.SN_ENABLE n) ≠ 0)
include hon

theorem sentFrame_rejected (hq : s.sentJudge n f ≠ 0) {t : State} (ht : t = sentMeasured s n f) : runSentFrame n f s =
    .next { t.count (Obj.SN_ERRORS n) 32 with sn := vset t.sn n { sentRejected (vget t.sn n) (s.sentJudge n f) with slow := [] } } := by
  subst ht
  rw [← sentReject_endsSlow]
  exact (if_neg (by simp [on_eq_true hon])).trans (if_pos hq)

theorem sentFrame_accepted (hq : s.sentJudge n f = 0) {t : State} (ht : t = sentMeasured s n f) :
    runSentFrame n f s = .next (sentDelivered n f (sentAccepted t n f) (sentRows t n f)) := by
  subst ht
  exact (if_neg (by simp [on_eq_true hon])).trans (if_neg (not_not.2 hq))

end

/-! ### What the measured calibration pulse leaves of the channel's settings. -/

section
variable (s : State) (n : Fin 8) (f : SentFrame)

theorem sentValue_measured (d : List Nat) : sentValue (sentMeasured s n f) n d = sentValue s n d := by
  rw [sentValue, sentMeasured_nat s n f (by unfold Obj.SN_FORMAT Obj.SN_MEASURED_TICK; omega), sentValue]

theorem sentRows_measured : sentRows (sentMeasured s n f) n f = sentRows s n f := by
  rw [sentRows, sentMeasured_nat s n f (by unfold Obj.SN_SLOW_MODE Obj.SN_MEASURED_TICK; omega), sentMeasured_channel, sentRows]

theorem slowMessage_accepted (rows : List (Bool × Bool)) :
    (sentAccepted (sentMeasured s n f) n f).slowMessage n rows = s.slowMessage n rows := by
  have hmode : (sentAccepted (sentMeasured s n f) n f).nat (Obj.SN_SLOW_MODE n) = s.nat (Obj.SN_SLOW_MODE n) :=
    sentMeasured_nat s n f (by unfold Obj.SN_SLOW_MODE Obj.SN_MEASURED_TICK; omega)
  have hcrc : (sentAccepted (sentMeasured s n f) n f).n (Obj.SN_CRC_MODE n) = s.n (Obj.SN_CRC_MODE n) :=
    sentMeasured_n s n f (by unfold Obj.SN_CRC_MODE Obj.SN_MEASURED_TICK; omega)
  rw [State.slowMessage, hmode, State.on, hcrc, State.slowMessage, State.on]

theorem slowMessage_off {rows : List (Bool × Bool)} (h : s.nat (Obj.SN_SLOW_MODE n) = 0) : s.slowMessage n rows = none := by
  simp [State.slowMessage, h]

theorem sentAccepted_rejected : (vget (sentAccepted (sentMeasured s n f) n f).sn n).rejected = (vget s.sn n).rejected := by
  rw [sentAccepted, vmod, vget_vset_self, sentMeasured_channel]
theorem sentAccepted_why : (vget (sentAccepted (sentMeasured s n f) n f).sn n).why = (vget s.sn n).why := by
  rw [sentAccepted, vmod, vget_vset_self, sentMeasured_channel]

/-- The settings of an accepted frame are those that stood before it. -/
theorem sentAccepted_measured {t : State} (ht : t = sentMeasured s n f) {v : Nat × Option Nat}
    (hv : v = sentValue s n (((f.nibbles.drop 1).take (s.nat (Obj.SN_NIBBLES n))).map (· - 12))) :
    sentAccepted t n f = { t with sn := vmod t.sn n fun c =>
      { c with accepted := (c.accepted + 1) % 65536, timeout := false, nibble := f.nibbles.headD 12 - 12, slow := sentRows s n f
               ready := some ⟨v.1, v.2, f.nibbles.headD 12 - 12, f.start - 100 * s.nat (Obj.SN_LATENCY n)⟩ } } := by
  subst ht hv
  rw [sentAccepted, sentRows_measured, sentMeasured_nat s n f (by unfold Obj.SN_NIBBLES Obj.SN_MEASURED_TICK; omega), sentValue_measured,
    sentMeasured_nat s n f (by unfold Obj.SN_LATENCY Obj.SN_MEASURED_TICK; omega)]

end

/-! ### Timeouts (R203). -/

section
variable {s : State} {n : Fin 8} (micros : Nat)

theorem sentFrame_off (f : SentFrame) (h : s.n (Obj.SN_ENABLE n) = 0) : runSentFrame n f s = .next s := if_pos (by simp [on_eq_false h])

theorem sentTimeout_raised (h : s.n (Obj.SN_ENABLE n) ≠ 0) (ht : (vget s.sn n).timeout = false) : runSentTimeout n micros s =
    .next ({ s with sn := vmod s.sn n fun c => { c with timeout := true } }.raise (Src.sn n) Kind.SENT_TIMEOUT 1 (some micros)) :=
  if_pos (by simp [on_eq_true h, ht])

theorem sentTimeout_idle (h : s.n (Obj.SN_ENABLE n) = 0 ∨ (vget s.sn n).timeout = true) : runSentTimeout n micros s = .next s := by
  refine if_neg ?_
  rcases h with h | h
  · simp [on_eq_false h]
  · simp [h]

end

/-- Settles O34: a frame by its judgement and by the slow message it completes, a timeout by whether it stands already. -/
theorem sentFramesAreJudged : Obligations.SentFramesAreJudged := by
  intro s n
  refine ⟨fun f => ⟨fun hoff => ?_, fun hon => ⟨fun hq => ?_, fun hq => ?_⟩⟩, fun micros => ⟨fun h => ?_, fun hon ht => ?_⟩⟩
  · exact .of_run (exec_sentFrame ..) (sentFrame_off f hoff)
  · refine .of_run (exec_sentFrame ..) ((sentFrame_rejected hon hq rfl).trans ?_)
    rw [sentRejected_of (congrArg Sent.rejected (sentMeasured_channel ..)) (congrArg Sent.why (sentMeasured_channel ..))]
    rfl
  · let d := ((f.nibbles.drop 1).take (s.nat (Obj.SN_NIBBLES n))).map (· - 12)
    let x := sentAccepted (sentMeasured s n f) n f
    have hx := sentAccepted_measured s n f rfl (v := sentValue s n d) rfl
    have delivers {u : State} (hu : sentDelivered n f x (sentRows s n f) = u) : Gives (.sentFrame n f) s u :=
      .of_run (exec_sentFrame ..) ((sentFrame_accepted hon hq rfl).trans (congrArg _ (by rw [sentRows_measured, hu])))
    refine ⟨d, (sentValue s n d).1, (sentValue s n d).2, f.nibbles.headD 12 - 12, _, sentRows s n f, x, rfl, rfl, fun hf => ?_, fun hf => ?_, rfl, rfl, hx,
      fun hs => ?_, fun id data hs => ?_, fun id data hs => ?_⟩
    · simp [sentValue, hf]
    · simp [sentValue, hf]
    · refine delivers ?_
      have hnone : s.slowMessage n (sentRows s n f) = none := hs.elim (slowMessage_off s n) id
      rw [sentDelivered, slowMessage_accepted, hnone]
    · refine delivers ?_
      rw [sentDelivered, slowMessage_accepted, hs]
    · refine delivers ?_
      rw [sentDelivered, slowMessage_accepted, hs, sentReject_counts,
        sentRejected_of (sentAccepted_rejected ..) (sentAccepted_why ..)]
  · exact .of_run (exec_sentTimeout ..) (sentTimeout_idle micros h)
  · exact .of_run (exec_sentTimeout ..) (sentTimeout_raised micros hon ht)

end Sys2Proof.Laws
end

section
/-!
PROOFS. Hall sets and observers: sectors and edges, invalid codes, and sensors that give no sample (R206, R207, R211, R212, R268, R380).
-/
namespace Sys2Proof.Laws
open Sys2Proof.Machine

/-! ### Hall edges at the main die (R206, R207). -/

section
variable (s : State) (a : Fin 6) (code clock : Nat)

/-- R206: the new sector and the code are taken at once. -/
def hallTaken : State :=
  { s.putN (Obj.HALL_SECTOR a) (hallSector (s.nat (Obj.HALL_DIR a)) code) with
    hall := vset s.hall a { vget s.hall a with code := code, badTicks := 0, badRaised := false } }

/-- R207: the time of an edge is the filter's delay before its filter clock. -/
def hallTime : Nat := clock - s.nat (Obj.HALL_FILTER_N a) * s.nat (Obj.HALL_FILTER_DIV a)

/-- R206, R207: what a step to a neighbouring sector records: the boundary, its time, and what the aligned counter stood at. -/
def hallStepped (t : State) (angle time last : Nat) (back : Bool) : State :=
  let t := t.putN (Obj.HALL_EDGE_TIME a) (time % 2 ^ 64 : Nat)
  let t := { t with hall := vmod t.hall a fun h => { h with edge := some (angle, time), interval := some (time - last), back := back } }
  t.when (t.nat (Obj.HALL_ALIGN_FB a) ≤ 11) fun t =>
    (t.putN (Obj.HALL_CAPT_COUNT a) (t.n (Obj.FB_COUNTER (t.nat (Obj.HALL_ALIGN_FB a))))).putN (Obj.HALL_CAPT_TIME a) (time % 2 ^ 64 : Nat)

variable {s a code clock} {old new : Nat} (ho : old = s.nat (Obj.HALL_SECTOR a)) (hn : new = hallSector (s.nat (Obj.HALL_DIR a)) code)
include ho hn

theorem hallEdge_none (h : new = 7 ∨ old = 7 ∨ new = old) : s.hallEdge a code clock = (hallTaken s a code, none) := by
  subst ho hn
  exact if_pos h

theorem hallEdge_jump (h : ¬ (new = 7 ∨ old = 7 ∨ new = old)) (hj : new ≠ (old + 1) % 6 ∧ old ≠ (new + 1) % 6) {t : State}
    (ht : t = hallTaken s a code) : s.hallEdge a code clock =
      ({ t with hall := vmod t.hall a fun h => { h with disagreed := true } }.raise (Src.ax a) Kind.ANGLE_DISAGREE 4 (some code), none) := by
  subst ho hn ht
  exact (if_neg h).trans (if_pos hj)

theorem hallEdge_step (h : ¬ (new = 7 ∨ old = 7 ∨ new = old)) (hj : ¬ (new ≠ (old + 1) % 6 ∧ old ≠ (new + 1) % 6)) {t : State}
    (ht : t = hallTaken s a code) {back : Bool} (hb : back = decide (new ≠ (old + 1) % 6)) {angle : Nat}
    (hangle : angle = t.hallAngle a (if back then new + 1 else new)) : s.hallEdge a code clock =
      (hallStepped a t angle (hallTime s a clock) (t.nat (Obj.HALL_EDGE_TIME a)) back, some (angle, hallTime s a clock)) := by
  subst ho hn ht hb hangle
  exact (if_neg h).trans (if_neg hj)

end

/-! ### What an edge leaves of the hall set's entries. -/

theorem Told.hall {s t : State} (h : Told s t) : t.hall = s.hall := (congrArg State.hall h.same :)

section
variable (s : State) (a : Fin 6) (code clock : Nat)

theorem hallTaken_n {k : Nat} (hk : k ≠ Obj.HALL_SECTOR a) : (hallTaken s a code).n k = s.n k := n_putN_ne _ _ hk

theorem hallTaken_sector : (hallTaken s a code).nat (Obj.HALL_SECTOR a) = hallSector (s.nat (Obj.HALL_DIR a)) code := nat_putN_self ..

theorem hallTaken_angle (k : Nat) : (hallTaken s a code).hallAngle a k = s.hallAngle a k := by
  rw [State.hallAngle, State.nat, hallTaken_n s a code (by unfold Obj.HALL_OFFSET Obj.HALL_SECTOR; omega), State.hallAngle, State.nat]

theorem hallStepped_sector (t : State) (angle time last : Nat) (back : Bool) :
    (hallStepped a t angle time last back).nat (Obj.HALL_SECTOR a) = t.nat (Obj.HALL_SECTOR a) := by
  refine (when_keeps (g := fun x => x.nat (Obj.HALL_SECTOR a)) ?_ _).trans
    (nat_putN_ne _ _ (by unfold Obj.HALL_SECTOR Obj.HALL_EDGE_TIME; omega))
  exact (nat_putN_ne _ _ (by unfold Obj.HALL_SECTOR Obj.HALL_CAPT_TIME; omega)).trans
    (nat_putN_ne _ _ (by unfold Obj.HALL_SECTOR Obj.HALL_CAPT_COUNT; omega))

/-- R206: whatever the edge, the sector is that of the new code. -/
theorem hallEdge_sector : (s.hallEdge a code clock).1.nat (Obj.HALL_SECTOR a) = hallSector (s.nat (Obj.HALL_DIR a)) code := by
  rw [← hallTaken_sector]
  by_cases hnone : hallSector (s.nat (Obj.HALL_DIR a)) code = 7 ∨ s.nat (Obj.HALL_SECTOR a) = 7 ∨
      hallSector (s.nat (Obj.HALL_DIR a)) code = s.nat (Obj.HALL_SECTOR a)
  · rw [hallEdge_none rfl rfl hnone]
  by_cases hjump : hallSector (s.nat (Obj.HALL_DIR a)) code ≠ (s.nat (Obj.HALL_SECTOR a) + 1) % 6 ∧
      s.nat (Obj.HALL_SECTOR a) ≠ (hallSector (s.nat (Obj.HALL_DIR a)) code + 1) % 6
  · rw [hallEdge_jump rfl rfl hnone hjump rfl, State.nat, (raise_told ..).n]
    · rfl
    · have := a.isLt
      unfold Obj.HALL_SECTOR Obj.FAULT_DROPS
      omega
  · rw [hallEdge_step rfl rfl hnone hjump rfl rfl rfl, hallStepped_sector]

end

/-! ### Hall edges at both dies (R268, R380). -/

section
variable {s : State} {a code clock : Nat}

theorem mainHallEdge_noEdge (h : (s.hallEdge a code clock).2 = none) : s.mainHallEdge a code clock = (s.hallEdge a code clock).1 := by
  simp [State.mainHallEdge, h]

theorem mainHallEdge_aligns {angle time : Nat} (h : (s.hallEdge a code clock).2 = some (angle, time)) :
    s.mainHallEdge a code clock = ((s.hallEdge a code clock).1.axAlign a false angle).axAlign a true angle := by
  simp [State.mainHallEdge, h]

end

/-! ### Invalid codes and observers that coast (R206, R211, R212). -/

section
variable {s : State}

theorem hallInvalidCode_disagrees {a : Fin 6} (ht : s.nat (Obj.HALL_BAD_TICKS a) ≤ (vget s.hall a).badTicks)
    (hr : (vget s.hall a).badRaised = false) : runHallInvalidCode a s =
      .next ({ s with hall := vset s.hall a { vget s.hall a with badRaised := true, disagreed := true } }.raise (Src.ax a) Kind.ANGLE_DISAGREE 3
        (some (vget s.hall a).code)) := if_pos ⟨ht, by simp [hr]⟩

theorem hallInvalidCode_idle {a : Fin 6} (h : (vget s.hall a).badTicks < s.nat (Obj.HALL_BAD_TICKS a) ∨ (vget s.hall a).badRaised = true) :
    runHallInvalidCode a s = .next s := by
  refine if_neg ?_
  rintro ⟨ht, hr⟩
  rcases h with h | h
  · omega
  · simp [h] at hr

theorem observerCoast_coasts {o : Fin 12} (hlo : 0x10 ≤ s.nat (Obj.OB_SOURCE o)) (hhi : s.nat (Obj.OB_SOURCE o) ≤ 0x1F)
    (hv : (vget s.ob o).valid = true) (hm : s.nat (Obj.OB_COAST_MAX o) ≠ 0) (hc : (vget s.ob o).coast = false) : runObserverCoast o s =
      .next ({ s with ob := vset s.ob o { vget s.ob o with coast := true, coastTicks := 0, coastLost := false } }.obsStatus o) :=
  if_pos ⟨hlo, hhi, hv, hm, by simp [hc]⟩

theorem observerCoast_idle {o : Fin 12} (h : s.nat (Obj.OB_SOURCE o) < 0x10 ∨ 0x1F < s.nat (Obj.OB_SOURCE o) ∨ (vget s.ob o).valid = false ∨
    s.nat (Obj.OB_COAST_MAX o) = 0 ∨ (vget s.ob o).coast = true) : runObserverCoast o s = .next s := by
  refine if_neg ?_
  rintro ⟨hlo, hhi, hv, hm, hc⟩
  rcases h with h | h | h | h | h
  · omega
  · omega
  · simp [h] at hv
  · exact hm h
  · simp [h] at hc

end

/-- Settles O35: a code change at each die whose filter it has passed, by the sectors before and after it; then the bad code and the coast. -/
theorem hallsAndObservers : Obligations.HallsAndObservers := by
  refine fun s => ⟨fun a code clock chap own => ⟨?_, fun h => ?_, fun angle time h => ?_, fun old new ho hn => ⟨?_, fun h => ?_,
    fun hnew hold h => ?_, fun hnew hold h => ?_, fun hnew hold hne hup hdown => ?_⟩⟩, fun a => ⟨fun ht hr => ?_, fun h => ?_⟩,
    fun o => ⟨fun hlo hhi hv hm hc => ?_, fun h => ?_⟩⟩
  · exact .of_run (exec_hallEdge ..) rfl
  · exact .of_run (exec_hallEdge ..) (by rw [runHallEdge, when_true, mainHallEdge_noEdge h])
  · exact .of_run (exec_hallEdge ..) (by rw [runHallEdge, when_true, mainHallEdge_aligns h])
  · rw [hallEdge_sector, hn]
  · rw [hallEdge_none ho hn h]
    exact ⟨rfl, hallTaken_n _ _ _ (by unfold Obj.HALL_EDGE_TIME Obj.HALL_SECTOR; omega)⟩
  · rw [hallEdge_step ho hn (by omega) (by omega) rfl (back := false) (by simp [h]) rfl, hallTaken_angle]
    rfl
  · rw [hallEdge_step ho hn (by omega) (by omega) rfl (back := true) (by simp; omega) rfl, hallTaken_angle]
    rfl
  · rw [hallEdge_jump ho hn (by omega) ⟨hup, hdown⟩ rfl]
    refine ⟨rfl, ?_⟩
    rw [(raise_told ..).hall, vmod, vget_vset_self]
  · exact .of_run (exec_hallInvalidCode ..) (hallInvalidCode_disagrees ht hr)
  · exact .of_run (exec_hallInvalidCode ..) (hallInvalidCode_idle h)
  · exact .of_run (exec_observerCoast ..) (observerCoast_coasts hlo hhi hv hm hc)
  · exact .of_run (exec_observerCoast ..) (observerCoast_idle h)

end Sys2Proof.Laws
end

section
/-!
PROOFS. Writes of the entries of feedback channels, observers, cells and the trace (R190–R198, R211, R216, R237, R245–R248).
-/
namespace Sys2Proof.Laws
open Sys2Proof.Machine

/-! ### Numbers as they are written (R127). -/

theorem pow_256 (k : Nat) : 256 ^ k = 2 ^ (8 * k) := (pow_mul 2 8 k).symm

theorem leNat_le_toNat {k : Nat} (v : BitVec (8 * k)) : leNat (le k v.toNat) = v.toNat := by
  rw [leNat_le, pow_256, Nat.mod_eq_of_lt v.isLt]

theorem leSigned_le_toNat {k : Nat} (v : BitVec (8 * k)) : leSigned (le k v.toNat) = v.toInt := by
  rw [leSigned, leNat_le_toNat, length_le, pow_256, BitVec.toInt]
  refine if_congr Iff.rfl rfl ?_
  rw [← pow_256]
  push_cast
  rfl

theorem decode_u32 (v : Word) : Ty.u32.decode (le 4 v.toNat) = .ok (.num v.toNat) := by
  rw [Ty.decode, leNat_le_toNat (k := 4) v]
  rfl
theorem decode_i32 (v : Word) : Ty.i32.decode (le 4 v.toNat) = .ok (.num v.toInt) := by
  simp [Ty.decode, leSigned_le_toNat (k := 4) v]
theorem decode_i64 (v : BitVec 64) : Ty.i64.decode (le 8 v.toNat) = .ok (.num v.toInt) := by
  simp [Ty.decode, leSigned_le_toNat (k := 8) v]

theorem wrap32_toNat (v : Word) : wrap32 v.toNat = v.toInt := by
  rw [wrap32, BitVec.ofInt_natCast, BitVec.ofNat_toNat, BitVec.setWidth_eq]

/-! ### What the judgement finds of these entries (R128, R134, R216, R551). -/

theorem namedLevel_unit {key : Nat} (h : 0x00400000 ≤ key ∧ key < 0x00600000) (bytes : List Byte) : namedLevel key bytes = 0 := by
  have named : ¬ ([Obj.SIG_CONFIRM, Obj.KEY_SERVICE, Obj.KEY_EXPERT, Obj.KEY_COMMISSION].contains key ∨
      (unitOf key (Obj.AX_IDENTIFY 0) 65536 6).isSome) := by
    have hunit : unitOf key (Obj.AX_IDENTIFY 0) 65536 6 = none := if_neg (by unfold Obj.AX_IDENTIFY; omega)
    simp only [hunit, List.contains_eq_mem, decide_eq_true_eq, List.mem_cons, List.not_mem_nil, or_false, Option.isSome_none,
      Bool.false_eq_true]
    unfold Obj.SIG_CONFIRM Obj.KEY_SERVICE Obj.KEY_EXPERT Obj.KEY_COMMISSION
    omega
  have service : ¬ [Obj.SLOT_PREFERRED, Obj.SLOT_CONFIRM, Obj.RESET_REQUEST, Obj.LEAD_REQUEST, Obj.MASTER_PRIORITY,
      Obj.FAULT_CLEAR].contains key := by
    simp only [List.contains_eq_mem, decide_eq_true_eq, List.mem_cons, List.not_mem_nil, or_false]
    unfold Obj.SLOT_PREFERRED Obj.SLOT_CONFIRM Obj.RESET_REQUEST Obj.LEAD_REQUEST Obj.MASTER_PRIORITY Obj.FAULT_CLEAR
    omega
  have record : ¬ (key = Obj.RECORD_COMMAND ∧ bytes = [0x45#8]) := by
    unfold Obj.RECORD_COMMAND
    omega
  exact (if_neg named).trans ((if_neg service).trans (if_neg record))

theorem depends_unit {key : Nat} (h : (0x00400000 ≤ key ∧ key < 0x00430000) ∨ (0x00510000 ≤ key ∧ key < 0x00520000)) (s : State) (v : Val) :
    s.depends key v = 0 := by
  unfold State.depends
  dsimp only
  rw [if_neg (by unfold Obj.TICKS_PER_BEAT Obj.BEAT_LENGTH; omega)]
  iterate 6 rw [if_neg (by omega)]
  rw [if_neg (by unfold Obj.RECORD_PRE Obj.RECORD_POST; omega)]

/-- A key of a feedback channel's record. -/
def ofChannel (n key : Nat) : Prop := 0x00400000 + 16384 * n ≤ key ∧ key < 0x00404000 + 16384 * n

theorem unitRest_channel {n : Fin 12} {key : Nat} (h : ofChannel n key) (s : State) : s.unitRest key = !s.sourceUsed [n] [n] := by
  obtain ⟨hlo, hhi⟩ := h
  have := n.isLt
  have hn : (key / 256 - 0x4000) / 64 = n := by omega
  unfold State.unitRest
  dsimp only
  rw [if_neg (by unfold Obj.IC_REF Obj.IC_BLANK; omega), if_neg (by unfold Obj.SC_REF; omega), if_pos (by omega), hn]

/-- R128, R146: whatever is written, an RWR entry of a channel in use stays as it is. -/
theorem channelWrite_used {s : State} {w : Writer} {n : Fin 12} {key : Nat} {bytes : List Byte} {ty : Ty} {p : Persist} {l : Level} {c : Chk}
    (hk : ofChannel n key) (hr : rowIs key ty .rwr p l c = true) (hu : s.sourceUsed [n] [n] = true) : s.clientWrite w key bytes = .next s := by
  obtain ⟨r, hrow, -, hacc, -⟩ := rowIs_some hr
  have hrest : s.unitRest key = false := by rw [unitRest_channel hk, hu, Bool.not_true]
  have hquiet : s.restRejected key = s := by
    have := n.isLt
    obtain ⟨hlo, hhi⟩ := hk
    unfold State.restRejected
    dsimp only
    rw [show (decide (0x7000 ≤ key / 256) && decide (key / 256 < 0x7300)) = false by simp; omega, when_false]
  unfold State.clientWrite
  split
  · cases hj : s.writeJudge w.client key bytes with
    | error e => rw [dictWrite_error hj]
    | ok x =>
      have hsame : x.1 = r := Option.some_inj.1 ((writeJudge_ok hj).1.symm.trans hrow)
      have hused : x.1.acc = .rwr ∧ !s.unitRest key := ⟨hsame ▸ hacc, by simp [hrest]⟩
      rw [State.dictWrite, hj]
      dsimp only
      rw [if_pos hused, hquiet]
  · rfl

/-- R551: a write of an entry whose meaning names no session does what the entry's behaviour says. -/
theorem unitWrite_stands {s u : State} {w : Writer} {m key : Nat} {bytes : List Byte} {ty : Ty} {acc : Access} {p : Persist} {l : Level}
    {c : Chk} {x : Int} (hw : MayWrite s w m) (hk : 0x00400000 ≤ key ∧ key < 0x00600000) (hr : rowIs key ty acc p l c = true)
    (hn : needOf p l ≤ m) (ha : acc = .wo ∨ acc = .rw ∨ (acc = .rwr ∧ s.unitRest key = true)) (hp : p ≠ .sealed)
    (hd : ty.decode bytes = .ok (.num x)) (hv : c.judge x = none) (hz : s.depends key (.num x) = 0)
    (he : ∀ r, (s.effect w r key (.num x)).1 = u) : s.clientWrite w key bytes = .next u := by
  obtain ⟨r, -, -, h⟩ := write_stands hw hr (by rw [namedLevel_unit hk, max_eq_left (Nat.zero_le _)]; exact hn) ha hp hd hv hz
  exact h.trans (congrArg _ (he r))

/-! ### Feedback channels (R190–R198, R216). -/

section
variable {s : State} {w : Writer} {n : Fin 12}

/-- A write of a channel's entry, at rest where it is RWR. -/
theorem channelWrite_stands {u : State} {m key : Nat} {bytes : List Byte} {ty : Ty} {acc : Access} {p : Persist}
    {c : Chk} {x : Int} (hk : ofChannel n key) (hw : MayWrite s w m) (hr : rowIs key ty acc p .basic c = true)
    (ha : acc = .wo ∨ acc = .rw ∨ (acc = .rwr ∧ s.sourceUsed [n] [n] = false)) (hp : needOf p .basic ≤ m ∧ p ≠ .sealed)
    (hd : ty.decode bytes = .ok (.num x)) (hv : c.judge x = none) (he : ∀ r, (s.effect w r key (.num x)).1 = u) :
    s.clientWrite w key bytes = .next u := by
  have hrest : acc = .wo ∨ acc = .rw ∨ (acc = .rwr ∧ s.unitRest key = true) := by
    simpa [unitRest_channel hk] using ha
  obtain ⟨hlo, hhi⟩ := hk
  have := n.isLt
  exact unitWrite_stands hw (by omega) hr hp.1 hrest hp.2 hd hv (depends_unit (by omega) ..) he

theorem fbExtRebase_stands (v : BitVec 64) (hw : MayWrite s w 0) :
    runFbExtRebase w n v s = .next ((s.fbExtRebase n v.toInt).gearsFollow n) :=
  channelWrite_stands (n := n) (by unfold ofChannel Obj.FB_EXT_REBASE; omega) hw (row_fbExtRebase n) (.inl rfl) (by decide) (decode_i64 v) rfl
    fun _ => effect_fbExtRebase ..

theorem slipCountClear_stands (hw : MayWrite s w 0) : runSlipCountClear w n s = .next (s.slipClear n) :=
  channelWrite_stands (n := n) (by unfold ofChannel Obj.SLIP_COUNT; omega) hw (row_slipCount n) (.inr (.inl rfl)) (by decide) rfl rfl
    fun _ => effect_slipCount ..

theorem latchCommandLatch_stands (hw : MayWrite s w 0) : runLatchCommandLatch w n s = .next (s.latchTrigger n 3 w.now w.now) :=
  channelWrite_stands (n := n) (by unfold ofChannel Obj.LATCH_COMMAND; omega) hw (row_latchCommand n) (.inl rfl) (by decide) rfl rfl
    fun _ => (effect_latchCommand ..).trans (if_pos rfl)

theorem latchRearm_stands (hw : MayWrite s w 0) : runLatchRearm w n s = .next (s.latchRearm n) :=
  channelWrite_stands (n := n) (by unfold ofChannel Obj.LATCH_COMMAND; omega) hw (row_latchCommand n) (.inl rfl) (by decide) rfl rfl
    fun _ => (effect_latchCommand ..).trans (if_neg (by decide))

/-- R195: a preset moves the counter to the value, and the 64-bit position to its signed reading. -/
theorem fbCounterPreset_stands (v : Word) (hw : MayWrite s w 0) (hu : s.sourceUsed [n] [n] = false) : runFbCounterPreset w n v s =
    .next (((s.fbMove n v.toNat).fbExtRebase n v.toInt).putBit (Obj.FB_STATUS n) 5 false) :=
  channelWrite_stands (n := n) (by unfold ofChannel Obj.FB_COUNTER; omega) hw (row_fbCounter n) (.inr (.inr ⟨rfl, hu⟩)) (by decide) (decode_u32 v) rfl
    fun _ => (effect_fbCounter ..).trans (by rw [State.fbPreset, wrap32_toNat])

theorem fbClassWrite_stands {v : Byte} (hv : v.toNat ≤ 2) (hw : MayWrite s w 1) (hu : s.sourceUsed [n] [n] = false) :
    runFbClassWrite w n v s = .next ((s.putStored (Obj.FB_CLASS n) (.nat v.toNat)).fbClassWrite n v.toNat) := by
  have hset : (Chk.set [0, 1, 2]).judge (v.toNat : Int) = none := by
    obtain h | h | h : v.toNat = 0 ∨ v.toNat = 1 ∨ v.toNat = 2 := by omega
    all_goals rw [h]; rfl
  exact channelWrite_stands (n := n) (by unfold ofChannel Obj.FB_CLASS; omega) hw (row_fbClass n) (.inr (.inr ⟨rfl, hu⟩)) (by decide) rfl hset
    fun _ => effect_fbClass ..

theorem indexCprWrite_stands (v : Word) (hw : MayWrite s w 1) (hu : s.sourceUsed [n] [n] = false) :
    runIndexCprWrite w n v s = .next ((s.putStored (Obj.INDEX_CPR n) (.nat v.toNat)).indexCprWrite n v.toNat) :=
  channelWrite_stands (n := n) (by unfold ofChannel Obj.INDEX_CPR; omega) hw (row_indexCpr n) (.inr (.inr ⟨rfl, hu⟩)) (by decide) (decode_u32 v) rfl
    fun _ => effect_indexCpr ..

end

/-! ### Observers, cells and the loop (R211, R237, R247, R249). -/

section
variable {s : State} {w : Writer}

theorem obCommand_stands {o : Fin 12} (hw : MayWrite s w 0) : runObCommand w o s = .next (s.obsInit o) :=
  unitWrite_stands hw (by unfold Obj.OB_COMMAND; omega) (row_obCommand o) (by decide) (.inl rfl) (by decide) rfl rfl
    (by fin_cases o <;> rfl) fun _ => effect_obCommand ..

variable {n : Fin 256} (v : Word) (hw : MayWrite s w 2)
include hw

theorem cellStateWrite_first : runCellStateWrite w n false v s = .next (s.cellStateWrite n true v.toInt) :=
  unitWrite_stands (key := Obj.CELL_STATE0 n) hw (by unfold Obj.CELL_STATE0; omega) (row_cellState0 n) (by decide) (.inr (.inl rfl)) (by decide) (decode_i32 v) rfl
    (depends_unit (by unfold Obj.CELL_STATE0; omega) ..) fun _ => effect_cellState0 ..

theorem cellStateWrite_second : runCellStateWrite w n true v s = .next (s.cellStateWrite n false v.toInt) :=
  unitWrite_stands (key := Obj.CELL_STATE1 n) hw (by unfold Obj.CELL_STATE1; omega) (row_cellState1 n) (by decide) (.inr (.inl rfl)) (by decide) (decode_i32 v) rfl
    (depends_unit (by unfold Obj.CELL_STATE1; omega) ..) fun _ => effect_cellState1 ..

theorem cellStatusClear_stands : runCellStatusClear w n s = .next (s.cellStatusClear n) :=
  unitWrite_stands hw (by unfold Obj.CELL_STATUS; omega) (row_cellStatus n) (by decide) (.inr (.inl rfl)) (by decide) rfl rfl
    (depends_unit (by unfold Obj.CELL_STATUS; omega) ..) fun _ => effect_cellStatus ..

theorem loopLoadPeakClear_stands : runLoopLoadPeakClear w s = .next (s.putN Obj.LOOP_LOAD_PEAK 0) :=
  unitWrite_stands hw (by decide) row_loopLoadPeak (by decide) (.inr (.inl rfl)) (by decide) rfl rfl rfl fun _ => effect_loopLoadPeak ..

/-! ### The trace (R245). -/

theorem traceCommand_stands {b : Byte} {x : Int} (hb : Ty.u8.decode [b] = .ok (.num x)) (hx : (Chk.set [65, 84, 83]).judge x = none) :
    s.clientWrite w Obj.TRACE_COMMAND [b] = .next (s.traceCommand x) :=
  unitWrite_stands hw (by decide) row_traceCommand (by decide) (.inl rfl) (by decide) hb hx rfl fun _ => effect_traceCommand ..

theorem traceArm_stands : runTraceArm w s = .next s.traceArm := traceCommand_stands hw rfl rfl
theorem traceForceTrigger_stands : runTraceForceTrigger w s = .next (s.traceTrigger 0x10 s.clk.now) := traceCommand_stands hw rfl rfl
theorem traceFreeze_stands : runTraceFreeze w s = .next s.traceFreeze := traceCommand_stands hw rfl rfl

end

section
variable {s : State}

/-- R245: an armed capture: every channel begins afresh. -/
def traceArmed (s : State) : State :=
  ({ s with lp.trace := s.lp.trace.map fun (t : TraceCh) => { t with ring := [], post := 0, stopped := false } }.each 32 fun s c =>
    s.putN (Obj.TRACE_SAMPLES c) 0).putN Obj.TRACE_STATE 1

theorem traceArmed_met : (traceArmed s).lp.met = s.lp.met := by
  refine each_keeps (g := fun t => t.lp.met) ?_ 32 _
  exact fun _ _ => rfl

/-- R245: a condition that has been met in the tick triggers an armed capture. -/
def traceMetTriggers (s : State) : State :=
  match s.lp.met with
  | some (mask, time) => s.traceTrigger mask time
  | none => s

/-- R245: an arming in a tick in which a condition has been met triggers at once, armed first (log 244). -/
theorem traceArm_eq : s.traceArm = traceMetTriggers (traceArmed s) := rfl

theorem traceArm_unmet (h : s.lp.met = none) : s.traceArm = traceArmed s := by
  rw [traceArm_eq, traceMetTriggers, traceArmed_met, h]

theorem traceArm_met {mask time : Nat} (h : s.lp.met = some (mask, time)) : s.traceArm = (traceArmed s).traceTrigger mask time := by
  rw [traceArm_eq, traceMetTriggers, traceArmed_met, h]

end

/-- Settles O18: the judgement lets each write stand, an entry of a channel in use apart, and its behaviour is the entry's own. -/
theorem feedbackAndLoopWrites : Obligations.FeedbackAndLoopWrites := by
  refine ⟨fun s w n => ⟨fun v hw => ?_, fun hw => ?_, fun v hw => ⟨fun hu => ?_, fun hu => ?_⟩, fun v hv hw => ⟨fun hu => ?_, fun hu => ?_⟩,
    fun v hw => ⟨fun hu => ?_, fun hu => ?_⟩, fun hw => ?_, fun hw => ?_, fun hw => ?_⟩,
    fun s w hw => ⟨fun n v => ?_, fun n v => ?_, fun n => ?_, ?_, ⟨fun hm => ?_, fun mask time hm => ?_⟩, ?_, ?_⟩⟩
  · exact .of_run (exec_fbExtRebase ..) (fbExtRebase_stands v hw)
  · exact .of_run (exec_slipCountClear ..) (slipCountClear_stands hw)
  · exact .of_run (exec_fbCounterPreset ..) (fbCounterPreset_stands v hw hu)
  · exact .of_run (exec_fbCounterPreset ..) (channelWrite_used (by unfold ofChannel Obj.FB_COUNTER; omega) (row_fbCounter n) hu)
  · exact .of_run (exec_fbClassWrite ..) (fbClassWrite_stands hv hw hu)
  · exact .of_run (exec_fbClassWrite ..) (channelWrite_used (by unfold ofChannel Obj.FB_CLASS; omega) (row_fbClass n) hu)
  · exact .of_run (exec_indexCprWrite ..) (indexCprWrite_stands v hw hu)
  · exact .of_run (exec_indexCprWrite ..) (channelWrite_used (by unfold ofChannel Obj.INDEX_CPR; omega) (row_indexCpr n) hu)
  · exact .of_run (exec_latchCommandLatch ..) (latchCommandLatch_stands hw)
  · exact .of_run (exec_latchRearm ..) (latchRearm_stands hw)
  · exact .of_run (exec_obCommand ..) (obCommand_stands hw)
  · exact .of_run (exec_cellStateWrite ..) (cellStateWrite_second v hw)
  · exact .of_run (exec_cellStateWrite ..) (cellStateWrite_first v hw)
  · exact .of_run (exec_cellStatusClear ..) (cellStatusClear_stands hw)
  · exact .of_run (exec_loopLoadPeakClear ..) (loopLoadPeakClear_stands hw)
  · exact .of_run (exec_traceArm ..) ((traceArm_stands hw).trans (congrArg _ (traceArm_unmet hm)))
  · exact .of_run (exec_traceArm ..) ((traceArm_stands hw).trans (congrArg _ (traceArm_met hm)))
  · exact .of_run (exec_traceForceTrigger ..) (traceForceTrigger_stands hw)
  · exact .of_run (exec_traceFreeze ..) (traceFreeze_stands hw)

end Sys2Proof.Laws
end

section
/-!
PROOFS. The node entries: the key at which a node lies splits into its index and its sub-index, and the row found there is the node's
(R250).
-/
namespace Sys2Proof.Laws

section
variable {n : Nat}

/-- R250: where node `n` lies: index 0x5400 + n div 128, sub-index n mod 128 + 1. -/
def nodeKey (n : Nat) : Nat := (0x5400 + n / 128) * 256 + (n % 128 + 1)

@[simp] theorem nodeKey_index : nodeKey n / 256 = 0x5400 + n / 128 := by
  unfold nodeKey; omega

@[simp] theorem nodeKey_sub : nodeKey n % 256 = n % 128 + 1 := by
  unfold nodeKey; omega

/-- The node entries are read ahead of the object tables: a node's index is theirs, its sub-index is neither 0 nor past 128. -/
theorem rowOf_nodeKey (hn : n < 4096) : rowOf (nodeKey n) = some (nodeRow (0x5400 + n / 128) (n % 128 + 1)) := by
  have hidx : 0x5400 ≤ 0x5400 + n / 128 ∧ 0x5400 + n / 128 ≤ 0x541F := by omega
  have hsub : n % 128 + 1 ≤ 128 := by omega
  simp only [rowOf, nodeKey_index, nodeKey_sub, if_pos hidx, if_neg (Nat.succ_ne_zero _), if_pos hsub]

/-- R250: the writable indices, 0x541C on, are those of the nodes from 3584 on. -/
theorem nodeRow_acc (sub : Nat) : (nodeRow (0x5400 + n / 128) sub).acc = if 3584 ≤ n then .rw else .ro := by
  have hwritable : 0x541C ≤ 0x5400 + n / 128 ↔ 3584 ≤ n := by omega
  simp only [nodeRow, hwritable]

end

/-- Settles O8: the row of a node's key is the node's own, whose type, persistence and level are fixed and whose access goes by its
index. -/
theorem nodeEntriesLieInOrder : Obligations.NodeEntriesLieInOrder :=
  fun _ hn => ⟨_, rowOf_nodeKey hn, rfl, .inl rfl, rfl, nodeRow_acc _⟩

end Sys2Proof.Laws
end

section
/-!
PROOFS. The link guard and the DUMP switch (R274, R275).
-/
namespace Sys2Proof.Laws
open Sys2Proof.Machine

/-! ### One bit of an entry. -/

/-- A power of two added to a mask without it sets that bit alone. -/
theorem testBit_add_two_pow {m b : Nat} (h : m.testBit b = false) (c : Nat) : (m + 2 ^ b).testBit c = (m.testBit c || decide (c = b)) := by
  have hset : (m + 2 ^ b).testBit b = true := by rw [Nat.add_comm, Nat.testBit_two_pow_add_eq, h, Bool.not_false]
  have hdrop := testBit_drop hset c
  rw [Nat.add_sub_cancel] at hdrop
  by_cases hc : c = b
  · subst hc
    simp [hset]
  · simp [hdrop, hc]

theorem bit_putBit (s : State) (k i : Nat) (b : Bool) (j : Nat) : (s.putBit k i b).bit k j = if j = i then b else s.bit k j := by
  rw [State.bit, State.putBit, nat_putN_self, Int.toNat_natCast, State.bit]
  by_cases hv : (s.nat k).testBit i = b
  · rw [if_pos hv]
    split
    · next hj => rw [hj, hv]
    · rfl
  · rw [if_neg hv]
    cases b with
    | true => simp [testBit_add_two_pow (by simpa using hv), Bool.or_comm]
    | false => simp [testBit_drop (by simpa using hv), Bool.and_comm]

theorem bit_putBit_ne (s : State) {j k : Nat} (i : Nat) (b : Bool) (x : Nat) (h : j ≠ k) : (s.putBit k i b).bit j x = s.bit j x := by
  rw [State.bit, State.putBit, nat_putN_ne _ _ h, State.bit]

/-! ### DUMP (R274, R275). -/

/-- R275: the condition that DUMP follows. -/
theorem dumpJudge_dump (s : State) (ov : Bool) : (s.dumpJudge ov).bit Obj.LINK_STATUS 2 = true ↔
    s.n Obj.DUMP_ENABLE ≠ 0 ∧ s.link.forced = false ∧ s.pw.sleep = 0 ∧
      (ov = true ∨ s.nat Obj.VACT_GUARD < s.link.vact ∨
        (s.bit Obj.LINK_STATUS 2 = true ∧ s.nat Obj.VACT_GUARD ≤ s.link.vact + s.nat Obj.DUMP_HYST)) := by
  rw [State.dumpJudge, bit_putBit, if_pos rfl]
  simp only [Bool.and_eq_true, Bool.or_eq_true, on_iff, Bool.not_eq_true', beq_iff_eq, decide_eq_true_eq, and_assoc, or_assoc]

theorem dumpJudge_otherBit (s : State) (ov : Bool) {b : Nat} (h : b ≠ 2) : (s.dumpJudge ov).bit Obj.LINK_STATUS b = s.bit Obj.LINK_STATUS b := by
  rw [State.dumpJudge, bit_putBit, if_neg h]

theorem dumpJudge_get (s : State) (ov : Bool) {k : Nat} (h : k ≠ Obj.LINK_STATUS) : (s.dumpJudge ov).get k = s.get k := get_putN_ne _ _ h

theorem dumpMaxOnExpiry_forcesOff {s : State} (h : s.bit Obj.LINK_STATUS 2 = true) : runDumpMaxOnExpiry s =
    .next ({ s.putBit Obj.LINK_STATUS 2 false with link.forced := true }.raise Src.supply Kind.VACT_OV 2 (some (s.n Obj.VACT_MV))) := by
  have hmv : (s.putBit Obj.LINK_STATUS 2 false).n Obj.VACT_MV = s.n Obj.VACT_MV := n_putN_ne _ _ (by decide)
  exact (if_pos h).trans (by rw [← hmv]; rfl)
theorem dumpMaxOnExpiry_idle {s : State} (h : s.bit Obj.LINK_STATUS 2 = false) : runDumpMaxOnExpiry s = .next s := if_neg (by simp [h])

theorem dumpForcedOffEnd_judges {s : State} (h : s.link.forced = true) :
    runDumpForcedOffEnd s = .next ({ s with link.forced := false }.dumpJudge (s.bit Obj.SUPPLY_FLAGS 10)) := if_pos h
theorem dumpForcedOffEnd_idle {s : State} (h : s.link.forced = false) : runDumpForcedOffEnd s = .next s := if_neg (by simp [h])

/-- R274: the guard bits are no supply flag, so that DUMP is judged by the over-voltage flag as it stands beside them. -/
theorem linkGuardCrossing_judges {s t : State} {mv : Nat}
    (ht : t = (({ s with link.vact := mv } : State).putBit Obj.LINK_STATUS 1 (decide (s.nat Obj.VACT_GUARD < mv))).putBit Obj.LINK_STATUS 0
      (decide (mv ≤ s.nat Obj.VACT_GUARD ∧ s.nat Obj.VACT_GUARD ≤ mv + s.nat Obj.LINK_BAND))) :
    runLinkGuardCrossing mv s = .next (t.dumpJudge (t.bit Obj.SUPPLY_FLAGS 10)) := by
  have hflag : t.bit Obj.SUPPLY_FLAGS 10 = s.bit Obj.SUPPLY_FLAGS 10 := by
    rw [ht, bit_putBit_ne _ _ _ _ (by decide), bit_putBit_ne _ _ _ _ (by decide)]
    rfl
  rw [hflag, ht]
  rfl

/-- Settles O37: each command's run under its condition and under the negation, then DUMP by the condition it follows. -/
theorem linkAndDump : Obligations.LinkAndDump := by
  refine fun s => ⟨fun mv => ?_, fun h => ?_, fun h => ?_, fun h => ?_, fun h => ?_,
    fun ov => ⟨dumpJudge_dump s ov, fun b hb => dumpJudge_otherBit s ov hb, fun k hk => dumpJudge_get s ov hk⟩⟩
  · exact .of_run (exec_linkGuardCrossing ..) (linkGuardCrossing_judges rfl)
  · exact .of_run (exec_dumpMaxOnExpiry ..) (dumpMaxOnExpiry_forcesOff h)
  · exact .of_run (exec_dumpMaxOnExpiry ..) (dumpMaxOnExpiry_idle h)
  · exact .of_run (exec_dumpForcedOffEnd ..) (dumpForcedOffEnd_judges h)
  · exact .of_run (exec_dumpForcedOffEnd ..) (dumpForcedOffEnd_idle h)

end Sys2Proof.Laws
end

section
/-!
PROOFS. Axes: gate faults, trips, the end of a short, arm signals, comparators and identification (R254, R257, R258, R261, R265, R276, R277, R379, R399).
-/
namespace Sys2Proof.Laws
open Sys2Proof.Machine

/-! ### One axis of the six. -/

theorem vset_vget {α : Type} [Inhabited α] {n : Nat} (v : Vector α n) (i : Nat) : vset v i (vget v i) = v := by
  ext j hj
  rw [vset, Vector.getElem_setIfInBounds hj]
  split
  · next h => simp [vget, h, hj]
  · rfl

theorem axMod_congr (s : State) (n : Nat) {f g : Axis → Axis} (h : f (s.axis n) = g (s.axis n)) : s.axMod n f = s.axMod n g := by
  rw [State.axMod, vmod, show f (vget s.ax n) = g (vget s.ax n) from h]
  rfl

theorem axMod_eq_self (s : State) (n : Nat) {f : Axis → Axis} (h : f (s.axis n) = s.axis n) : s.axMod n f = s := by
  rw [State.axMod, vmod, show f (vget s.ax n) = vget s.ax n from h, vset_vget]

theorem axis_axMod (s : State) (n : Fin 6) (f : Axis → Axis) : (s.axMod n f).axis n = f (s.axis n) := vget_vset_self ..

/-- The entry of an axis's state counts no lost fault message. -/
theorem raise_axState (s : State) (n src kind qual : Nat) (d : Option Int) : (s.raise src kind qual d).axState n = s.axState n := by
  rw [State.axState, State.nat, (raise_told ..).n (by unfold Obj.AX_STATE Obj.FAULT_DROPS; omega)]
  rfl

/-! ### Gate faults (R254, R257, R261, R262). -/

section
variable {s t : State} {n leg : Nat} {high : Bool} {qual : Nat} (ht : t = s.raise (Src.ax n) Kind.GATE_FAULT qual (some (leg + 4 * b2n high : Nat)))
include ht

theorem axGateFault_disarmed (h : s.axState n = 0) : s.axGateFault n leg high qual = t := by
  simp only [State.axGateFault, raise_axState, h, ht]

theorem axGateFault_flying (h : s.axState n = 1) : s.axGateFault n leg high qual = t.axOffNow n true := by
  simp only [State.axGateFault, raise_axState, h, ht]

theorem axGateFault_armed (h : s.axState n = 2) : s.axGateFault n leg high qual =
    (t.axMod n fun x => { x with lowFault := x.lowFault || !high, highFault := x.highFault || high }).axFaultOff n := by
  simp only [State.axGateFault, raise_axState, h, ht]

theorem axGateFault_shorted (h : 3 ≤ s.axState n) : s.axGateFault n leg high qual =
    (t.axMod n fun x => { x with lowFault := x.lowFault || !high, highFault := x.highFault || high }).ascMove n high := by
  obtain ⟨k, hk⟩ := Nat.exists_eq_add_of_le' h
  simp only [State.axGateFault, raise_axState, hk, ht]

end

theorem bootstrapUndervoltage_released {s : State} {n : Fin 6} {leg : Fin 3} (h : (s.axis n).heldOff.testBit leg = true) :
    runBootstrapUndervoltage n ⟨leg, true⟩ s = .next (s.axMod n fun x => { x with heldOff := x.heldOff - 2 ^ leg.val }) :=
  congrArg _ (axMod_congr s n (by rw [if_pos h]))

theorem bootstrapUndervoltage_unheld {s : State} {n : Fin 6} {leg : Fin 3} (h : (s.axis n).heldOff.testBit leg = false) :
    runBootstrapUndervoltage n ⟨leg, true⟩ s = .next s :=
  congrArg _ (axMod_eq_self s n (by rw [if_neg (by simp [h])]))

/-! ### Trips (R258, R261, R399). -/

section
variable {s : State} {n : Nat}

theorem axTrip_unarmed (leg qual : Nat) (h : s.axState n < 2) : s.axTrip n leg qual = s := if_neg (by omega)

theorem axTrip_shorted (leg qual : Nat) (h : 3 ≤ s.axState n) : s.axTrip n leg qual = s.raise (Src.ax n) Kind.AXIS_OVERCURRENT qual (some leg) :=
  (if_pos (by omega)).trans (if_neg (by omega))

theorem axTrip_armed (leg qual : Nat) (h : s.axState n = 2) : s.axTrip n leg qual = ((s.raise (Src.ax n) Kind.AXIS_OVERCURRENT qual (some leg)).axMod n
    fun x => { x with lowFault := x.lowFault || qual == 3, highFault := x.highFault || qual == 2 }).axFaultOff n :=
  (if_pos (by omega)).trans (if_pos h)

end

section
variable {s : State} {n : Fin 6}

theorem desatTrip_unheld (leg : Fin 3) (high : Bool) (h : s.ch.waltz.driven.testBit n = false) :
    runDesatTrip n leg high s = .next (s.axTrip n leg (if high then 2 else 3)) := if_neg (by simp [h])
theorem shuntOcTrip_unheld (leg : Fin 3) (h : s.ch.waltz.driven.testBit n = false) : runShuntOcTrip n leg s = .next (s.axTrip n leg 1) :=
  if_neg (by simp [h])

/-- R261: the side of a desaturation is known from its qualifier. -/
theorem desatTrip_armed (leg : Fin 3) (high : Bool) (h : s.ch.waltz.driven.testBit n = false) (ha : s.axState n = 2) : runDesatTrip n leg high s =
    .next (((s.raise (Src.ax n) Kind.AXIS_OVERCURRENT (if high then 2 else 3) (some leg.val)).axMod n fun x =>
      { x with lowFault := x.lowFault || !high, highFault := x.highFault || high }).axFaultOff n) := by
  rw [desatTrip_unheld leg high h, axTrip_armed _ _ ha]
  cases high <;> rfl

/-! ### The end of a short (R265). -/

theorem ascExit_opens (h : 3 ≤ s.axState n) (hs : 2000000 ≤ (s.axis n).slow) : runAscExit n s = .next ((s.axOffNow n).waltzAxis n) :=
  congrArg _ (if_pos ⟨h, hs⟩)
theorem ascExit_stays (h : s.axState n < 3 ∨ (s.axis n).slow < 2000000) : runAscExit n s = .next s := congrArg _ (if_neg (by omega))

end

/-! ### Arm signals (R76, R78, R379). -/

theorem axGrant_aside (s : State) (n : Nat) : Aside s (s.axGrant n) := by
  unfold State.axGrant
  split
  · exact ⟨rfl, rfl, rfl, rfl⟩
  · exact Aside.refl s

theorem valveGrant_aside (s : State) (bit : Nat) : Aside s (s.valveGrant bit) := by
  unfold State.valveGrant
  split_ifs
  · exact ⟨rfl, rfl, rfl, rfl⟩
  · exact ⟨rfl, rfl, rfl, rfl⟩
  · exact Aside.refl s

/-- An output that takes its grant touches no arm signal and no vote. -/
theorem armRaise_aside {s : State} {bit : Nat} (hok : s.armOk bit = true) (hoff : s.ch.armed.testBit bit = false) :
    Aside { s with ch.armed := s.ch.armed + 2 ^ bit, pw.expired := 0 } (s.armRaise bit) := by
  rw [State.armRaise, if_pos (by simp [hok, hoff])]
  exact (when_aside (axGrant_aside ..) _).trans (valveGrant_aside ..)

theorem armRaise_armed {s : State} {bit : Nat} (hok : s.armOk bit = true) (hoff : s.ch.armed.testBit bit = false) (b : Nat) :
    (s.armRaise bit).ch.armed.testBit b = (s.ch.armed.testBit b || decide (b = bit)) := by
  rw [(armRaise_aside hok hoff).ch]
  exact testBit_add_two_pow hoff b

theorem armRaise_expired {s : State} {bit : Nat} (hok : s.armOk bit = true) (hoff : s.ch.armed.testBit bit = false) :
    (s.armRaise bit).pw.expired = 0 := by
  rw [(armRaise_aside hok hoff).pw]

theorem armGrant_idle {s : State} {bit : Fin 26} (h : s.armOk bit = false ∨ s.ch.armed.testBit bit = true) : runArmGrant bit s = .next s := by
  refine congrArg _ (if_neg ?_)
  rcases h with h | h
  · simp [h]
  · simp [h]

theorem armWithdraw_idle {s : State} {bit : Fin 26} (h : s.ch.armed.testBit bit = false) : runArmWithdraw bit s = .next s :=
  congrArg _ (if_neg (by simp [h]))

/-! ### The back-EMF comparators (R276). -/

section
variable {s : State} {n : Fin 6} {clock θ : Nat}

theorem emfCrossing_driven (thresh : Bool) (clock : Nat) (h : s.axState n ≠ 0) : s.emfCrossing n thresh clock = s := if_pos h

section
variable (h : s.axState n = 0) (hθ : θ = turnBy (s.axTheta n) (s.axOmega n) (((clock : Rat) - s.clk.now) / 100000000))
include h hθ

theorem emfCrossing_zero : s.emfCrossing n false clock = s.axMod n fun x => { x with zeroAt := some θ } := by
  subst hθ
  exact if_neg (by simp [h])

variable {θ0 d : Nat} {t : State} (hz : (s.axis n).zeroAt = some θ0)
  (hd : d = min ((θ + 2 ^ 32 - θ0) % 2 ^ 32) (2 ^ 32 - (θ + 2 ^ 32 - θ0) % 2 ^ 32)) (ht : t = s.axMod n fun x => { x with zeroAt := none })
include hz hd ht

/-- R276: a threshold after its zero: the angle between them gives an estimate where it is at most a sixth of a revolution. -/
theorem emfCrossing_paired : s.emfCrossing n true clock = if 6 * d ≤ 2 ^ 32 then
      (t.keEstimate n (ratio ((s.nat (Obj.AX_EMF_THRESH n) : Rat) / 1000) (root3 * |s.axOmega n| * sinOf d)) (secs (s.axis n).keGap)).keCheck n 2
    else t := by
  have hgap : (t.axis n).keGap = (s.axis n).keGap := by rw [ht, axis_axMod]
  rw [← hgap, hd, hθ, ht]
  simp only [State.emfCrossing, h, hz, ne_eq, not_true_eq_false, if_false, Bool.not_true, Bool.false_eq_true]
  rfl

end

theorem emfCrossing_unpaired (clock : Nat) (h : s.axState n = 0) (hz : (s.axis n).zeroAt = none) : s.emfCrossing n true clock = s := by
  simp [State.emfCrossing, h, hz]

end

/-! ### Identification (R277). -/

theorem axIdentifyComplete_idle {s : State} {n : Fin 6} (h : (s.axis n).ident = none) : runAxIdentifyComplete n s = .next s := by
  rw [runAxIdentifyComplete, h]

theorem axIdentifyComplete_measures {s t : State} {n : Fin 6} {i : Nat} {r : Rat} (h : (s.axis n).ident = some i)
    (hr : r = ratio (s.axis n).identSum ((s.axis n).identTicks : Rat))
    (ht : t = (s.axMod n fun x => { x with ident := none }).putN (Obj.AX_R_MEAS n) (clamp 0 4294967295 (Config.fix (r * 1000000)))) :
    runAxIdentifyComplete n s = .next (if (t.nat (Obj.AX_KE_MISMATCH_PCT n) : Rat) * s.axR n < 100 * |r - s.axR n| then
      t.raise (Src.ax n) Kind.KE_MISMATCH 2 else t) := by
  simp only [runAxIdentifyComplete, h, State.when, decide_eq_true_eq, ht, hr]

/-- Settles O36: each command's run, under the condition that lets it do something and under its negation; an arm grant cancels every hold-off
by the loop engine's vote (log 157). -/
theorem axisEvents : Obligations.AxisEvents := by
  refine fun s n => ⟨fun leg => ⟨?_, fun h => ?_, fun h => ?_, fun high on => ?_, fun high qual => ?_, fun high hw => ⟨fun h => ⟨?_, ?_⟩,
      fun h => ⟨?_, ?_⟩, fun h => ⟨?_, ?_⟩⟩, fun high hw => ⟨?_, ?_⟩⟩, fun h hs => ?_, fun h => ?_,
    fun bit => ⟨fun hok hoff => ?_, fun h => ?_, fun h => ?_, fun h => ?_⟩,
    fun clock => ⟨fun h thresh => ?_, fun h θ hθ => ⟨?_, fun hz => ?_, fun θ0 d hz hd => ⟨fun hfar => ?_, fun hnear => ?_⟩⟩⟩,
    fun h => ?_, fun i h => ⟨_, _, rfl, rfl, fun hm => ?_, fun hm => ?_⟩, ⟨_, rfl, ?_⟩⟩
  · exact .of_run (exec_bootstrapUndervoltage ..) rfl
  · exact .of_run (exec_bootstrapUndervoltage ..) (bootstrapUndervoltage_released h)
  · exact .of_run (exec_bootstrapUndervoltage ..) (bootstrapUndervoltage_unheld h)
  · exact .of_run (exec_gateStateMismatch ..) rfl
  · exact ⟨axGateFault_disarmed rfl, axGateFault_flying rfl, axGateFault_armed rfl, axGateFault_shorted rfl⟩
  · exact .of_run (exec_desatTrip ..) (by rw [desatTrip_unheld leg high hw, axTrip_unarmed _ _ h])
  · exact .of_run (exec_shuntOcTrip ..) (by rw [shuntOcTrip_unheld leg hw, axTrip_unarmed _ _ h])
  · exact .of_run (exec_desatTrip ..) (by rw [desatTrip_unheld leg high hw, axTrip_shorted _ _ h])
  · exact .of_run (exec_shuntOcTrip ..) (by rw [shuntOcTrip_unheld leg hw, axTrip_shorted _ _ h])
  · exact .of_run (exec_desatTrip ..) (desatTrip_armed leg high hw h)
  · exact .of_run (exec_shuntOcTrip ..) (by rw [shuntOcTrip_unheld leg hw, axTrip_armed _ _ h]; rfl)
  · exact .of_run (exec_desatTrip ..) (if_pos hw)
  · exact .of_run (exec_shuntOcTrip ..) (if_pos hw)
  · exact .of_run (exec_ascExit ..) (ascExit_opens h hs)
  · exact .of_run (exec_ascExit ..) (ascExit_stays h)
  · exact ⟨s.armRaise bit, .of_run (exec_armGrant ..) rfl, by simp [armRaise_armed hok hoff],
      fun b hb => by simp [armRaise_armed hok hoff, hb], armRaise_expired hok hoff⟩
  · exact .of_run (exec_armGrant ..) (armGrant_idle h)
  · exact ⟨s.armDrop bit, .of_run (exec_armWithdraw ..) rfl, by simp [armDrop_armed], fun b hb => by simp [armDrop_armed, hb]⟩
  · exact .of_run (exec_armWithdraw ..) (armWithdraw_idle h)
  · exact .of_run (exec_emfComparatorCrossing ..) (congrArg _ (emfCrossing_driven thresh clock h))
  · exact .of_run (exec_emfComparatorCrossing ..) (congrArg _ (emfCrossing_zero h hθ))
  · exact .of_run (exec_emfComparatorCrossing ..) (congrArg _ (emfCrossing_unpaired clock h hz))
  · exact .of_run (exec_emfComparatorCrossing ..) (congrArg _ ((emfCrossing_paired h hθ hz hd rfl).trans (if_neg (by omega))))
  · exact .of_run (exec_emfComparatorCrossing ..) (congrArg _ ((emfCrossing_paired h hθ hz hd rfl).trans (if_pos hnear)))
  · exact .of_run (exec_axIdentifyComplete ..) (axIdentifyComplete_idle h)
  · exact .of_run (exec_axIdentifyComplete ..) ((axIdentifyComplete_measures h rfl rfl).trans (congrArg _ (if_pos hm)))
  · exact .of_run (exec_axIdentifyComplete ..) ((axIdentifyComplete_measures h rfl rfl).trans (congrArg _ (if_neg (not_lt.2 hm))))
  · exact .of_run (exec_keTrendAppend ..) rfl

end Sys2Proof.Laws
end

section
/-!
PROOFS. Writes of the entries of axes, generators, gearing, compare units, steppers and solenoids (R277, R285–R290, R297, R299, R302, R319, R324).
-/
namespace Sys2Proof.Laws
open Sys2Proof.Machine

/-! ### What the judgement finds of these entries (R128, R134, R551). -/

/-- R551: a write of an entry that its judgement lets stand does what the entry's behaviour says. -/
theorem entryWrite_stands {s u : State} {w : Writer} {m key : Nat} {bytes : List Byte} {ty : Ty} {acc : Access} {p : Persist} {l : Level}
    {c : Chk} {x : Int} (hw : MayWrite s w m) (hr : rowIs key ty acc p l c = true) (hn : max (needOf p l) (namedLevel key bytes) ≤ m)
    (ha : acc = .wo ∨ acc = .rw ∨ (acc = .rwr ∧ s.unitRest key = true)) (hp : p ≠ .sealed) (hd : ty.decode bytes = .ok (.num x))
    (hv : c.judge x = none) (hz : s.depends key (.num x) = 0) (he : ∀ r, (s.effect w r key (.num x)).1 = u) :
    s.clientWrite w key bytes = .next u := by
  obtain ⟨r, -, -, h⟩ := write_stands hw hr hn ha hp hd hv hz
  exact h.trans (congrArg _ (he r))

/-- R127: one byte as a number. -/
theorem decode_u8 (v : Byte) : Ty.u8.decode [v] = .ok (.num v.toNat) := rfl

section
variable {s : State} {w : Writer}

/-! ### Identification (R277). -/

theorem axIdentify_stands {n : Fin 6} (hw : MayWrite s w 3) : runAxIdentify w n s = .next (s.orReject (s.axIdentify n)).1 :=
  entryWrite_stands hw (row_axIdentify n) (by fin_cases n <;> decide) (.inl rfl) (by decide) rfl rfl (by fin_cases n <;> rfl)
    fun _ => effect_axIdentify ..

theorem axIdentify_begins {n : Nat} (hs : s.nat Obj.SESSION_CURRENT = 3) (ha : s.axState n = 2) (hr : s.axAtRest n (s.axSpeed n) = true) :
    s.axIdentify n = .ok (s.axMod n fun x => { x with ident := some 0, identSum := 0, identTicks := 0 }) := by
  simp [State.axIdentify, hs, ha, hr]

theorem axIdentify_refused {n : Nat} (hs : s.nat Obj.SESSION_CURRENT = 3) (h : s.axState n ≠ 2 ∨ s.axAtRest n (s.axSpeed n) = false) :
    s.axIdentify n = .error 0x06060002 := by
  rw [State.axIdentify, if_neg (by simp [hs]), if_neg]
  rcases h with h | h
  · simp [h]
  · simp [h]

/-! ### Generators (R285–R290, R297, R318). -/

section
variable {m : Fin 12}

theorem mxCommand_stands {b : Byte} {x : Int} (hw : MayWrite s w 0) (hb : Ty.u8.decode [b] = .ok (.num x))
    (hx : (Chk.set [71, 83]).judge x = none) : s.clientWrite w (Obj.MX_COMMAND m) [b] = .next (s.mxCommand m x).1 :=
  entryWrite_stands hw (row_mxCommand m) (by fin_cases m <;> exact le_rfl) (.inl rfl) (by decide) hb hx (by fin_cases m <;> rfl)
    fun _ => effect_mxCommand ..

theorem mxGo_stands (hw : MayWrite s w 0) : runMxGo w m s = .next ((s.mxGo m).2.when (s.mxGo m).1.isNone (·.vsGo m)) :=
  mxCommand_stands hw rfl rfl
theorem mxStop_stands (hw : MayWrite s w 0) : runMxStop w m s = .next (s.mxStop m) := mxCommand_stands hw rfl rfl

theorem mxGo_unmoded {m : Nat} (h : s.genMode m = 0 ∨ s.genMode m = 3) : s.mxGo m = (some 0x06040003, s) := if_pos h
theorem mxGo_accepted {m : Nat} (h0 : s.genMode m ≠ 0) (h3 : s.genMode m ≠ 3) (hr : s.genAtRest m = true) :
    s.mxGo m = (none, s.genMod m fun g => { g with pending := true, done := false }) := (if_neg (by simp [h0, h3])).trans (if_pos hr)
theorem mxGo_moving {m : Nat} (h0 : s.genMode m ≠ 0) (h3 : s.genMode m ≠ 3) (hr : s.genAtRest m = false) :
    s.mxGo m = (some 0x06050001, s.moveRejected m (Obj.MX_COMMAND m) 2) := (if_neg (by simp [h0, h3])).trans (if_neg (by simp [hr]))

theorem unitRest_mxMode (s : State) (m : Fin 12) : s.unitRest (Obj.MX_MODE m) = s.genAtRest m := by fin_cases m <;> rfl

theorem restRejected_mxMode (s : State) (m : Fin 12) : s.restRejected (Obj.MX_MODE m) = s.moveRejected m (Obj.MX_MODE m) 3 := by
  fin_cases m <;> rfl

theorem judge_mxMode {v : Byte} (hv : v.toNat ≤ 3) : (Chk.set [0, 1, 2, 3]).judge (v.toNat : Int) = none := by
  obtain h | h | h | h : v.toNat = 0 ∨ v.toNat = 1 ∨ v.toNat = 2 ∨ v.toNat = 3 := by omega
  all_goals rw [h]; rfl

theorem mxModeWrite_atRest {v : Byte} (hv : v.toNat ≤ 3) (hw : MayWrite s w 0) (hr : s.genAtRest m = true) :
    runMxModeWrite w m v s = .next (s.mxModeWrite m v.toNat) :=
  entryWrite_stands hw (row_mxMode m) (by fin_cases m <;> exact le_rfl) (.inr (.inr ⟨rfl, (unitRest_mxMode s m).trans hr⟩)) (by decide)
    (decode_u8 v) (judge_mxMode hv) (by fin_cases m <;> rfl) fun _ => effect_mxMode ..

/-- R297: the written byte is mode 3 exactly where its number is. -/
theorem mxModeWrite_engages (s : State) (m : Nat) (v : Byte) : s.mxModeWrite m v.toNat =
    (s.putN (Obj.MX_MODE m) v.toNat).genMod m fun g => { g with moving := false, creep := false, engageNext := v == 3, engaged := false } := by
  have h3 : ((v.toNat : Int) == 3) = (v == 3) := by
    rw [Bool.eq_iff_iff, beq_iff_eq, beq_iff_eq, ← BitVec.toNat_inj]
    norm_cast
  rw [State.mxModeWrite, h3]

/-- R286: a mode that could stand is rejected, and reported, while the generator moves. -/
theorem mxModeWrite_moving {v : Byte} (hv : v.toNat ≤ 3) (hw : MayWrite s w 0) (hr : s.genAtRest m = false) :
    runMxModeWrite w m v s = .next (s.moveRejected m (Obj.MX_MODE m) 3) := by
  obtain ⟨r, hrow, htype, hacc, hpersist, hlevel, hchk⟩ := rowIs_some (row_mxMode m)
  have hneed : max (writeNeed r) (namedLevel (Obj.MX_MODE m) [v]) = 0 := by
    rw [writeNeed, hlevel, hpersist]
    fin_cases m <;> rfl
  have hjudge : s.writeJudge w.client (Obj.MX_MODE m) [v] = .ok (r, .num v.toNat) := by
    simp [State.writeJudge, hrow, hacc, hneed, hpersist, htype, decode_u8, valueJudge, hchk, judge_mxMode hv]
  rw [runMxModeWrite, State.clientWrite, if_pos hw.1, State.dictWrite, hjudge]
  simp [hacc, unitRest_mxMode, hr, restRejected_mxMode]

/-! ### Gear tables (R299). -/

theorem gearTableRequestWrite_stands {v : Byte} (hv : v.toNat ≤ 1) (hw : MayWrite s w 0) :
    runGearTableRequestWrite w m v s = .next (s.gearRequest m v.toNat) := by
  have hset : (Chk.set [0, 1]).judge (v.toNat : Int) = none := by
    obtain h | h : v.toNat = 0 ∨ v.toNat = 1 := by omega
    all_goals rw [h]; rfl
  exact entryWrite_stands hw (row_gearTableRequest m) (by fin_cases m <;> exact le_rfl) (.inr (.inl rfl)) (by decide) (decode_u8 v) hset
    (by fin_cases m <;> rfl) fun _ => effect_gearTableRequest ..

theorem gearRequest_eq (s : State) (m : Nat) (v : Int) : s.gearRequest m v =
    (s.putN (Obj.GEAR_TABLE_REQUEST m) v).putBit (Obj.GEAR_STATUS m) 3 (decide (v ≠ s.n (Obj.GEAR_TABLE_ACTIVE m))) := by
  have hactive : (s.putN (Obj.GEAR_TABLE_REQUEST m) v).n (Obj.GEAR_TABLE_ACTIVE m) = s.n (Obj.GEAR_TABLE_ACTIVE m) :=
    n_putN_ne _ _ (by unfold Obj.GEAR_TABLE_REQUEST Obj.GEAR_TABLE_ACTIVE; omega)
  have hother : (v != s.n (Obj.GEAR_TABLE_ACTIVE m)) = decide (v ≠ s.n (Obj.GEAR_TABLE_ACTIVE m)) := Bool.eq_iff_iff.2 (by simp)
  rw [State.gearRequest, hactive, hother]

end

/-! ### Compare units (R302). -/

section
variable {n : Fin 12} {u : Fin 4}

theorem cmpPositionWrite_stands (v : Word) (hw : MayWrite s w 0) : runCmpPositionWrite w n u v s = .next (s.cmpPosition n u (.num v.toNat)) :=
  channelWrite_stands (n := n) (by unfold ofChannel Obj.CMP_POSITION; omega) hw (row_cmpPosition n u) (.inr (.inl rfl)) (by decide) (decode_u32 v) rfl
    fun _ => effect_cmpPosition ..

theorem cmpPosition_enabled (v : Nat) (h : s.bit (Obj.CMP_CONTROL n u) 7 = true) :
    s.cmpPosition n u (.num v) = (s.putN (Obj.CMP_POSITION n u) v).cmpArm n u := by rw [State.cmpPosition, h]; rfl
theorem cmpPosition_disabled (v : Nat) (h : s.bit (Obj.CMP_CONTROL n u) 7 = false) :
    s.cmpPosition n u (.num v) = s.putN (Obj.CMP_POSITION n u) v := by rw [State.cmpPosition, h]; rfl

theorem cmpControlWrite_stands {v : Byte} (h0 : v.toNat % 32 = 0) (hd : v.toNat / 32 % 4 ≠ 3) (hw : MayWrite s w 0) :
    runCmpControlWrite w n u v s = .next (s.cmpControl n u (.num v.toNat)) := by
  have hset : Chk.cmpControl.judge (v.toNat : Int) = none := (if_neg (by omega)).trans (if_neg (by omega))
  exact channelWrite_stands (n := n) (by unfold ofChannel Obj.CMP_CONTROL; omega) hw (row_cmpControl n u) (.inr (.inl rfl)) (by decide) (decode_u8 v) hset
    fun _ => effect_cmpControl ..

/-- R302: both directions at once are no setting. -/
theorem cmpControlWrite_bothDirections {v : Byte} (hd : v.toNat / 32 % 4 = 3) : runCmpControlWrite w n u v s = .next s := by
  refine clientWrite_rejected fun _ r x hok => ?_
  obtain ⟨r', hrow', htype, -, -, -, hchk⟩ := rowIs_some (row_cmpControl n u)
  obtain ⟨hrow, -, -, -, hdecode, hvalue⟩ := writeJudge_ok hok
  obtain rfl : r' = r := Option.some_inj.1 (hrow'.symm.trans hrow)
  rw [htype, decode_u8] at hdecode
  obtain rfl := Except.ok.inj hdecode
  have hbad : (Chk.cmpControl.judge (v.toNat : Int)).getD 0 ≠ 0 := by
    rw [Chk.judge]
    split
    · decide
    · rw [if_pos (by omega)]
      decide
  exact hbad (hchk ▸ hvalue)

/-- The enable is the control byte's highest bit. -/
theorem cmpControl_enable (s : State) (k v : Nat) (hv : v < 256) : (s.putN k v).bit k 7 = decide (128 ≤ v) := by
  rw [State.bit, nat_putN_self, Int.toNat_natCast, Nat.testBit_eq_decide_div_mod_eq, decide_eq_decide]
  omega

theorem cmpControl_enabled {v : Byte} (h : 128 ≤ v.toNat) : s.cmpControl n u (.num v.toNat) = (s.putN (Obj.CMP_CONTROL n u) v.toNat).cmpArm n u :=
  if_pos ((cmpControl_enable s _ _ v.isLt).trans (decide_eq_true h))
theorem cmpControl_disabled {v : Byte} (h : v.toNat < 128) : s.cmpControl n u (.num v.toNat) =
    (s.putN (Obj.CMP_CONTROL n u) v.toNat).putBit (Obj.CMP_STATUS n u) 0 false :=
  if_neg (by
    have := cmpControl_enable s (Obj.CMP_CONTROL n u) _ v.isLt
    rw [decide_eq_false (not_le.2 h)] at this
    exact Bool.eq_false_iff.1 this)

end

/-! ### Steppers and solenoids (R319, R324). -/

theorem vsClearShort_stands {k : Fin 4} (hw : MayWrite s w 0) : runVsClearShort w k s = .next (s.vsClearShort k) :=
  entryWrite_stands hw (row_vsCommand k) (by fin_cases k <;> decide) (.inl rfl) (by decide) rfl rfl (by fin_cases k <;> rfl)
    fun _ => effect_vsCommand ..

theorem solClearFaults_stands {m : Fin 16} (hw : MayWrite s w 0) : runSolClearFaults w m s = .next (s.solClear m) :=
  entryWrite_stands hw (row_solCommand m) (by fin_cases m <;> decide) (.inl rfl) (by decide) rfl rfl (by fin_cases m <;> rfl)
    fun _ => effect_solCommand ..

end

/-- Settles O19: the judgement lets each write stand, a moving generator's mode and a compare unit of two directions apart, and its behaviour
is the entry's own; GO does nothing in gearing mode (log 49), and a mode ends a speed held (log 246). -/
theorem motionWrites : Obligations.MotionWrites := by
  refine fun s w => ⟨fun n hw hs => ⟨fun ha hr => ?_, fun h => ?_⟩,
    fun m hw => ⟨fun h => ?_, fun h0 h3 hr => ?_, fun h0 h3 hr => ?_, ?_, fun v hv => ⟨fun hr => ?_, fun hr => ?_⟩, fun v hv => ?_⟩,
    fun n u hw => ⟨fun v => ⟨fun h => ?_, fun h => ?_⟩, fun v h0 hd => ⟨fun h => ?_, fun h => ?_⟩, fun v hd => ?_⟩, fun k hw => ?_, fun m hw => ?_⟩
  · exact .of_run (exec_axIdentify ..) (by rw [axIdentify_stands hw, axIdentify_begins hs ha hr]; rfl)
  · exact .of_run (exec_axIdentify ..) (by rw [axIdentify_stands hw, axIdentify_refused hs h]; rfl)
  · exact .of_run (exec_mxGo ..) (by rw [mxGo_stands hw, mxGo_unmoded h]; rfl)
  · exact .of_run (exec_mxGo ..) (by rw [mxGo_stands hw, mxGo_accepted h0 h3 hr]; rfl)
  · exact .of_run (exec_mxGo ..) (by rw [mxGo_stands hw, mxGo_moving h0 h3 hr]; rfl)
  · exact .of_run (exec_mxStop ..) (mxStop_stands hw)
  · exact .of_run (exec_mxModeWrite ..) (by rw [mxModeWrite_atRest hv hw hr, mxModeWrite_engages])
  · exact .of_run (exec_mxModeWrite ..) (mxModeWrite_moving hv hw hr)
  · exact .of_run (exec_gearTableRequestWrite ..) (by rw [gearTableRequestWrite_stands hv hw, gearRequest_eq])
  · exact .of_run (exec_cmpPositionWrite ..) (by rw [cmpPositionWrite_stands v hw, cmpPosition_enabled _ h])
  · exact .of_run (exec_cmpPositionWrite ..) (by rw [cmpPositionWrite_stands v hw, cmpPosition_disabled _ h])
  · exact .of_run (exec_cmpControlWrite ..) (by rw [cmpControlWrite_stands h0 hd hw, cmpControl_enabled h])
  · exact .of_run (exec_cmpControlWrite ..) (by rw [cmpControlWrite_stands h0 hd hw, cmpControl_disabled h])
  · exact .of_run (exec_cmpControlWrite ..) (cmpControlWrite_bothDirections hd)
  · exact .of_run (exec_vsClearShort ..) (vsClearShort_stands hw)
  · exact .of_run (exec_solClearFaults ..) (solClearFaults_stands hw)

end Sys2Proof.Laws
end

section
/-!
PROOFS. Generator steps, the ends of step pulses and gear table switches (R282–R284, R287, R298–R300).
-/
namespace Sys2Proof.Laws
open Sys2Proof.Machine

section
variable {s t : State} {m : Fin 12}

/-! ### The next step of a generator (R282, R300). -/

/-- R300: in gearing to a step output, the position follows the target once the pair is free. -/
theorem generatorStep_follows (he : (s.gen m).engaged = true) (hs : (s.gen m).stop = none) (hpair : (s.genStepPair m).isSome = true)
    (hp : (s.gen m).pulse = false) (hn : s.n (Obj.MX_POSITION m) ≠ (s.gen m).target) :
    runGeneratorStep m s = .next (s.genStep m (decide (s.n (Obj.MX_POSITION m) < (s.gen m).target))) :=
  (if_pos ⟨he, by rw [hs]; rfl⟩).trans (congrArg _ (if_pos (by simp [hpair, hp, hn])))

theorem generatorStep_waits (he : (s.gen m).engaged = true) (hs : (s.gen m).stop = none)
    (h : s.genStepPair m = none ∨ (s.gen m).pulse = true ∨ s.n (Obj.MX_POSITION m) = (s.gen m).target) : runGeneratorStep m s = .next s := by
  refine (if_pos ⟨he, by rw [hs]; rfl⟩).trans (congrArg _ (if_neg ?_))
  rcases h with h | h | h <;> simp [h]

/-- R282: any other generator, one whose gearing is being stopped among them, steps by its accumulator. -/
theorem generatorStep_ungeared (h : (s.gen m).engaged = false ∨ (s.gen m).stop.isSome = true) :
    runGeneratorStep m s = .next ((s.genNext m).getD s) := by
  refine if_neg fun hgeared => ?_
  rcases h with h | h
  · simp [h] at hgeared
  · simp [Option.isSome_iff_ne_none.1 h] at hgeared

theorem genNext_carry {k : Nat} {forward : Bool}
    (h : nextCarry (s.nat (Obj.MX_ACCUM m)) (s.gen m).v (s.gen m).clocks s.clk.tickLen = some (k, forward)) :
    s.genNext m = some ((s.genAdvance m k).genStep m forward) := by rw [State.genNext, h]
theorem genNext_noCarry (h : nextCarry (s.nat (Obj.MX_ACCUM m)) (s.gen m).v (s.gen m).clocks s.clk.tickLen = none) : s.genNext m = none := by
  rw [State.genNext, h]

/-! ### The end of a positioning move (R287). -/

section
variable {forward : Bool} (ht : t = ((s.putN (Obj.MX_POSITION m) (wrap64 (s.n (Obj.MX_POSITION m) + if forward then 1 else -1))).stepOut m
  forward).vsMoved m (s.n (Obj.MX_POSITION m)))
include ht

theorem genStep_completes (hplan : (t.gen m).plan.position = true) (hmoving : (t.gen m).moving = true)
    (hpos : t.n (Obj.MX_POSITION m) = t.n (Obj.MX_TARGET_POS m)) : s.genStep m forward = t.genComplete m := by
  subst ht
  exact if_pos (by simp [hplan, hmoving, hpos])

theorem genStep_goesOn (h : (t.gen m).plan.position = false ∨ (t.gen m).moving = false ∨ t.n (Obj.MX_POSITION m) ≠ t.n (Obj.MX_TARGET_POS m)) :
    s.genStep m forward = t := by
  subst ht
  refine if_neg ?_
  rcases h with h | h | h <;> simp [h]

end

/-! ### The switch of a gear table (R298, R299). -/

/-- R299: a table is centred where it holds the master in its centre segment, or no segment at all (log 50). -/
theorem gearTables_centred_iff (s : State) (m : Nat) : (∀ t < 2, s.gearTable m t = [] ∨ gearCentred (s.gearTable m t) (s.gearMaster m) = true) ↔
    ((s.gearTable m 0).isEmpty || gearCentred (s.gearTable m 0) (s.gearMaster m)) = true ∧
      ((s.gearTable m 1).isEmpty || gearCentred (s.gearTable m 1) (s.gearMaster m)) = true := by
  rw [Nat.forall_lt_succ_right, Nat.forall_lt_succ_right]
  simp

theorem gearTableSwitch_waits
    (h : s.bit (Obj.GEAR_STATUS m) 3 = false ∨ ¬ ∀ t < 2, s.gearTable m t = [] ∨ gearCentred (s.gearTable m t) (s.gearMaster m) = true) :
    runGearTableSwitch m s = .next s := by
  refine if_neg ?_
  rw [Bool.and_eq_true, Bool.and_eq_true, and_assoc, ← gearTables_centred_iff]
  rintro ⟨hrequested, hcentred⟩
  rcases h with h | h
  · simp [h] at hrequested
  · exact h hcentred

section
variable (hreq : s.bit (Obj.GEAR_STATUS m) 3 = true)
  (hc : ∀ t < 2, s.gearTable m t = [] ∨ gearCentred (s.gearTable m t) (s.gearMaster m) = true)
  (ht : t = ((s.putN (Obj.GEAR_TABLE_ACTIVE m) (s.n (Obj.GEAR_TABLE_REQUEST m))).putBit (Obj.GEAR_STATUS m) 3 false).count (Obj.GEAR_SWITCHES m) 32)
include hreq hc ht

/-- R299: the requested table becomes active; R298 then shifts an engaged unit, where it has rows to follow. -/
theorem gearTableSwitch_switches : runGearTableSwitch m s =
    .next ((if (t.gearActive m).isEmpty ∨ !(t.gen m).engaged then t else t.gearKeep m).gearStatus m) := by
  subst ht
  refine if_pos ?_
  rw [Bool.and_eq_true, Bool.and_eq_true, and_assoc, ← gearTables_centred_iff]
  exact ⟨hreq, hc⟩

theorem gearTableSwitch_unshifted (h : t.gearActive m = [] ∨ (t.gen m).engaged = false) : runGearTableSwitch m s = .next (t.gearStatus m) := by
  rw [gearTableSwitch_switches hreq hc ht, if_pos (by simpa using h)]

theorem gearTableSwitch_shifts (hrows : t.gearActive m ≠ []) (he : (t.gen m).engaged = true) :
    runGearTableSwitch m s = .next ((t.gearKeep m).gearStatus m) := by
  rw [gearTableSwitch_switches hreq hc ht, if_neg (by simp [hrows, he])]

end
end

/-- Settles O38: a generator by its gearing and its next carry, a step by the move it may complete, a pulse's end as it runs, and a table's
switch by the request and the centre of R299, in which an empty table counts as centred (log 50). -/
theorem generatorsStep : Obligations.GeneratorsStep := by
  refine fun s => ⟨fun m => ⟨fun he hs => ⟨fun hpair hp hn => ?_, fun h => ?_⟩, fun h => ⟨fun k forward hk => ?_, fun hk => ?_⟩⟩,
    fun m forward => ⟨genStep_completes rfl, genStep_goesOn rfl⟩, fun k => ?_, fun m k forward => rfl,
    fun m centred hcentred => ⟨fun h => ?_, fun hreq hc => ⟨fun h => ?_, fun hrows he => ?_⟩⟩⟩
  · exact .of_run (exec_generatorStep ..) (generatorStep_follows he hs hpair hp hn)
  · exact .of_run (exec_generatorStep ..) (generatorStep_waits he hs h)
  · exact .of_run (exec_generatorStep ..) (by rw [generatorStep_ungeared h, genNext_carry hk]; rfl)
  · exact .of_run (exec_generatorStep ..) (by rw [generatorStep_ungeared h, genNext_noCarry hk]; rfl)
  · exact .of_run (exec_stepPulseEnd ..) rfl
  · exact .of_run (exec_gearTableSwitch ..) (gearTableSwitch_waits (h.imp_right (mt hcentred.2)))
  · exact .of_run (exec_gearTableSwitch ..) (gearTableSwitch_unshifted hreq (hcentred.1 hc) rfl h)
  · exact .of_run (exec_gearTableSwitch ..) (gearTableSwitch_shifts hreq (hcentred.1 hc) rfl hrows he)

end Sys2Proof.Laws
end

section
/-!
PROOFS. Stepper choppers and solenoid switches: their events and their diagnosis (R315, R316, R318, R319, R321, R322, R324).
-/
namespace Sys2Proof.Laws
open Sys2Proof.Machine

/-! ### Events that ask for a condition. -/

section
variable {c : Instr} {s t : State} {p : Prop} [Decidable p] (hrun : exec c s = settled (.next (if p then t else s)))
include hrun

/-- An event in the phase or switch state it belongs to has its effect. -/
theorem gives_of_guard (h : p) : Gives c s t := .of_run hrun (congrArg _ (if_pos h))
/-- An event outside the phase or switch state it belongs to does nothing. -/
theorem gives_self_of_not_guard (h : ¬ p) : Gives c s s := .of_run hrun (congrArg _ (if_neg h))

end

/-! ### The chopper of a coil (R315, R316, R318, R319). -/

section
variable {s : State} {k : Fin 4} {c : Fin 2}

section
variable {n : Nat}
  (hn : n = if s.nat (Obj.VS_OPEN_MIN k) ≤ (vget (s.stepper k).coils c).ref.natAbs ∧ 12000 ≤ s.nat Obj.VSM_MV
    then (vget (s.stepper k).coils c).maxed + 1 else 0)
include hn

/-- R319: an on phase ended by VS_TON_MAX counts towards an open coil, which the sixteenth in a row reports. -/
theorem coilMaxed_eq : s.coilMaxed k c = if n = 16
    then ((s.coilFast k c n).coilMod k c fun x => { x with isOpen := true }).raise (Src.vs k) Kind.VALVE_OPEN_LOAD 1 (some c.val)
    else s.coilFast k c n := by
  subst hn
  simp only [State.coilMaxed, Bool.and_eq_true, decide_eq_true_eq]

theorem coilMaxed_counts (h : n ≠ 16) : s.coilMaxed k c = s.coilFast k c n := (coilMaxed_eq hn).trans (if_neg h)
theorem coilMaxed_reports (h : n = 16) : s.coilMaxed k c =
    ((s.coilFast k c n).coilMod k c fun x => { x with isOpen := true }).raise (Src.vs k) Kind.VALVE_OPEN_LOAD 1 (some c.val) :=
  (coilMaxed_eq hn).trans (if_pos h)

end

section
variable {i : Int}

/-- R318: a slow decay of 1 µs or more adds its estimate of e. -/
theorem chopperOfftimeEnd_slow (h : (vget (s.stepper k).coils c).phase = .slow) {ts : Nat}
    (hts : ts = s.nat (Obj.VS_TOFF k) * 100 * (16 - s.nat (Obj.VS_FAST k)) / 16) :
    runChopperOfftimeEnd k c i s = .next (if ts < 1000 then s.coilMod k c fun x => { x with phase := .blank }
      else (s.coilMod k c fun x => { x with phase := .blank }).stepMod k fun y =>
        { y with emfCount := y.emfCount + 1, emfSum := y.emfSum +
            |emfOf (s.nat (Obj.VS_COIL_R k)) (s.nat (Obj.VS_COIL_L k)) (vget (s.stepper k).coils c).first i ts| }) := by
  subst hts
  simp only [runChopperOfftimeEnd, h]
  rfl

theorem chopperOfftimeEnd_fast (h : (vget (s.stepper k).coils c).phase = .fast ∨ (vget (s.stepper k).coils c).phase = .flip) :
    runChopperOfftimeEnd k c i s = .next (s.coilMod k c fun x => { x with phase := .blank }) := by
  rcases h with h | h <;> simp only [runChopperOfftimeEnd, h]

/-- Outside an off-time, its end means nothing. -/
theorem chopperOfftimeEnd_other (hslow : (vget (s.stepper k).coils c).phase ≠ .slow) (hfast : (vget (s.stepper k).coils c).phase ≠ .fast)
    (hflip : (vget (s.stepper k).coils c).phase ≠ .flip) : runChopperOfftimeEnd k c i s = .next s := by
  unfold runChopperOfftimeEnd
  dsimp only
  split
  · next h => exact absurd h hslow
  · next h => exact absurd h hfast
  · next h => exact absurd h hflip
  · rfl

end
end

/-- Settles O39: each event by the phase it belongs to, VS_TON_MAX by the count of R319, and the off-time's end by the length of its slow decay. -/
theorem choppersCycle : Obligations.ChoppersCycle := by
  refine fun s k c => ⟨fun h => ⟨?_, ?_⟩, fun h reached => ?_, fun h => ?_, fun h => ?_, fun h n hn => ⟨fun h16 => ?_, fun h16 => ?_⟩,
    fun hon hblank => ?_, fun i => ⟨fun h => ?_, fun h => ?_, fun h ts hts => ⟨fun hlt => ?_, fun hle => ?_⟩, fun h => ?_, fun hs hf hflip => ?_⟩,
    fun qual => ⟨fun h => ?_, fun h => ?_⟩, fun h => ?_, fun h => ?_⟩
  · exact gives_of_guard (exec_chopperBlankEnd ..) h
  · exact gives_of_guard (exec_chopperBlankEnd ..) h
  · exact gives_self_of_not_guard (exec_chopperBlankEnd ..) h
  · exact gives_of_guard (exec_chopperCurrentReached ..) h
  · exact gives_self_of_not_guard (exec_chopperCurrentReached ..) h
  · exact coilMaxed_counts hn h16 ▸ gives_of_guard (exec_chopperTonMax ..) h
  · exact coilMaxed_reports hn h16 ▸ gives_of_guard (exec_chopperTonMax ..) h
  · exact gives_self_of_not_guard (exec_chopperTonMax ..) (not_or.2 ⟨hon, hblank⟩)
  · exact gives_of_guard (exec_fastDecayEnd ..) h
  · exact gives_self_of_not_guard (exec_fastDecayEnd ..) h
  · exact .of_run (exec_chopperOfftimeEnd ..) ((chopperOfftimeEnd_slow h hts).trans (congrArg _ (if_pos hlt)))
  · exact .of_run (exec_chopperOfftimeEnd ..) ((chopperOfftimeEnd_slow h hts).trans (congrArg _ (if_neg (not_lt.2 hle))))
  · exact .of_run (exec_chopperOfftimeEnd ..) (chopperOfftimeEnd_fast h)
  · exact .of_run (exec_chopperOfftimeEnd ..) (chopperOfftimeEnd_other hs hf hflip)
  · exact gives_of_guard (exec_vsOvercurrent ..) h
  · exact gives_self_of_not_guard (exec_vsOvercurrent ..) (by simp [h])
  · exact .of_run (exec_vsOpenLoadOff ..) (congrArg _ (if_neg (by simp [h])))
  · exact .of_run (exec_vsOpenLoadOff ..) (congrArg _ (if_pos h))

/-! ### The switch of a solenoid (R321, R322, R324). -/

section
variable {s : State} {m : Fin 16} {i : Nat}

/-- A switch set by what its output says of itself is set to what that comes to. -/
theorem solMod_sw {w : Switch} (g : Solenoid → Switch) (h : g (s.soln m) = w) :
    (s.solMod m fun x => { x with sw := g x }) = s.solMod m fun x => { x with sw := w } := by
  rw [State.solMod, vmod, show g (vget s.sol m) = w from h]
  rfl

/-- R322: a current already above the band at the end of the least on time turns the switch off. -/
theorem solMinOnEnd_above (h : (s.soln m).sw = .fresh) (hi : (s.soln m).centre + vget s.lp.bands m < i) :
    runSolMinOnEnd m i s = .next (s.solMod m fun x => { x with sw := .off }) := by
  rw [runSolMinOnEnd, if_pos h, solMod_sw _ (if_pos hi)]
theorem solMinOnEnd_within (h : (s.soln m).sw = .fresh) (hi : (i : Int) ≤ (s.soln m).centre + vget s.lp.bands m) :
    runSolMinOnEnd m i s = .next (s.solMod m fun x => { x with sw := .on }) := by
  rw [runSolMinOnEnd, if_pos h, solMod_sw _ (if_neg (not_lt.2 hi))]

/-- R322: a probe is judged by the band's lower edge of its start. -/
theorem solProbeEnd_below (h : (s.soln m).sw = .probe) (hi : (i : Int) ≤ (s.soln m).probeAt) :
    runSolProbeEnd m i s = .next (s.solMod m fun x => { x with sw := .fresh }) := by
  rw [runSolProbeEnd, if_pos h, solMod_sw _ (if_pos hi)]
theorem solProbeEnd_above (h : (s.soln m).sw = .probe) (hi : (s.soln m).probeAt < i) :
    runSolProbeEnd m i s = .next (s.solMod m fun x => { x with sw := .off }) := by
  rw [runSolProbeEnd, if_pos h, solMod_sw _ (if_neg (not_le.2 hi))]

/-- R324: a switch that is not on, is in a pull-in or has a centre below SOL_OPEN_MA shows no open load. -/
theorem solOpenLoadOn_passes
    (h : ((s.soln m).sw ≠ .on ∧ (s.soln m).sw ≠ .fresh) ∨ (s.soln m).pullin = true ∨ (s.soln m).centre < s.n (Obj.SOL_OPEN_MA m)) :
    runSolOpenLoadOn m s = .next s := by
  refine congrArg _ (if_neg ?_)
  rintro ⟨hsw, hpullin, hcentre⟩
  rcases h with ⟨hon, hfresh⟩ | h | h
  · exact hsw.elim hon hfresh
  · simp [h] at hpullin
  · exact not_lt.2 hcentre h

end

/-- Settles O40: each event by the switch state it belongs to, the least on time and the probe's end by the current they find. -/
theorem solenoidsSwitch : Obligations.SolenoidsSwitch := by
  refine fun s m => ⟨fun i => ⟨fun h hi => ?_, fun h => ?_, fun h => ⟨fun hi => ?_, fun hi => ?_⟩, fun h => ?_,
      fun h => ⟨fun hi => ?_, fun hi => ?_⟩, fun h => ?_⟩,
    fun h hc hm => ?_, fun h => ?_, fun h => ?_, fun h => ?_,
    fun mv => ⟨fun h => ?_, fun h => ?_, fun h => ⟨?_, ?_⟩, fun h => ⟨?_, ?_⟩⟩, fun h hp hc => ?_, fun h => ?_⟩
  · exact gives_of_guard (exec_solUpperCrossing ..) ⟨h, hi⟩
  · exact gives_self_of_not_guard (exec_solUpperCrossing ..) (not_and_or.2 (h.imp_right not_lt.2))
  · exact .of_run (exec_solMinOnEnd ..) (solMinOnEnd_above h hi)
  · exact .of_run (exec_solMinOnEnd ..) (solMinOnEnd_within h hi)
  · exact gives_self_of_not_guard (exec_solMinOnEnd ..) h
  · exact .of_run (exec_solProbeEnd ..) (solProbeEnd_below h hi)
  · exact .of_run (exec_solProbeEnd ..) (solProbeEnd_above h hi)
  · exact gives_self_of_not_guard (exec_solProbeEnd ..) h
  · exact gives_of_guard (exec_solProbe ..) ⟨h, hc, hm⟩
  · exact gives_self_of_not_guard (exec_solProbe ..) (by rintro ⟨hoff, hcentre, hmay⟩; simp [hoff, hcentre, hmay] at h)
  · exact gives_of_guard (exec_pullinEnd ..) h
  · exact gives_self_of_not_guard (exec_pullinEnd ..) (by simp [h])
  · exact gives_of_guard (exec_solOvercurrent ..) h
  · exact gives_self_of_not_guard (exec_solOvercurrent ..) (not_not.2 h)
  · exact gives_of_guard (exec_solShortToSupply ..) h
  · exact gives_of_guard (exec_solOpenLoadOff ..) h
  · exact gives_self_of_not_guard (exec_solShortToSupply ..) h
  · exact gives_self_of_not_guard (exec_solOpenLoadOff ..) h
  · exact gives_of_guard (exec_solOpenLoadOn ..) ⟨h, by simp [hp], hc⟩
  · exact .of_run (exec_solOpenLoadOn ..) (solOpenLoadOn_passes h)

end Sys2Proof.Laws
end

section
/-!
PROOFS. Leadership on the interlock lines: peer lines, quiet, rank delay and re-check, and the pedals' disagreement (R337, R353, R354, R357, R365, R397, R398).
-/
namespace Sys2Proof.Laws
open Sys2Proof.Machine

section
variable {s t : State}

/-! ### LEAD_OUT (R354). -/

theorem leadUp_leadOut (s : State) : s.leadUp.ch.leadOut = true := by
  unfold State.leadUp
  split
  · next h => exact h
  · exact congrArg Chaperone.leadOut (traceMeet_aside ..).ch

theorem leadDown_leadOut (s : State) : s.leadDown.ch.leadOut = false := by rw [leadDown_ch]

/-! ### A peer line's change (R353, R365, R397, R398). -/

/-- R354: an assertion is kept for the re-check, in its rank delay too. -/
def seenNoted (p : Fin 2) (s : State) : State :=
  let t := s.when (s.ch.take == .check) fun u => { u with ch.seen := vset u.ch.seen p true }
  t.when (t.ch.take == .delay) fun u => { u with ch.seen := vset u.ch.seen p true }
/-- R397, step 3: the waltz's re-check notes a lower lane's line. -/
def lowerNoted (p : Fin 2) (s : State) : State :=
  s.when (s.ch.waltz.step == 2 && s.lowerLane [p.val]) fun u => { u with ch.waltz.lower := true }
/-- R397: at a lower lane's line a holder of the last waltz drops LEAD_OUT and only ramps. -/
def holdYielded (p : Fin 2) (s : State) : State :=
  s.when (s.chapState == 4 && s.ch.waltz.holder && s.lowerLane [p.val]) fun u =>
    { u with ch.waltz.holder := false, ch.waltz.driven := 0, ch.waltz.toff := 0 }.leadDown.waltzFinish
/-- R353: in interlock mode a peer's line holds every armed output off. -/
def armHeldOff (s : State) : State := s.when (s.ch.armed != 0 && s.nat Obj.LEAD_MODE == 0) fun u => { u with ch.peerHold := true }.armJudge

theorem seenNoted_eq (p : Fin 2) (s : State) :
    seenNoted p s = if s.ch.take = .check ∨ s.ch.take = .delay then { s with ch.seen := vset s.ch.seen p true } else s := by
  cases h : s.ch.take <;> simp [seenNoted, h, State.when]

theorem lowerNoted_eq (p : Fin 2) (s : State) :
    lowerNoted p s = if s.ch.waltz.step = 2 ∧ s.lowerLane [p.val] = true then { s with ch.waltz.lower := true } else s :=
  if_congr (by simp) rfl rfl

theorem holdYielded_eq (p : Fin 2) (s : State) :
    holdYielded p s = if s.chapState = 4 ∧ s.ch.waltz.holder = true ∧ s.lowerLane [p.val] = true then
      { s with ch.waltz.holder := false, ch.waltz.driven := 0, ch.waltz.toff := 0 }.leadDown.waltzFinish else s :=
  if_congr (by simp [and_assoc]) rfl rfl

theorem armHeldOff_eq (s : State) :
    armHeldOff s = if s.ch.armed ≠ 0 ∧ s.nat Obj.LEAD_MODE = 0 then { s with ch.peerHold := true }.armJudge else s :=
  if_congr (by simp) rfl rfl

section
variable {p : Fin 2} {now : Nat}

/-- An asserted line is judged for the re-check, the last waltz, the arm signals and the line test (R365), in this order. -/
theorem peerLeadInChange_rises {a b e c : State} (ht : t = { s with ch.peers := vset s.ch.peers p true }) (ha : seenNoted p t = a)
    (hb : lowerNoted p a = b) (he : holdYielded p b = e) (hc : armHeldOff e = c) :
    runPeerLeadInChange p true now s = .next (if c.peerStray p now = true then c.lineStray p else c) := by
  subst ht ha hb he hc
  rfl

section
variable (ht : t = { s with ch.peers := vset s.ch.peers p false })
include ht

theorem peerLeadInChange_other (hlow : t.peersLow = false) : runPeerLeadInChange p false now s = .next t := by
  simp only [runPeerLeadInChange, ← ht, hlow, when_false, Bool.and_false, Bool.false_eq_true, if_false]

/-- R357: the last fall of the peer lines is kept; R398: a waltzing lane that neither holds nor has held runs its delay again. -/
theorem peerLeadInChange_falls (hlow : t.peersLow = true) {u : State} (hu : u = { t with ld.fall := now }) :
    runPeerLeadInChange p false now s = .next (if u.chapState = 4 ∧ u.ch.waltz.holder = false ∧ u.ch.waltz.holdDone = false ∧ u.ch.waltz.step = 0
      then { u with ch.waltz.step := 1 } else u) := by
  have hfall : t.when t.peersLow (fun u => { u with ld.fall := now }) = u := hu ▸ if_pos hlow
  have hulow : u.peersLow = true := hu ▸ hlow
  simp only [runPeerLeadInChange, ← ht, hfall, hulow, Bool.and_true, Bool.false_eq_true, if_false]
  exact congrArg _ (if_congr (by simp [and_assoc]) rfl rfl)

end
end

/-! ### Quiet lines and the rank delay (R353, R354). -/

theorem peerLinesQuiet_eq (hlow : s.peersLow = true) (ht : t = { s with ch.peerHold := false }) :
    runPeerLinesQuiet s = .next (if t.mayTake = true ∧ s.ch.take = .quiet then { t with ch.take := .delay } else t) := by
  subst ht
  refine (if_pos hlow).trans ?_
  simp only [Bool.and_eq_true, beq_iff_eq]

theorem rankDelayExpiry_idle (h : s.ch.take ≠ .delay ∨ s.mayTake = false) : runRankDelayExpiry s = .next s := by
  refine if_neg ?_
  rcases h with h | h <;> simp [h]

theorem rankDelayExpiry_eq (hd : s.ch.take = .delay) (hm : s.mayTake = true) : runRankDelayExpiry s = .next (if s.peersLow = true then
    { s with ch.take := .check, ch.rechecks := 0, ch.seen := .replicate 2 false }.leadUp else { s with ch.take := .quiet }) :=
  if_pos (by simp [hd, hm])

/-! ### The re-check (R354). -/

theorem leadRecheckEnd_idle (h : s.ch.take ≠ .check) : runLeadRecheckEnd s = .next s := if_pos (by simp [h])

section
variable (h : s.ch.take = .check)
include h

theorem leadRecheckEnd_grants (hseen : s.seenPeers = []) : runLeadRecheckEnd s = .next s.takeDone := by
  simp only [runLeadRecheckEnd, h, hseen]
  rfl

variable (hseen : s.seenPeers ≠ [])
include hseen

/-- A disturbed re-check yields to a lower lane; else its third disturbance fails it and an earlier one has it look again. -/
theorem leadRecheckEnd_disturbed : runLeadRecheckEnd s = if s.lowerLane s.seenPeers = true then .next (s.leadDown.takeAt .quiet)
    else if 2 ≤ s.ch.rechecks then .next s.takeFail else .next { s with ch.rechecks := s.ch.rechecks + 1, ch.seen := s.ch.peers } :=
  (if_neg (by simp [h])).trans (if_neg (by simp [hseen]))

end

/-! ### The pedals (R337). -/

theorem pedalDisagreeTimeout_idle (h : s.bl.differ = false ∨ s.bl.disagree = true) : runPedalDisagreeTimeout s = .next s := by
  refine congrArg _ (if_neg ?_)
  rcases h with h | h <;> simp [h]

theorem pedalDisagreeTimeout_raises (hd : s.bl.differ = true) (hn : s.bl.disagree = false) : runPedalDisagreeTimeout s =
    .next ({ s with bl.disagree := true }.raise Src.blend Kind.PEDAL_DISAGREE 1 (some s.pedalDetail)) :=
  congrArg _ (if_pos (by simp [hd, hn]))

end

/-- Settles O41: each command's run, under the condition that lets it do something and under its negation. -/
theorem interlockTakesTurns : Obligations.InterlockTakesTurns := by
  refine fun s => ⟨fun p now t ht => ?_, fun p now t ht => ⟨fun hlow => ?_, fun hlow => ⟨fun h => ?_, fun h => ?_⟩⟩, fun hlow => ?_,
    fun hlow => ⟨fun hm hq => ?_, fun h => ?_⟩, fun h => ?_, fun hd hm => ⟨fun hlow => ⟨?_, ?_⟩, fun hlow => ?_⟩, fun h => ?_,
    fun h => ⟨fun hseen => ?_, fun hseen hl => ⟨?_, ?_⟩, fun hseen hl h3 => ?_, fun hseen hl h3 => ?_⟩, fun hd hn => ?_, fun h => ?_⟩
  · exact .of_run (exec_peerLeadInChange ..)
      (peerLeadInChange_rises ht (seenNoted_eq p t) (lowerNoted_eq p _) (holdYielded_eq p _) (armHeldOff_eq _))
  · exact .of_run (exec_peerLeadInChange ..) (peerLeadInChange_other ht hlow)
  · subst ht
    exact .of_run (exec_peerLeadInChange ..) ((peerLeadInChange_falls rfl hlow rfl).trans (congrArg _ (if_pos h)))
  · subst ht
    refine .of_run (exec_peerLeadInChange ..) ((peerLeadInChange_falls rfl hlow rfl).trans (congrArg _ (if_neg ?_)))
    rintro ⟨(hchap : s.chapState = 4), (hholder : s.ch.waltz.holder = false), (hdone : s.ch.waltz.holdDone = false),
      (hstep : s.ch.waltz.step = 0)⟩
    simp [hchap, hholder, hdone, hstep] at h
  · exact .of_run (exec_peerLinesQuiet ..) (if_neg (by simp [hlow]))
  · exact .of_run (exec_peerLinesQuiet ..) ((peerLinesQuiet_eq hlow rfl).trans (congrArg _ (if_pos ⟨hm, hq⟩)))
  · refine .of_run (exec_peerLinesQuiet ..) ((peerLinesQuiet_eq hlow rfl).trans (congrArg _ (if_neg ?_)))
    rintro ⟨hm, hq⟩
    exact h.elim (by simp [hm]) (absurd hq)
  · exact .of_run (exec_rankDelayExpiry ..) (rankDelayExpiry_idle h)
  · exact .of_run (exec_rankDelayExpiry ..) ((rankDelayExpiry_eq hd hm).trans (congrArg _ (if_pos hlow)))
  · exact leadUp_leadOut _
  · exact .of_run (exec_rankDelayExpiry ..) ((rankDelayExpiry_eq hd hm).trans (congrArg _ (if_neg (by simp [hlow]))))
  · exact .of_run (exec_leadRecheckEnd ..) (leadRecheckEnd_idle h)
  · exact .of_run (exec_leadRecheckEnd ..) (leadRecheckEnd_grants h hseen)
  · exact .of_run (exec_leadRecheckEnd ..) ((leadRecheckEnd_disturbed h hseen).trans (if_pos hl))
  · exact leadDown_leadOut s
  · exact .of_run (exec_leadRecheckEnd ..) ((leadRecheckEnd_disturbed h hseen).trans (by simp [hl, h3]))
  · exact .of_run (exec_leadRecheckEnd ..) ((leadRecheckEnd_disturbed h hseen).trans (by simp [hl, not_le.2 h3]))
  · exact .of_run (exec_pedalDisagreeTimeout ..) (pedalDisagreeTimeout_raises hd hn)
  · exact .of_run (exec_pedalDisagreeTimeout ..) (pedalDisagreeTimeout_idle h)

end Sys2Proof.Laws
end

section
/-!
SUPPORT. The bytes of headers, claims and rows of the active table (O9, O10), and the fields of a raised fault (O11).
-/
namespace Sys2Proof.Laws
open Sys2Proof.Machine

/-! ### Byte strings laid one after another. -/

theorem take_le_append (n v : Nat) (bs : List Byte) : (le n v ++ bs).take n = le n v := List.take_left' (length_le n v)
theorem drop_le_append (n v : Nat) (bs : List Byte) : (le n v ++ bs).drop n = bs := List.drop_left' (length_le n v)
theorem le_one (v : Nat) : le 1 v = [BitVec.ofNat 8 v] := rfl

/-! ### Headers and claims (R418, R433). -/

theorem header_eq (s : State) (p type flags : Nat) : s.header p type flags =
    [BitVec.ofNat 8 type, BitVec.ofNat 8 flags, BitVec.ofNat 8 (s.portAddr p), BitVec.ofNat 8 (s.portNet p % 16)] := rfl

theorem claimPayload_eq (s : State) (p idx : Nat) : s.claimPayload p idx =
    s.header p 4 0 ++ BitVec.ofNat 8 idx :: 0 :: (le 4 (s.schedSig p) ++ [0, 0]) := by
  simp [State.claimPayload, le_one, zeros]

/-- Settles O9: the four bytes of a header, then the bytes that a claim lays behind it. -/
theorem headerAndClaimBytes : Obligations.HeaderAndClaimBytes := by
  refine ⟨fun s p type null _ => ⟨rfl, rfl, ?_, rfl, rfl⟩, fun s p idx _ => ?_⟩
  · cases null <;> rfl
  · rw [claimPayload_eq, header_eq]
    refine ⟨by simp, rfl, rfl, rfl, ?_, ?_⟩
    · exact (congrArg leNat (take_le_append 4 (s.schedSig p) [0, 0])).trans (leNat_le ..)
    · exact drop_le_append 4 (s.schedSig p) [0, 0]

/-! ### Rows of the active table (R529). -/

theorem faultRow_bytes (r : FaultRow) : r.bytes = le 8 r.last.bits.toNat ++
    (le 8 r.first ++ (le 4 (min r.count (2 ^ 32 - 1)) ++ [BitVec.ofNat 8 r.state, BitVec.ofNat 8 r.cls, 0, 0])) := by
  simp [FaultRow.bytes, le_one, zeros]

/-- Settles O10: each field is what its place in the row holds. -/
theorem activeRowBytes : Obligations.ActiveRowBytes := by
  intro r
  have h8 : r.bytes.drop 8 = le 8 r.first ++ (le 4 (min r.count (2 ^ 32 - 1)) ++ [BitVec.ofNat 8 r.state, BitVec.ofNat 8 r.cls, 0, 0]) := by
    rw [faultRow_bytes, drop_le_append]
  have h16 : r.bytes.drop 16 = le 4 (min r.count (2 ^ 32 - 1)) ++ [BitVec.ofNat 8 r.state, BitVec.ofNat 8 r.cls, 0, 0] := by
    rw [show 16 = 8 + 8 from rfl, ← List.drop_drop, h8, drop_le_append]
  have h20 : r.bytes.drop 20 = [BitVec.ofNat 8 r.state, BitVec.ofNat 8 r.cls, 0, 0] := by
    rw [show 20 = 16 + 4 from rfl, ← List.drop_drop, h16, drop_le_append]
  refine ⟨by simp [faultRow_bytes], ?_, ?_, ?_, ?_, ?_, ?_⟩
  · rw [faultRow_bytes, take_le_append, leNat_le_toNat (k := 8)]
  · rw [h8, take_le_append, leNat_le, pow_256]
  · rw [h16, take_le_append, leNat_le, Nat.mod_eq_of_lt (by omega)]
  · rw [h20]; rfl
  · rw [show 21 = 20 + 1 from rfl, ← List.drop_drop, h20]; rfl
  · rw [show 22 = 20 + 2 from rfl, ← List.drop_drop, h20]; rfl

/-! ### The fields of a fault message (R510). -/

theorem faultBits_toNat (m : FaultMsg) (h1 : m.src < 1024) (h2 : m.kind < 256) (h3 : m.cls < 4) (h4 : m.qual < 16) (h5 : m.seq < 256) :
    m.bits.toNat = m.src * 2 ^ 54 + m.kind * 2 ^ 46 + m.cls * 2 ^ 44 + m.qual * 2 ^ 40 + m.seq * 2 ^ 32 + m.detail.toNat := by
  have := m.detail.isLt
  simp only [FaultMsg.bits, BitVec.toNat_ofNat, Nat.shiftLeft_eq, Nat.mod_eq_of_lt h1, Nat.mod_eq_of_lt h2, Nat.mod_eq_of_lt h3,
    Nat.mod_eq_of_lt h4, Nat.mod_eq_of_lt h5]
  omega

theorem faultFields (m : FaultMsg) (h1 : m.src < 1024) (h2 : m.kind < 256) (h3 : m.cls < 4) (h4 : m.qual < 16) (h5 : m.seq < 256) :
    field m.bits.toNat 63 54 = m.src ∧ field m.bits.toNat 53 46 = m.kind ∧ field m.bits.toNat 45 44 = m.cls ∧
    field m.bits.toNat 43 40 = m.qual ∧ field m.bits.toNat 39 32 = m.seq ∧ field m.bits.toNat 31 0 = m.detail.toNat := by
  have := m.detail.isLt
  simp only [faultBits_toNat m h1 h2 h3 h4 h5, field, Nat.shiftRight_eq_div_pow]
  omega

/-! ### How a raised fault meets the queue (R515, R516). -/

section
variable (s : State) (m : FaultMsg)

theorem enqueue_room (h : s.col.queue.length < 64) : s.enqueue m = { s with col.queue := s.col.queue ++ [m] } := if_pos h

theorem enqueue_dropped (h : 64 ≤ s.col.queue.length) (hc : m.cls ≤ 1) :
    s.enqueue m = { s.count Obj.FAULT_DROPS 32 with col.gap := true } := (if_neg (by omega)).trans (if_pos hc)

theorem enqueue_held (h : 64 ≤ s.col.queue.length) (hc : 2 ≤ m.cls) : s.enqueue m = { s with col.held := s.col.held ++ [m] } :=
  (if_neg (by omega)).trans (if_neg (by omega))

theorem enqueue_seqs : (s.enqueue m).col.seqs = s.col.seqs := by unfold State.enqueue; split_ifs <;> rfl
theorem enqueue_lines : (s.enqueue m).col.lines = s.col.lines := by unfold State.enqueue; split_ifs <;> rfl

end

/-- The state in which a source has taken its next sequence. -/
def seqTaken (s : State) (src : Nat) : State :=
  { s with col.seqs := Sparse.set (fun _ => 0) s.col.seqs src ((Sparse.get (fun _ => 0) s.col.seqs src + 1) % 256) }

/-- A fault with a detail is enqueued once its sequence is taken; a CRITICAL one then asserts its line. -/
theorem raise_detail (s : State) (src kind qual : Nat) (d : Int) {m : FaultMsg} {t : State}
    (hm : m = ⟨src, kind, s.nat (Obj.FAULT_CLASS kind), qual, Sparse.get (fun _ => 0) s.col.seqs src, BitVec.ofInt 32 d, s.stamp⟩)
    (ht : t = (seqTaken s src).enqueue m) :
    s.raise src kind qual (some d) = if m.cls = 3 then { t with col.lines := t.col.lines ++ [m] } else t := by subst hm ht; rfl

/-- Settles O11: the message's fields by their places, the queue by its room and the message's class, the line by CRITICAL. -/
theorem raisedFaultMeetsTheQueue : Obligations.RaisedFaultMeetsTheQueue := by
  refine ⟨faultFields, fun s src kind qual d => ?_⟩
  intro m t
  have ht : t = _ := raise_detail s src kind qual d (m := m) rfl rfl
  have hseq : ((seqTaken s src).enqueue m).col.seqs = (seqTaken s src).col.seqs := enqueue_seqs ..
  have hlines : ((seqTaken s src).enqueue m).col.lines = s.col.lines := enqueue_lines ..
  have hq : t.col.queue = ((seqTaken s src).enqueue m).col.queue := by rw [ht]; split_ifs <;> rfl
  have hh : t.col.held = ((seqTaken s src).enqueue m).col.held := by rw [ht]; split_ifs <;> rfl
  have hd : t.dict = ((seqTaken s src).enqueue m).dict := by rw [ht]; split_ifs <;> rfl
  have hg : t.col.gap = ((seqTaken s src).enqueue m).col.gap := by rw [ht]; split_ifs <;> rfl
  have htold := (raise_told s src kind qual (some d)).same
  refine ⟨?_, fun hl => ?_, fun hl hc => ?_, fun hl hc => ?_, fun hc => ?_, fun hc => ?_, (congrArg State.nodes htold :),
    (congrArg State.ch htold :), (congrArg State.clk htold :), (congrArg State.out htold :)⟩
  · have : t.col.seqs = (seqTaken s src).col.seqs := by rw [← hseq, ht]; split_ifs <;> rfl
    rw [this]
    exact get_set_self ..
  · rw [hq, hh, hd, enqueue_room (seqTaken s src) m hl]
    exact ⟨rfl, rfl, rfl⟩
  · have hn : t.n Obj.FAULT_DROPS = ((seqTaken s src).enqueue m).n Obj.FAULT_DROPS := by unfold State.n State.get; rw [hd]
    rw [hq, hh, hg, hn, enqueue_dropped (seqTaken s src) m hl hc]
    exact ⟨rfl, rfl, rfl, n_putN_self ..⟩
  · rw [hq, hh, hd, enqueue_held (seqTaken s src) m hl hc]
    exact ⟨rfl, rfl, rfl⟩
  · rw [ht, if_pos hc, ← hlines]
  · rw [ht, if_neg hc, hlines]

end Sys2Proof.Laws
end

section
/-!
PROOFS. Every command answers (O1, O2); the arm signals and EB_OUT stand as the chaperone's logic settles them (O3–O6).
-/
namespace Sys2Proof.Laws
open Sys2Proof.Machine

/-! ### A run that answers. -/

/-- A run ends in a next state. -/
def Answers (r : Res) : Prop := ∃ u, r = .next u

theorem Answers.next {u : State} : Answers (.next u) := ⟨u, rfl⟩

theorem Answers.ite {p : Prop} [Decidable p] {a b : Res} (ha : Answers a) (hb : Answers b) : Answers (if p then a else b) := by
  split
  · exact ha
  · exact hb

/-- A command whose run answers has an effect. -/
theorem Answers.gives {c : Instr} {s : State} {r : Res} (h : exec c s = settled r) (hr : Answers r) : ∃ u, Gives c s u := by
  obtain ⟨u, hu⟩ := hr
  exact ⟨u, .of_run h hu⟩

/-! ### The runs that look something up before they branch. -/

section
variable {s : State}

theorem startSequence_answers (x : StartInput) : Answers (runStartSequence x s) := by
  unfold runStartSequence
  split <;> exact .next

theorem readSeg_answers (p : Pdu) : Answers (runReadSeg p s) := by
  refine .ite .next ?_
  split
  · exact .next
  · exact .ite .next (.ite .next (.ite .next .next))

theorem writeSeg_answers (p : Pdu) : Answers (runWriteSeg p s) := by
  refine .ite .next ?_
  split
  · exact .next
  · exact .ite .next (.ite .next (.ite .next (.ite .next (.ite .next .next))))

theorem segTimeout_answers (c : Client) (tag : Byte) : Answers (runSegTimeout c tag s) := by
  unfold runSegTimeout
  split <;> exact .next

theorem sessionResponse_answers (p : Pdu) (mac : BitVec 256) : Answers (runSessionResponse p mac s) := by
  refine .ite .next ?_
  split
  · exact .next
  · exact .ite .next (.ite .next (.ite .next .next))

theorem axIdentifyComplete_answers (n : Fin 6) : Answers (runAxIdentifyComplete n s) := by
  unfold runAxIdentifyComplete
  dsimp only
  split <;> exact .next

theorem chopperOfftimeEnd_answers (k : Fin 4) (c : Fin 2) (i : Int) : Answers (runChopperOfftimeEnd k c i s) := by
  unfold runChopperOfftimeEnd
  dsimp only
  split <;> exact .next

theorem wdgAnswer_answers (answer : Word) (micros : Nat) (eb : Bool) : Answers (runWdgAnswer answer micros eb s) :=
  .ite (.ite .next (.ite .next (.ite .next (.ite .next .next)))) .next

theorem frameLatch_answers (p : Fin 4) (w : Fin 24) (now : Nat) : Answers (runFrameLatch p w now s) := by
  unfold runFrameLatch
  split
  · exact .next
  · exact .ite .next (.ite .next (.ite .next .next))

theorem windowTransmit_answers (p : Fin 4) (w : Fin 24) (now : Nat) : Answers (runWindowTransmit p w now s) := by
  unfold runWindowTransmit
  split
  · exact .next
  · exact .ite .next (.ite .next (.ite .next .next))

theorem raluneFrameReceived_answers (p : Fin 4) (f : RxFrame) (now : Nat) : Answers (runRaluneFrameReceived p f now s) := by
  refine .ite .next (.ite .next ?_)
  split
  · exact .next
  · exact .ite .next (.ite .next (.ite .next .next))

theorem timeStepApply_answers : Answers (runTimeStepApply s) := by
  unfold runTimeStepApply
  split <;> exact .next

theorem streamFrameSend_answers (now : Nat) : Answers (runStreamFrameSend now s) := by
  refine .ite .next ?_
  split <;> exact .next

theorem retirementCommit_answers (m : Fin 11) (base : BitVec 32) : Answers (runRetirementCommit m base s) := by
  unfold runRetirementCommit
  split <;> exact .next

theorem recordPostEnd_answers : Answers (runRecordPostEnd s) := by
  unfold runRecordPostEnd
  split
  · exact .next
  · exact .ite .next .next

theorem commitTrailerDone_answers : Answers (runCommitTrailerDone s) := by
  unfold runCommitTrailerDone
  split
  · exact .next
  · exact .ite .next .next

theorem slotEraseDone_answers : Answers (runSlotEraseDone s) := by
  refine .ite ?_ .next
  dsimp only
  split <;> exact .next

theorem faultMessage_answers : Answers (runFaultMessage s) := by
  unfold runFaultMessage
  split
  · exact .next
  · exact .ite .next .next

theorem criticalLine_answers : Answers (runCriticalLine s) := by
  unfold runCriticalLine
  split <;> exact .next

theorem faultReactExpiry_answers (src : BitVec 10) (kind : Byte) : Answers (runFaultReactExpiry src kind s) := by
  unfold runFaultReactExpiry
  split
  · exact .ite .next .next
  · exact .next

theorem faultRowClear_answers (src : BitVec 10) (kind : Byte) : Answers (runFaultRowClear src kind s) := by
  unfold runFaultRowClear
  split
  · exact .ite .next .next
  · exact .next

theorem frameTransmitted_answers (p : Fin 4) (w : Fin 24) (own : Bool) (now : Nat) : Answers (runFrameTransmitted p w own now s) := by
  unfold runFrameTransmitted
  split
  · exact .next
  · exact .ite .next (.ite .next .next)

end

/-! ### Every command. -/

/-- Every command's run answers: one arm for each way in which runs branch. -/
theorem exec_answers (c : Instr) (s : State) : ∃ u, Gives c s u :=
  match c with
  | .cellWindowClose .. | .appPartitionRestart .. | .appRestartComplete .. | .keeperFault .. | .chaperoneReset .. | .chapClockFail ..
    | .supplyOvervoltage .. | .brownOut .. | .boundaryScanInstruction .. | .holdReadbackChange .. | .clockDeviation ..
    | .timebaseStartTimeout .. | .voteChange .. | .wakeLingerExpiry .. | .portActivityLapse .. | .partnerVoteLapse .. | .vbatArrival ..
    | .vbatWaitTimeout .. | .backgroundInitDone .. | .resetRequest .. | .slotPreferredWrite .. | .slotConfirm .. | .storedWriteCommit ..
    | .abort .. | .unknownService .. | .registerWrite .. | .sigConfirm .. | .keyEntryWrite .. | .sessionIdleExpiry ..
    | .sessionOwnerSilence .. | .challengeLapse .. | .lockoutExpiry .. | .icIntegrationStart .. | .refSettledSet .. | .refSettledClear ..
    | .refSettleTimeout .. | .calStart .. | .calibrationComplete .. | .supRestart .. | .fbInputEdge .. | .fbExtRebase .. | .indexEvent ..
    | .slipCountClear .. | .fbCounterPreset .. | .fbClassWrite .. | .indexCprWrite .. | .latchInputEdge .. | .latchCommandLatch ..
    | .latchRearm .. | .hallEdge .. | .obCommand .. | .cellStateWrite .. | .cellStatusClear .. | .loopLoadPeakClear .. | .traceArm ..
    | .traceForceTrigger .. | .traceFreeze .. | .gateStateMismatch .. | .ascExit .. | .armGrant .. | .armWithdraw ..
    | .emfComparatorCrossing .. | .axIdentify .. | .keTrendAppend .. | .linkGuardCrossing .. | .mxGo .. | .mxStop .. | .mxModeWrite ..
    | .gearTableRequestWrite .. | .cmpPositionWrite .. | .cmpControlWrite .. | .chopperCurrentReached .. | .chopperTonMax ..
    | .fastDecayEnd .. | .vsOvercurrent .. | .vsClearShort .. | .solUpperCrossing .. | .solProbe .. | .solProbeEnd .. | .pullinEnd ..
    | .solOvercurrent .. | .solShortToSupply .. | .solOpenLoadOn .. | .solOpenLoadOff .. | .solClearFaults .. | .pedalDisagreeTimeout ..
    | .leadRequestGiveUp .. | .leadRequestLineTest .. | .cardIssueMessage .. | .cardRenewMessage .. | .cardPassMessage ..
    | .cardReleaseMessage .. | .lineTestPeriodExpiry .. | .laneAnnouncement .. | .guardianBlock .. | .guardianCut .. | .portDown ..
    | .azCommandRecover .. | .routeWaitExpiry .. | .streamClockDetect .. | .streamIdleEnd .. | .imageLoadIdle .. | .creditColumn ..
    | .streamEnableWrite .. | .eccError .. | .remapCopyDone .. | .watchEntryAgeOut .. | .dmaDescriptorWrite .. | .dmaComplete ..
    | .recordTriggerCommand .. | .recordErase .. | .recordDownload .. | .commitPageWrite .. | .faultAcknowledge .. | .faultClearWrite ..
    | .faultLogCommit .. | .governorSample .. | .stageShutdown .. | .tjPowerPeakClear .. | .hourlyCommit .. | .powerOn ..
    | .waltzToffEnd .. | .stepPulseEnd .. | .chopperBlankEnd .. | .solMinOnEnd .. | .vsOpenLoadOff .. | .busOffRecovery ..
    | .creditColumnSend .. =>
    Answers.gives rfl .next
  | .tickEdge .. | .beatBoundary .. | .chaperoneResetRelease .. | .pinReset .. | .peerLeadInChange .. | .holdoffExpiry ..
    | .domainPowerGood .. | .dozeCommit .. | .parkedCommit .. | .dozeMaxExpiry .. | .keyChange .. | .wakePinEdge .. | .wakeUpPattern ..
    | .dominantActivity .. | .aonTimerWake .. | .streamSignalDetect .. | .startSupervisionTimeout .. | .recoveryDelayExpiry ..
    | .sstPhaseEnd .. | .sealedEntryWrite .. | .icIntegrationEnd .. | .shuntOffsetAverage .. | .gcSettleEnd .. | .gcWindowEnd ..
    | .supFault .. | .extensionRead .. | .sentTimeout .. | .hallInvalidCode .. | .observerCoast .. | .bootstrapUndervoltage ..
    | .desatTrip .. | .shuntOcTrip .. | .dumpMaxOnExpiry .. | .generatorStep .. | .gearTableSwitch .. | .peerLinesQuiet ..
    | .rankDelayExpiry .. | .cardRenewTimer .. | .cardLeaseExpiry .. | .cardHandoverEdge .. | .cardSuccessionIssue .. | .shadowRecord ..
    | .healthBlock .. | .peerWordsTimeout .. | .steerRateTimeout .. | .brakeEnvelopeTimeout .. | .chapReferenceObserved ..
    | .guardCoastExpiry .. | .chapConfigRecheck .. | .wdgPeriodStart .. | .wdgWindowClose .. | .ascGrantWithdraw .. | .ebSilentRelease ..
    | .ladderWaltzDelayExpiry .. | .ladderRequestClear .. | .waltzWaitExpiry .. | .waltzRankDelay .. | .waltzHoldEnd .. | .ebRampPeriod ..
    | .ebRampEnd .. | .syncTimeout .. | .coldStartSilence .. | .coldStartDelay .. | .spareSilence .. | .announceRepeatTimer ..
    | .azsinTimeout .. | .streamTsReceived .. | .streamTrainingTimeout .. | .streamLinkLoss .. | .streamCreditTimeout .. | .scrubLapEnd ..
    | .scrubLapLimitExpiry .. | .dumpForcedOffEnd .. | .streamAzsinLatch .. | .sidePathMissing .. =>
    Answers.gives rfl (.ite .next .next)
  | .startCardRetry .. | .supRetry .. =>
    Answers.gives rfl (.ite (.ite .next .next) .next)
  | .startPartnerWaitExpiry .. | .waltzRecheck .. =>
    Answers.gives rfl (.ite (.ite .next (.ite .next .next)) .next)
  | .strapServiceRead .. | .cueFrame .. | .sentFrame .. | .lineTestPulse .. | .chapRequest .. | .sidePathMessage ..
    | .referenceCollision .. | .networkAnnouncement .. =>
    Answers.gives rfl (.ite .next (.ite .next .next))
  | .supplyUndervoltage .. | .supplyRecovery .. | .readInit .. | .sessionClose .. | .lineTestEvaluate .. =>
    Answers.gives rfl (.ite .next (.ite .next (.ite .next .next)))
  | .writeInit .. | .sessionOpen .. | .leadRecheckEnd .. | .referenceFrame .. | .streamFrameReceived .. =>
    Answers.gives rfl (.ite .next (.ite .next (.ite .next (.ite .next .next))))
  | .startSequence .. => Answers.gives rfl (startSequence_answers ..)
  | .readSeg .. => Answers.gives rfl (readSeg_answers ..)
  | .writeSeg .. => Answers.gives rfl (writeSeg_answers ..)
  | .segTimeout .. => Answers.gives rfl (segTimeout_answers ..)
  | .sessionResponse .. => Answers.gives rfl (sessionResponse_answers ..)
  | .axIdentifyComplete .. => Answers.gives rfl (axIdentifyComplete_answers ..)
  | .chopperOfftimeEnd .. => Answers.gives rfl (chopperOfftimeEnd_answers ..)
  | .wdgAnswer .. => Answers.gives rfl (wdgAnswer_answers ..)
  | .frameLatch .. => Answers.gives rfl (frameLatch_answers ..)
  | .windowTransmit .. => Answers.gives rfl (windowTransmit_answers ..)
  | .raluneFrameReceived .. => Answers.gives rfl (raluneFrameReceived_answers ..)
  | .timeStepApply .. => Answers.gives rfl (timeStepApply_answers ..)
  | .streamFrameSend .. => Answers.gives rfl (streamFrameSend_answers ..)
  | .retirementCommit .. => Answers.gives rfl (retirementCommit_answers ..)
  | .recordPostEnd .. => Answers.gives rfl (recordPostEnd_answers ..)
  | .commitTrailerDone .. => Answers.gives rfl (commitTrailerDone_answers ..)
  | .slotEraseDone .. => Answers.gives rfl (slotEraseDone_answers ..)
  | .faultMessage .. => Answers.gives rfl (faultMessage_answers ..)
  | .criticalLine .. => Answers.gives rfl (criticalLine_answers ..)
  | .faultReactExpiry .. => Answers.gives rfl (faultReactExpiry_answers ..)
  | .faultRowClear .. => Answers.gives rfl (faultRowClear_answers ..)
  | .frameTransmitted .. => Answers.gives rfl (frameTransmitted_answers ..)

/-- Settles O2. -/
theorem everyCommandAnswers : Obligations.EveryCommandAnswers := exec_answers

/-- Settles O1: by what stands at the front of the queue. -/
theorem stepRunsFront : Obligations.StepRunsFront := by
  refine fun s c rest => ⟨fun h => ?_, fun h => ?_⟩
  · unfold step; rw [h]
  · unfold step; rw [h]

/-! ### What the settling leaves (R379, R391). -/

section
variable (s : State) (d : Int)

/-- No condition of an arm signal reads EB_OUT's level. -/
theorem armOk_ebDuty (b : Nat) : (s.putN Obj.EB_DUTY d).armOk b = s.armOk b := by
  have g {k : Nat} (h : k ≠ Obj.EB_DUTY) : (s.putN Obj.EB_DUTY d).n k = s.n k := n_putN_ne s d h
  have out : (s.putN Obj.EB_DUTY d).outEnable b = s.outEnable b := by
    unfold State.outEnable State.on
    split_ifs
    · rw [g (by unfold Obj.AX_ENABLE Obj.EB_DUTY; omega)]
    · rw [g (by unfold Obj.VS_ENABLE Obj.EB_DUTY; omega)]
    · rw [g (by unfold Obj.SOL_ENABLE Obj.EB_DUTY; omega)]
    · rfl
  unfold State.armOk State.leadCondition State.armSupply State.chapState State.bit State.nat
  rw [out, g (by decide : Obj.CHAP_STATE ≠ _), g (by decide : Obj.WDG_ERRORS ≠ _), g (by decide : Obj.WDG_LIMIT ≠ _),
    g (by decide : Obj.LEAD_MODE ≠ _), g (by decide : Obj.DOMAIN_STATUS ≠ _)]
  rfl

theorem ebLevel_ebDuty : (s.putN Obj.EB_DUTY d).ebLevel = s.ebLevel := by
  unfold State.ebLevel State.chapState
  rw [nat_putN_ne s d (by decide : Obj.CHAP_STATE ≠ _)]
  rfl

/-- EB_OUT's update writes its level or nothing. -/
theorem ebUpdate_cases : s.ebUpdate = s ∧ EbKept s ∨ ∃ d, s.ebLevel = some d ∧ s.ebUpdate = s.putN Obj.EB_DUTY d := by
  unfold State.ebUpdate EbKept
  split
  · next d h =>
    split
    · next hd => exact .inl ⟨rfl, fun e he => by rw [hd]; exact Option.some.inj (h.symm.trans he)⟩
    · exact .inr ⟨d, h, rfl⟩
  · next h => exact .inl ⟨rfl, fun e he => by simp [h] at he⟩

theorem ebUpdate_ebKept : EbKept s.ebUpdate := by
  rcases ebUpdate_cases s with ⟨h, hk⟩ | ⟨d, hl, h⟩
  · rwa [h]
  · rw [h]
    intro e he
    rw [ebLevel_ebDuty, hl] at he
    cases he
    exact nat_putN_self ..

theorem ebUpdate_armKept (h : ArmKept s) : ArmKept s.ebUpdate := by
  rcases ebUpdate_cases s with ⟨hs, -⟩ | ⟨d, -, hs⟩
  · rwa [hs]
  · rw [hs]
    exact fun b hb ht => (armOk_ebDuty s d b).trans (h b hb ht)

/-- What a command leaves is safe. -/
theorem settle_safe : Safe s.settle := ⟨ebUpdate_armKept _ (armJudge_kept s), ebUpdate_ebKept _⟩

end

/-- Whatever a command answers is safe. -/
theorem exec_safe {c : Instr} {s t : State} (h : exec c s = .next t) : Safe t := by
  obtain ⟨u, hu⟩ := exec_answers c s
  cases hu.symm.trans h
  exact settle_safe u

/-- Settles O3: no arm signal is asserted, and EB_DUTY has its default 0. -/
theorem safeAtReset : Obligations.SafeAtReset := by
  refine ⟨fun b _ h => ?_, fun d h => ?_⟩
  · exact absurd (h.symm.trans (Nat.zero_testBit b)) (by decide)
  · have h0 : State.reset.ebLevel = some 0 := rfl
    cases h0.symm.trans h
    rfl

/-- Settles O4: a step is a command, which ends settled, or idles. -/
theorem safeIsKept : Obligations.SafeIsKept := by
  intro s t hs h
  unfold step at h
  split at h
  · cases h
    exact hs
  · exact exec_safe h

/-! ### The conditions of an arm signal, one by one (R379). -/

theorem armOk_iff (s : State) (b : Nat) : s.armOk b = true ↔
    s.nat Obj.CHAP_STATE = 2 ∧ s.nat Obj.WDG_ERRORS < s.nat Obj.WDG_LIMIT ∧ s.ch.request.testBit b = true ∧ s.leadCondition = true ∧
      s.outEnable b = true ∧ s.armSupply b = true ∧ s.bit Obj.DOMAIN_STATUS 3 = true ∧ s.ch.scan = false ∧ s.ch.scanTest = false := by
  simp [State.armOk, State.chapState, and_assoc]

section
variable {s : State}

theorem leadCondition_interlock (h : s.leadCondition = true) (hm : s.nat Obj.LEAD_MODE = 0) :
    s.ch.leadOut = true ∧ vget s.ch.peers 0 = false ∧ vget s.ch.peers 1 = false ∧ s.ch.peerHold = false := by
  simpa [State.leadCondition, hm, and_assoc] using h

theorem leadCondition_card (h : s.leadCondition = true) (hm : s.nat Obj.LEAD_MODE ≠ 0) : s.ch.lease.isSome = true := by
  simpa [State.leadCondition, hm] using h

theorem outEnable_axis {b : Nat} (h : s.outEnable b = true) (hb : b < 6) : s.n (Obj.AX_ENABLE b) ≠ 0 := by
  simpa [State.outEnable, State.on, hb] using h

theorem outEnable_stepper {b : Nat} (h : s.outEnable b = true) (h6 : 6 ≤ b) (hb : b < 10) : s.n (Obj.VS_ENABLE (b - 6)) ≠ 0 := by
  simpa [State.outEnable, State.on, not_lt.2 h6, hb] using h

theorem outEnable_solenoid {b : Nat} (h : s.outEnable b = true) (h10 : 10 ≤ b) (hb : b < 26) : s.n (Obj.SOL_ENABLE (b - 10)) ≠ 0 := by
  simpa [State.outEnable, State.on, not_lt.2 h10, not_lt.2 (le_trans (by decide : 6 ≤ 10) h10), hb] using h

theorem armSupply_iff (b : Nat) : s.armSupply b = true ↔
    s.su.low.testBit 4 = false ∧ s.su.low.testBit 5 = false ∧ (b < 6 → s.su.low.testBit 2 = false) := by
  simp only [State.armSupply, Bool.and_eq_true, Bool.or_eq_true, Bool.not_eq_true', decide_eq_true_eq, and_assoc]
  rw [← not_lt, ← imp_iff_not_or]

end

/-- Settles O5: every command ends with each asserted arm signal under its conditions, which are these. -/
theorem armedOnlyWhileAllowed : Obligations.ArmedOnlyWhileAllowed := by
  intro c s t b h hb ht
  obtain ⟨hchap, hwdg, hreq, hlead, hout, hsup, hdom, hscan, htest⟩ := (armOk_iff t b).1 ((exec_safe h).1 b hb ht)
  obtain ⟨h4, h5, h2⟩ := (armSupply_iff b).1 hsup
  exact ⟨hchap, hwdg, hreq, leadCondition_interlock hlead, leadCondition_card hlead, outEnable_axis hout, outEnable_stepper hout,
    fun h10 => outEnable_solenoid hout h10 hb, h4, h5, h2, hdom, hscan, htest⟩

/-! ### The frame of the settling. -/

/-- `t`, but with what the settling of `s` may change as it stands in `s`. -/
def framed (s t : State) : State :=
  { t with
    dict := s.dict, nodes := s.nodes, free := s.free, col := s.col, ax := s.ax, vs := s.vs, sol := s.sol
    ms := { t.ms with disarmedNow := s.ms.disarmedNow }, ch := { t.ch with armed := s.ch.armed } }

/-- What the loss of arm signals of outputs in `P`, and EB_OUT's update, can touch. -/
structure Touches (P : Nat → Prop) (s t : State) : Prop where
  get : ∀ k, k ≠ Obj.FAULT_DROPS → k ≠ Obj.EB_DUTY → (∀ n < 6, k ≠ Obj.AX_STATE n ∧ k ≠ Obj.AX_STATUS n) → t.get k = s.get k
  nodeW : ∀ k, (∀ m < 16, k ≠ 947 + 4 * m) → t.nodeW k = s.nodeW k
  ax : ∀ n < 6, ¬ P n → vget t.ax n = vget s.ax n
  vs : ∀ n < 4, ¬ P (n + 6) → vget t.vs n = vget s.vs n
  sol : ∀ n < 16, ¬ P (n + 10) → vget t.sol n = vget s.sol n
  rest : framed s t = s

section
variable {P : Nat → Prop} {s t u : State}

theorem Touches.refl : Touches P s s := ⟨fun _ _ _ _ => rfl, fun _ _ => rfl, fun _ _ _ => rfl, fun _ _ _ => rfl, fun _ _ _ => rfl, rfl⟩

theorem Touches.trans (h : Touches P s t) (h' : Touches P t u) : Touches P s u := by
  refine ⟨fun k a b c => (h'.get k a b c).trans (h.get k a b c), fun k a => (h'.nodeW k a).trans (h.nodeW k a),
    fun n a b => (h'.ax n a b).trans (h.ax n a b), fun n a b => (h'.vs n a b).trans (h.vs n a b),
    fun n a b => (h'.sol n a b).trans (h.sol n a b), ?_⟩
  calc framed s u = framed s (framed t u) := rfl
    _ = framed s t := by rw [h'.rest]
    _ = s := h.rest

theorem Told.touches (h : Told s t) : Touches P s t :=
  ⟨fun k a _ _ => h.get k a, fun k _ => (congrArg (State.nodeW · k) h.same :), fun n _ _ => (congrArg (fun x => vget x.ax n) h.same :),
    fun n _ _ => (congrArg (fun x => vget x.vs n) h.same :), fun n _ _ => (congrArg (fun x => vget x.sol n) h.same :),
    (congrArg (framed s) h.same :)⟩

theorem vget_vmod_ne {α : Type} [Inhabited α] {n : Nat} (v : Vector α n) {i j : Nat} (f : α → α) (h : j ≠ i) :
    vget (vmod v i f) j = vget v j := by
  simp [vget, vmod, vset, h.symm]

theorem putN_touches {k : Nat} (v : Int) (h : k = Obj.EB_DUTY ∨ ∃ n < 6, k = Obj.AX_STATE n ∨ k = Obj.AX_STATUS n) :
    Touches P s (s.putN k v) := by
  refine ⟨fun j _ hd hx => get_putN_ne s v ?_, fun _ _ => rfl, fun _ _ _ => rfl, fun _ _ _ => rfl, fun _ _ _ => rfl, rfl⟩
  rcases h with rfl | ⟨n, hn, rfl | rfl⟩
  · exact hd
  · exact (hx n hn).1
  · exact (hx n hn).2

theorem setAxState_touches {n : Nat} (code : Nat) (hn : n < 6) : Touches P s (s.setAxState n code) :=
  (putN_touches _ (.inr ⟨n, hn, .inl rfl⟩)).trans (putN_touches _ (.inr ⟨n, hn, .inr rfl⟩))

theorem axMod_touches {n : Nat} (f : Axis → Axis) (h : P n) : Touches P s (s.axMod n f) :=
  ⟨fun _ _ _ _ => rfl, fun _ _ => rfl, fun _ _ hj => vget_vmod_ne _ _ fun e => hj (e ▸ h), fun _ _ _ => rfl, fun _ _ _ => rfl, rfl⟩

theorem stepMod_touches {k : Nat} (f : Stepper → Stepper) (h : P (k + 6)) : Touches P s (s.stepMod k f) :=
  ⟨fun _ _ _ _ => rfl, fun _ _ => rfl, fun _ _ _ => rfl, fun _ _ hj => vget_vmod_ne _ _ fun e => hj (e ▸ h), fun _ _ _ => rfl, rfl⟩

theorem solMod_touches {m : Nat} (f : Solenoid → Solenoid) (h : P (m + 10)) : Touches P s (s.solMod m f) :=
  ⟨fun _ _ _ _ => rfl, fun _ _ => rfl, fun _ _ _ => rfl, fun _ _ _ => rfl, fun _ _ hj => vget_vmod_ne _ _ fun e => hj (e ▸ h), rfl⟩

theorem setNode_touches {m : Nat} (v : Int) (hm : m < 16) : Touches P s (s.setNode (944 + 4 * m + 3) v) :=
  ⟨fun _ _ _ _ => rfl, fun k hk => (nodeW_setNodeW s k _ _).trans (if_neg fun e => hk m hm (by omega)), fun _ _ _ => rfl, fun _ _ _ => rfl,
    fun _ _ _ => rfl, rfl⟩

/-! Each way an output turns off. -/

section
variable {n : Nat} (hn : n < 6) (h : P n)
include hn h

theorem axOffNow_touches (soft : Bool) : Touches P s (s.axOffNow n soft) := by
  refine (setAxState_touches 0 hn).trans ?_
  exact ⟨fun _ _ _ _ => rfl, fun _ _ => rfl, fun _ _ hj => vget_vmod_ne _ _ fun e => hj (e ▸ h), fun _ _ _ => rfl, fun _ _ _ => rfl, rfl⟩

theorem axLeave_touches (q : Nat) : Touches P s (s.axLeave n q) := by
  unfold State.axLeave
  dsimp only
  split
  · exact (axOffNow_touches hn h _).trans ((setAxState_touches _ hn).trans ((axMod_touches _ h).trans (raise_told ..).touches))
  · exact axOffNow_touches hn h _

theorem axWithdraw_touches : Touches P s (s.axWithdraw n) := by
  unfold State.axWithdraw
  dsimp only
  split
  · exact (axMod_touches _ h).trans (axLeave_touches hn h _)
  · exact (axMod_touches _ h).trans (axOffNow_touches hn h _)
  · exact axMod_touches _ h

end

theorem solCentre_touches {m : Nat} (hm : m < 16) (h : P (m + 10)) : Touches P s (s.solCentre m) :=
  (solMod_touches _ h).trans (setNode_touches _ hm)

theorem valveWithdraw_touches {b : Nat} (h : P b) : Touches P s (s.valveWithdraw b) := by
  unfold State.valveWithdraw
  split_ifs with hv hs
  · have hP : P (b - 6 + 6) := by rwa [Nat.sub_add_cancel hv.1]
    exact (stepMod_touches _ hP).trans (stepMod_touches _ hP)
  · have hP : P (b - 10 + 10) := by rwa [Nat.sub_add_cancel hs.1]
    exact ((solMod_touches _ hP).trans (solMod_touches _ hP)).trans (solCentre_touches (by omega) hP)
  · exact .refl

theorem outWithdraw_touches {b : Nat} (h : P b) : Touches P s (s.outWithdraw b) := by
  unfold State.outWithdraw
  split_ifs with hb
  · exact axWithdraw_touches hb h
  · exact valveWithdraw_touches h

theorem armDrop_touches {b : Nat} (h : s.ch.armed.testBit b = true → P b) : Touches P s (s.armDrop b) := by
  unfold State.armDrop
  split_ifs with ha
  · have hc : Touches P s (s.armClear b) :=
      ⟨fun _ _ _ _ => rfl, fun _ _ => rfl, fun _ _ _ => rfl, fun _ _ _ => rfl, fun _ _ _ => rfl, rfl⟩
    exact hc.trans (outWithdraw_touches (h ha))
  · exact .refl

end

/-- Judging the arm signals touches only outputs that were armed. -/
theorem judge_fold_touches (l : List Nat) {P : Nat → Prop} (s : State) (h : ∀ b, s.ch.armed.testBit b = true → P b) :
    Touches P s (l.foldl (fun s b => if s.ch.armed.testBit b && !s.armOk b then s.armDrop b else s) s) := by
  induction l generalizing s with
  | nil => exact .refl
  | cons a l ih =>
    have h1 : Touches P s (if s.ch.armed.testBit a && !s.armOk a then s.armDrop a else s) := by
      split_ifs
      · exact armDrop_touches (h a)
      · exact .refl
    exact h1.trans (ih _ fun b hb => h b ((judge_one s a).armed b hb))

theorem ebUpdate_touches (P : Nat → Prop) (s : State) : Touches P s s.ebUpdate := by
  rcases ebUpdate_cases s with ⟨h, -⟩ | ⟨d, -, h⟩ <;> rw [h]
  · exact .refl
  · exact putN_touches _ (.inl rfl)

theorem settle_touches (s : State) : Touches (fun b => s.ch.armed.testBit b = true) s s.settle :=
  (judge_fold_touches (List.range 26) s fun _ h => h).trans (ebUpdate_touches _ s.armJudge)

theorem ebUpdate_ch (s : State) : s.ebUpdate.ch = s.ch := by
  rcases ebUpdate_cases s with ⟨h, -⟩ | ⟨d, -, h⟩ <;> rw [h]
  rfl

/-- Settles O6: what judging every arm signal touches, then what EB_OUT's update writes. -/
theorem settlingFrame : Obligations.SettlingFrame := by
  intro s
  have h := settle_touches s
  refine ⟨fun c hc => (armJudge_disarmed s).armed c ?_, h.get, h.nodeW, fun n hn ha => h.ax n hn (by simp [ha]),
    fun n hn ha => h.vs n hn (by simp [ha]), fun n hn ha => h.sol n hn (by simp [ha]), h.rest⟩
  rwa [State.settle, ebUpdate_ch] at hc

end Sys2Proof.Laws
end

section
/-!
PROOFS. The keeper watchdog of the chaperone (R381).
-/
namespace Sys2Proof.Laws
open Sys2Proof.Machine

/-! ### The request for EB_OUT's release. -/

section
variable (s : State) (on : Bool)

theorem ebUpdate_get {k : Nat} (h : k ≠ Obj.EB_DUTY) : s.ebUpdate.get k = s.get k := by
  rcases ebUpdate_cases s with ⟨e, -⟩ | ⟨d, -, e⟩ <;> rw [e]
  exact get_putN_ne s d h

theorem ebAsk_get {k : Nat} (h : k ≠ Obj.EB_DUTY) : (s.ebAsk on).get k = s.get k := ebUpdate_get _ h
theorem ebAsk_n {k : Nat} (h : k ≠ Obj.EB_DUTY) : (s.ebAsk on).n k = s.n k := by unfold State.n; rw [ebAsk_get s on h]
theorem ebAsk_nat {k : Nat} (h : k ≠ Obj.EB_DUTY) : (s.ebAsk on).nat k = s.nat k := by unfold State.nat; rw [ebAsk_n s on h]
theorem ebAsk_ch : (s.ebAsk on).ch = { s.ch with ebRequest := on } := ebUpdate_ch _

end

/-! ### The register (R381). -/

theorem lfsrNext_ne_zero {x : Nat} (h : x ≠ 0) : lfsrNext x ≠ 0 := by
  by_cases h1 : x = 1
  · subst h1
    decide
  · unfold lfsrNext
    dsimp only
    omega

theorem lfsrNext_lt {x : Nat} (h : x < 65536) : lfsrNext x < 65536 := by
  unfold lfsrNext
  dsimp only
  split <;> omega

/-! ### Periods, answers and errors. -/

section
variable {s : State}

theorem wdgWindowClose_judged (hj : s.ch.judged = true) : runWdgWindowClose s = .next s := if_neg (by simp [hj])

theorem wdgOn_iff : s.wdgOn = true ↔ s.ch.wdg = true ∧ s.chapState = 2 ∧ s.pw.sleep = 0 := by simp [State.wdgOn, and_assoc]

section
variable (h : s.wdgOn = false)
include h

theorem wdgPeriodStart_off : runWdgPeriodStart s = .next s := if_neg (by simp [h])
theorem wdgWindowClose_off : runWdgWindowClose s = .next s := if_neg (by simp [h])
theorem wdgAnswer_off (a : Word) (us : Nat) (eb : Bool) : runWdgAnswer a us eb s = .next s := if_neg (by simp [h])

end

section
variable (h : s.wdgOn = true)
include h

theorem wdgPeriodStart_on : runWdgPeriodStart s = .next ({ s with
    ch.lfsr := lfsrNext s.ch.lfsr, ch.period := (s.ch.period + 1) % 256, ch.judged := false }.putN Obj.WDG_CHALLENGE (lfsrNext s.ch.lfsr)) :=
  if_pos h

theorem wdgWindowClose_open (hj : s.ch.judged = false) : runWdgWindowClose s = .next (s.wdgError 1) := if_pos (by simp [h, hj])

variable (a : Word) (us : Nat) (eb : Bool)

/-- An answer takes the EB release and is then judged by what the watchdog held before it. -/
theorem wdgAnswer_on {t : State} (ht : t = s.ebAsk eb) : runWdgAnswer a us eb s = if s.ch.judged then .next t
    else if 100 * us < s.nat Obj.WDG_OPEN * s.nat Obj.WDG_PERIOD then .next (t.wdgError 2)
    else if s.nat Obj.WDG_CLOSE * s.nat Obj.WDG_PERIOD < 100 * us then .next t
    else if a.toNat = wdgAnswer (s.nat Obj.WDG_CHALLENGE) s.laneNo s.ch.period then
      .next ({ t with ch.judged := true }.putN Obj.WDG_ERRORS (max 0 (s.n Obj.WDG_ERRORS - 1)))
    else .next (t.wdgError 3) := by
  subst ht
  have hlane : (s.ebAsk eb).laneNo = s.laneNo := by unfold State.laneNo; rw [ebAsk_nat s eb (by decide)]
  rw [runWdgAnswer, if_pos h]
  simp only [ebAsk_ch, hlane, ebAsk_nat s eb (by decide : Obj.WDG_OPEN ≠ _), ebAsk_nat s eb (by decide : Obj.WDG_PERIOD ≠ _),
    ebAsk_nat s eb (by decide : Obj.WDG_CLOSE ≠ _), ebAsk_nat s eb (by decide : Obj.WDG_CHALLENGE ≠ _),
    ebAsk_n s eb (by decide : Obj.WDG_ERRORS ≠ _)]

end

variable (qual : Nat) {t : State} (ht : t = { s with ch.judged := true }.putN Obj.WDG_ERRORS (min (s.n Obj.WDG_ERRORS + 2) 255))
include ht

theorem wdgError_eq : s.wdgError qual =
    if s.n Obj.WDG_LIMIT ≤ s.n Obj.WDG_ERRORS + 2 then t.chapFail Kind.CHAP_WDG qual (some (s.n Obj.WDG_CHALLENGE)) else t := by
  have hl : t.n Obj.WDG_LIMIT = s.n Obj.WDG_LIMIT := by rw [ht]; exact n_putN_ne _ _ (by decide)
  have hc : t.n Obj.WDG_CHALLENGE = s.n Obj.WDG_CHALLENGE := by rw [ht]; exact n_putN_ne _ _ (by decide)
  rw [← hl, ← hc, ht]
  rfl

end

/-- Settles O47: off, then on by the period, the judgement and the window; the errors by their limit; the register by its value. -/
theorem watchdogCountsErrors : Obligations.WatchdogCountsErrors := by
  refine fun s => ⟨fun hoff => ?_, fun hw hc hs => ?_, fun qual => ⟨fun h => ?_, fun h => ?_⟩, fun x hx => ⟨?_, lfsrNext_lt x.isLt⟩⟩
  · have h : s.wdgOn = false := by
      rw [← Bool.not_eq_true, wdgOn_iff]
      rintro ⟨hw, hc, hs⟩
      simp [hw, hc, hs] at hoff
    exact ⟨.of_run (exec_wdgPeriodStart ..) (wdgPeriodStart_off h), .of_run (exec_wdgWindowClose ..) (wdgWindowClose_off h),
      fun a us eb => .of_run (exec_wdgAnswer ..) (wdgAnswer_off h a us eb)⟩
  · have h : s.wdgOn = true := wdgOn_iff.2 ⟨hw, hc, hs⟩
    refine ⟨.of_run (exec_wdgPeriodStart ..) (wdgPeriodStart_on h), fun hj => .of_run (exec_wdgWindowClose ..) (wdgWindowClose_judged hj),
      fun hj => .of_run (exec_wdgWindowClose ..) (wdgWindowClose_open h hj), fun a us eb t ht => ⟨fun hj => ?_, fun hj ho => ?_,
      fun hj ho => ⟨fun hcl => ?_, fun hcl => ⟨fun ha => ?_, fun ha => ?_⟩⟩⟩⟩
    all_goals refine .of_run (exec_wdgAnswer ..) ((wdgAnswer_on h a us eb ht).trans ?_)
    · rw [if_pos hj]
    · rw [if_neg (by simp [hj]), if_pos ho]
    · rw [if_neg (by simp [hj]), if_neg (by omega), if_pos hcl]
    · rw [if_neg (by simp [hj]), if_neg (by omega), if_neg (by omega)]
      exact if_pos ha
    · rw [if_neg (by simp [hj]), if_neg (by omega), if_neg (by omega)]
      exact if_neg ha
  · rw [wdgError_eq qual rfl, if_neg (by omega)]
  · rw [wdgError_eq qual rfl, if_pos h]
  · exact lfsrNext_ne_zero fun h => hx (BitVec.eq_of_toNat_eq h)

end Sys2Proof.Laws
end

section
/-!
PROOFS. The bus guardian (R378, R385, R386), the last waltz (R395–R401), and the lease that a silent chaperone keeps (R376).
-/
namespace Sys2Proof.Laws
open Sys2Proof.Machine

/-! ### The spares a reference frame confirms (R385). -/

theorem testBit_foldl_or {β : Type} (g : β → Nat) (l : List β) (m k : Nat) :
    (l.foldl (fun m x => m ||| 2 ^ g x) m).testBit k = (m.testBit k || l.any fun x => decide (g x = k)) := by
  induction l generalizing m with
  | nil => simp
  | cons x l ih => rw [List.foldl_cons, ih, Nat.testBit_or, Nat.testBit_two_pow, List.any_cons, Bool.or_assoc]

theorem testBit_sparesOf (confirms : List Nat) (addr k : Nat) : (sparesOf confirms addr).testBit k = true ↔
    ∃ c, confirms[k]? = some c ∧ c.testBit 15 = true ∧ c % 128 = addr := by
  rw [sparesOf, testBit_foldl_or, Nat.zero_testBit, Bool.false_or, List.any_eq_true]
  simp only [List.mem_filter, Bool.and_eq_true, beq_iff_eq, decide_eq_true_eq]
  constructor
  · rintro ⟨⟨c, i⟩, ⟨hmem, h15, haddr⟩, rfl⟩
    exact ⟨c, List.mem_zipIdx_iff_getElem?.1 hmem, h15, haddr⟩
  · rintro ⟨c, hc, h15, haddr⟩
    exact ⟨(c, k), ⟨List.mem_zipIdx_iff_getElem?.2 hc, h15, haddr⟩, rfl⟩

/-! ### The chaperone's phase (R378). -/

section
variable (s : State) (time : Nat)

theorem chapPhase_get {k : Nat} (h : k ≠ Obj.CHAP_TIME) : (s.chapPhase time).get k = s.get k :=
  (get_putN_ne _ _ h).trans (get_putN_ne _ _ h)

theorem chapPhase_nat {k : Nat} (h : k ≠ Obj.CHAP_TIME) : (s.chapPhase time).nat k = s.nat k := by
  unfold State.nat State.n
  rw [chapPhase_get s time h]

theorem chapPhase_portAddr (p : Nat) : (s.chapPhase time).portAddr p = s.portAddr p := by
  have strap := chapPhase_nat s time (k := Obj.STRAP_WORD) (by decide)
  unfold State.portAddr State.bridgeAddr State.nodeAddr State.unitNo State.funcNo State.laneNo
  rw [strap, chapPhase_nat s time (by decide : Obj.PORT_ROLE 3 ≠ _)]

theorem chapPhase_holds : (s.chapPhase time).bit Obj.CHAP_TIME 0 = true := by
  refine (bit_putBit _ Obj.CHAP_TIME 1 false 0).trans ?_
  rw [if_neg (by decide), bit_putBit, if_pos rfl]

theorem chapPhase_coast : (s.chapPhase time).bit Obj.CHAP_TIME 1 = false :=
  (bit_putBit _ Obj.CHAP_TIME 1 false 1).trans (if_pos rfl)

end

/-! ### References, the coast and blocked transmissions (R385, R386). -/

section
variable (s : State) (chap time : Nat) (confirms : List Nat)

theorem chapReferenceObserved_c : runChapReferenceObserved ⟨2, chap, time, confirms⟩ s = .next s := rfl

theorem chapReferenceObserved_ab {p : Fin 4} (hp : p.val ≤ 1) {t : State} (ht : t = (s.chapClock chap).chapPhase time) :
    runChapReferenceObserved ⟨p, chap, time, confirms⟩ s =
      .next (({ t with ch.spares := vset s.ch.spares p (sparesOf confirms (s.portAddr p)) } : State).putN Obj.GUARD_STATUS
        (s.nat Obj.GUARD_STATUS / 16 * 16 ||| 2 ^ (4 + p.val) ||| 64 : Nat)) := by
  have haddr : t.portAddr p = s.portAddr p := by rw [ht, chapPhase_portAddr]; rfl
  have hguard : t.nat Obj.GUARD_STATUS = s.nat Obj.GUARD_STATUS := by rw [ht, chapPhase_nat _ _ (by decide)]; rfl
  have hspares : t.ch.spares = s.ch.spares := by rw [ht]; rfl
  have hw : (s.chapClock chap).when (decide (p.val ≤ 1)) (·.chapPhase time) = t := by rw [ht]; exact if_pos (by simpa using hp)
  rw [← haddr, ← hguard, ← hspares]
  refine (if_neg (by dsimp only; omega)).trans ?_
  dsimp only
  rw [hw, if_pos hp]
  rfl

theorem chapReferenceObserved_d : runChapReferenceObserved ⟨3, chap, time, confirms⟩ s =
    .next (({ s.chapClock chap with ch.spares := vset s.ch.spares 3 (sparesOf confirms (s.portAddr 3)) } : State).putN Obj.GUARD_STATUS
      (s.nat Obj.GUARD_STATUS % 8 + s.nat Obj.GUARD_STATUS / 16 * 16 ||| 128 : Nat)) := rfl

end

theorem guardRaise_raised (s : State) (p qual w : Nat) (h : s.ch.guardRaised.testBit p = true) : s.guardRaise p qual w = s := if_pos h

theorem guardRaise_first (s : State) (p qual w : Nat) (h : s.ch.guardRaised.testBit p = false) : s.guardRaise p qual w =
    { s with ch.guardRaised := s.ch.guardRaised ||| 2 ^ p }.chapRaise Kind.CHAP_GUARDIAN qual (some (p * 2 ^ 28 + w : Nat)) :=
  if_neg (by simp [h])

/-- Settles O48: a reference by its port, the coast by whether it stands, a block and a cut by whether the port has raised one. -/
theorem guardianKeepsWindows : Obligations.GuardianKeepsWindows := by
  refine ⟨fun chap time confirms s => ?_, fun p chap time confirms s hp => ⟨?_, rfl, chapPhase_holds .., chapPhase_coast .., rfl⟩,
    fun chap time confirms s => ?_, testBit_sparesOf, fun s h => ?_, fun s h => ?_, fun p w s h => ⟨?_, ?_⟩, fun p w s h => ⟨?_, ?_⟩⟩
  · exact .of_run (exec_chapReferenceObserved ..) (chapReferenceObserved_c ..)
  · exact .of_run (exec_chapReferenceObserved ..) (chapReferenceObserved_ab s chap time confirms hp rfl)
  · exact .of_run (exec_chapReferenceObserved ..) (chapReferenceObserved_d ..)
  · exact .of_run (exec_guardCoastExpiry ..) (if_pos (by simp [h]))
  · exact .of_run (exec_guardCoastExpiry ..) (if_neg (by simp [h]))
  · exact .of_run (exec_guardianBlock ..) (congrArg Host.Outcome.next (guardRaise_raised (s.count Obj.GUARD_BLOCKS 32) p 1 w.toNat h))
  · exact .of_run (exec_guardianCut ..) (congrArg Host.Outcome.next (guardRaise_raised (s.count Obj.GUARD_BLOCKS 32) p 2 w.toNat h))
  · exact .of_run (exec_guardianBlock ..) (congrArg Host.Outcome.next (guardRaise_first (s.count Obj.GUARD_BLOCKS 32) p 1 w.toNat h))
  · exact .of_run (exec_guardianCut ..) (congrArg Host.Outcome.next (guardRaise_first (s.count Obj.GUARD_BLOCKS 32) p 2 w.toNat h))

/-! ### The begin of the last waltz (R395, R397). -/

section
variable (s : State)

theorem chapRefuse_armed {b : Nat} (hb : b < 26) : s.chapRefuse.ch.armed.testBit b = false := armDropAll_armed _ hb

/-- The entries of a lane whose last waltz begins. -/
def waltzEntered (s : State) (now : Nat) : State :=
  ((s.takeAbandon.chapRefuse.putN Obj.CHAP_STATE 4).putN Obj.WALTZ_TIME (now % 2 ^ 64 : Nat)).putN Obj.EB_DUTY 100

/-- The state in which the last waltz has begun, before its message. -/
def waltzBegun (s : State) (now : Nat) : State :=
  { waltzEntered s now with
    ch.waltz := { entry := now, step := 1, holdDone := (waltzEntered s now).nat Obj.WALTZ_HOLD == 0 }, ch.time := now * 4 / 25 }

theorem waltzBegun_n (now k : Nat) : (waltzBegun s now).n k = (waltzEntered s now).n k := rfl

theorem waltzBegun_chapState (now : Nat) : (waltzBegun s now).nat Obj.CHAP_STATE = 4 := by
  rw [State.nat, waltzBegun_n, waltzEntered, n_putN_ne _ _ (by decide), n_putN_ne _ _ (by decide), n_putN_self]
  rfl

theorem waltzBegun_ebDuty (now : Nat) : (waltzBegun s now).n Obj.EB_DUTY = 100 := by rw [waltzBegun_n, waltzEntered, n_putN_self]
theorem waltzBegun_request (now : Nat) : (waltzBegun s now).ch.request = 0 := chapRefuse_request _
theorem waltzBegun_armed (now : Nat) {b : Nat} (hb : b < 26) : (waltzBegun s now).ch.armed.testBit b = false := chapRefuse_armed _ hb

end

/-! ### The course of the last waltz. -/

section
variable {s : State}

theorem ebRampPeriod_ramps {now ramp left : Nat} (h4 : s.chapState = 4) (hd : s.ch.waltz.rampDone = false)
    (hr : ramp = s.nat Obj.EB_RAMP * 100000) (hl : left = ramp - (now - s.ch.waltz.entry)) {t : State} (ht : t = { s with ch.time := now * 4 / 25 }) :
    runEbRampPeriod now s =
      .next (t.putN Obj.EB_DUTY (if left = 0 then 0 else if ramp ≤ left then 100 else Config.roundQuot (100 * left : Nat) ramp)) := by
  subst hr hl ht
  exact if_pos (by simp [h4, hd])

theorem waltzRecheck_holds (h4 : s.chapState = 4) (h2 : s.ch.waltz.step = 2) (hl : s.ch.waltz.lower = false) {t : State}
    (ht : t = { s with ch.waltz.step := 0, ch.waltz.holder := true }) :
    runWaltzRecheck s = if s.ch.waltz.holdDone then .next t.waltzFinish else .next (t.each 6 fun x n =>
      if x.bit Obj.CH_STEER_AXES n = true then
        if x.chapSector n = 7 then x.putBit Obj.WALTZ_RESULT (6 + n) true
        else { x with ch.waltz.sectors := vset x.ch.waltz.sectors n (x.chapSector n) }.waltzAxis n
      else x) := by
  subst ht
  exact (if_pos ⟨h4, h2⟩).trans (if_neg (by simp [hl]))

theorem waltzToffEnd_eq (n : Fin 6) : runWaltzToffEnd n s = .next { s with
    ch.waltz.toff := if s.ch.waltz.toff.testBit n then s.ch.waltz.toff - 2 ^ n.val else s.ch.waltz.toff } := rfl

end

/-- Settles O49: each command's run, under the condition that lets it do something and under its negation. -/
theorem lastWaltzRuns : Obligations.LastWaltzRuns := by
  refine ⟨fun _ => rfl, fun s => ⟨fun now => ⟨fun hc hlead hp he => ?_, fun h => ?_, fun h => ?_, fun h4 hd ramp left hr hl t ht =>
    ⟨fun h0 => ?_, fun h0 hle => ?_, fun h0 hlt => ?_⟩⟩, fun h => ?_, fun h4 h1 => ⟨fun hp => ?_, fun hp => ?_⟩, fun h => ?_,
    fun h4 h2 => ⟨fun hl => ?_, fun hl => ⟨fun hd => ?_, fun hd => ?_⟩⟩, fun h => ⟨?_, ?_⟩, fun h => ⟨?_, ?_⟩,
    fun n => ⟨fun h => ?_, fun h => ?_⟩⟩⟩
  · exact ⟨.of_run (exec_waltzWaitExpiry ..) (if_pos ⟨hc, by simp [hlead], hp, he⟩), waltzBegun_chapState s now, waltzBegun_ebDuty s now,
      waltzBegun_request s now, fun b hb => waltzBegun_armed s now hb⟩
  · refine .of_run (exec_waltzWaitExpiry ..) (if_neg ?_)
    rintro ⟨hc, hlead, hp, he⟩
    rcases h with ⟨h2, h3⟩ | h | h | h
    · exact hc.elim h2 h3
    · simp [h] at hlead
    · simp [h] at hp
    · simp [h] at he
  · refine .of_run (exec_ebRampPeriod ..) (if_neg ?_)
    rcases h with h | h <;> simp [h]
  · exact .of_run (exec_ebRampPeriod ..) ((ebRampPeriod_ramps h4 hd hr hl ht).trans (by rw [if_pos h0]))
  · exact .of_run (exec_ebRampPeriod ..) ((ebRampPeriod_ramps h4 hd hr hl ht).trans (by rw [if_neg h0, if_pos hle]))
  · exact .of_run (exec_ebRampPeriod ..) ((ebRampPeriod_ramps h4 hd hr hl ht).trans (by rw [if_neg h0, if_neg (by omega)]))
  · exact .of_run (exec_waltzRankDelay ..) (if_neg (by omega))
  · exact .of_run (exec_waltzRankDelay ..) ((if_pos ⟨h4, h1⟩).trans (congrArg _ (if_pos hp)))
  · exact .of_run (exec_waltzRankDelay ..) ((if_pos ⟨h4, h1⟩).trans (congrArg _ (if_neg (by simp [hp]))))
  · exact .of_run (exec_waltzRecheck ..) (if_neg (by omega))
  · exact .of_run (exec_waltzRecheck ..) ((if_pos ⟨h4, h2⟩).trans (if_pos hl))
  · exact .of_run (exec_waltzRecheck ..) ((waltzRecheck_holds h4 h2 hl rfl).trans (if_pos hd))
  · exact .of_run (exec_waltzRecheck ..) ((waltzRecheck_holds h4 h2 hl rfl).trans (if_neg (by simp [hd])))
  · exact .of_run (exec_waltzHoldEnd ..) (if_neg h)
  · exact .of_run (exec_ebRampEnd ..) (if_neg h)
  · exact .of_run (exec_waltzHoldEnd ..) (if_pos h)
  · exact .of_run (exec_ebRampEnd ..) (if_pos h)
  · exact .of_run (exec_waltzToffEnd ..) (waltzToffEnd_eq n |>.trans (by rw [if_pos h]))
  · exact .of_run (exec_waltzToffEnd ..) (waltzToffEnd_eq n |>.trans (by rw [if_neg (by simp [h])]))

/-! ### A silent chaperone keeps its lease (R361, R376). -/

section
variable (s : State) (kind qual : Nat) (d : Option Int)

theorem chapRaise_ch : (s.chapRaise kind qual d).ch = s.ch := by
  unfold State.chapRaise
  split
  · exact (when_keeps (g := State.ch) rfl _).trans (congrArg State.ch (nextMsg_told ..).same :)
  · exact (raise_aside ..).ch

theorem chapSilence_lease : (s.chapSilence kind qual).ch.lease = s.ch.lease := by
  unfold State.chapSilence
  split
  · exact (leadRelease_withdrawn _).lease.trans (armDropAll_withdrawn _).lease
  · rfl

theorem chapFail_lease : (s.chapFail kind qual d).ch.lease = s.ch.lease :=
  (chapSilence_lease ..).trans (by rw [chapRaise_ch])

end

/-- A lane in PRECHECK whose chaperone enforces a lease. -/
def leasedLane : State := { State.reset with ch.lease := some 0 }.putN Obj.CHAP_STATE 1

/-- Refutes O46: a CRITICAL fault of the chaperone's own silences it, but the lease of a chaperone in PRECHECK runs on to its expiry. -/
theorem not_chaperoneJudges : ¬ Obligations.ChaperoneJudges := by
  intro h
  obtain ⟨-, -, -, -, -, -, -, -, -, critical⟩ := h leasedLane
  obtain ⟨-, -, -, hlease, -⟩ := critical 0 0 none (.inl (nat_putN_self ..))
  rw [chapFail_lease] at hlease
  exact absurd hlease (by decide)

end Sys2Proof.Laws
end

section
/-!
PROOFS. Dance cards by their times (R361–R363) and the interlock line test (R364, R365).
-/
namespace Sys2Proof.Laws
open Sys2Proof.Machine

/-! ### What leaves a card as it is. -/

/-- The entries that say whose card is current. -/
def cardKeys : List Nat := [Obj.LEAD_MODE, Obj.CARD_HOLDER, Obj.CARD_NUMBER]

/-- The card, its lease and the entries that name it stand. -/
structure CardKept (s t : State) : Prop where
  card : t.ld.card = s.ld.card
  lease : t.ch.lease = s.ch.lease
  get : ∀ k ∈ cardKeys, t.get k = s.get k

theorem CardKept.refl (s : State) : CardKept s s := ⟨rfl, rfl, fun _ _ => rfl⟩
theorem CardKept.trans {s t u : State} (h : CardKept s t) (h' : CardKept t u) : CardKept s u :=
  ⟨h'.card.trans h.card, h'.lease.trans h.lease, fun k hk => (h'.get k hk).trans (h.get k hk)⟩

theorem CardKept.n {s t : State} (h : CardKept s t) {k : Nat} (hk : k ∈ cardKeys) : t.n k = s.n k := by
  unfold State.n
  rw [h.get k hk]
theorem CardKept.nat {s t : State} (h : CardKept s t) {k : Nat} (hk : k ∈ cardKeys) : t.nat k = s.nat k := by
  unfold State.nat
  rw [h.n hk]

section
variable (s : State)

theorem putN_cardKept {k : Nat} (v : Int) (hk : k ∉ cardKeys) : CardKept s (s.putN k v) :=
  ⟨rfl, rfl, fun _ hj => get_putN_ne s v (ne_of_mem_of_not_mem hj hk)⟩

theorem raise_cardKept (src kind qual : Nat) (d : Option Int) : CardKept s (s.raise src kind qual d) := by
  have told := raise_told s src kind qual d
  exact ⟨(congrArg (fun x => x.ld.card) told.same :), (congrArg (fun x => x.ch.lease) told.same :),
    fun k hk => told.get k (ne_of_mem_of_not_mem hk (by decide))⟩

theorem when_cardKept {s : State} {f : State → State} (h : CardKept s (f s)) (c : Bool) : CardKept s (s.when c f) := by
  cases c
  · exact .refl s
  · exact h

theorem stepReached_cardKept (n : Nat) : CardKept s (s.stepReached n) := by
  unfold State.stepReached
  split
  · exact putN_cardKept s _ (by decide)
  · exact .refl s

theorem sendCard_cardKept (type holder expiry : Nat) : CardKept s (s.sendCard type holder expiry) := ⟨rfl, rfl, fun _ _ => rfl⟩

theorem takeBegin_cardKept : CardKept s s.takeBegin := by
  unfold State.takeBegin
  split <;> exact ⟨rfl, rfl, fun _ _ => rfl⟩

theorem lineStray_cardKept (p : Nat) : CardKept s (s.lineStray p) :=
  .trans (t := { s with ld.stray := vset s.ld.stray p true, ld.lineFailed := true }) ⟨rfl, rfl, fun _ _ => rfl⟩ (raise_cardKept ..)

theorem each_cardKept {f : State → Nat → State} (h : ∀ s i, CardKept s (f s i)) (n : Nat) : CardKept s (s.each n f) :=
  ⟨each_keeps (g := fun x => x.ld.card) (fun s i => (h s i).card) n s, each_keeps (g := fun x => x.ch.lease) (fun s i => (h s i).lease) n s,
    fun k hk => each_keeps (g := fun x => x.get k) (fun s i => (h s i).get k hk) n s⟩

theorem testBegin_cardKept (issued : Nat) : CardKept s (s.testBegin issued) := by
  unfold State.testBegin
  dsimp only
  refine .trans ?_ (each_cardKept _ (fun u p => when_cardKept (lineStray_cardKept u p) _) 2)
  exact ⟨rfl, rfl, fun k hk => get_putN_ne s _ (ne_of_mem_of_not_mem hk (by decide))⟩

/-! ### The issue of a card (R361, R363). -/

theorem takeAbandon_get {k : Nat} (hk : k ∉ downKeys) : s.takeAbandon.get k = s.get k := by
  unfold State.takeAbandon
  cases s.ch.take == .check
  · rfl
  · exact (leadDown_takenDown { s with ch.take := .idle }).get k hk

theorem cardMode_get {k : Nat} (hk : k ∉ downKeys) (h : k ≠ Obj.LEAD_MODE) : s.cardMode.get k = s.get k := by
  have put : s.cardMode.get k = (s.when (s.nat Obj.LEAD_MODE == 0) (·.takeAbandon)).get k :=
    get_putN_ne (s.when (s.nat Obj.LEAD_MODE == 0) (·.takeAbandon)) 1 h
  rw [put]
  cases s.nat Obj.LEAD_MODE == 0
  · rfl
  · exact takeAbandon_get s hk

variable (reason now : Nat)

/-- The number of the next card. -/
def nextNumber : Nat := if s.ld.card.any then (s.nat Obj.CARD_NUMBER + 1) % 2 ^ 32 else 1
/-- The expiry of a card issued now. -/
def nextExpiry : Nat := now + inMs (s.nat Obj.CARD_LEASE)

/-- The entries of this lane's next card. -/
def cardEntered : State :=
  ((s.cardMode.putN Obj.CARD_NUMBER (nextNumber s)).putN Obj.CARD_HOLDER s.laneNo).putN Obj.CARD_EXPIRY (nextExpiry s now)

/-- This lane's next card, before the lane sends it. -/
def cardNamed : State :=
  let t := cardEntered s now
  { t with
    ld.card := { any := true, issuer := t.laneNo, reason := reason }, ld.recover := t.ld.recover && decide (2 < reason)
    ld.inGap := t.ld.inGap && decide (2 < reason), ch.lease := some (nextExpiry s now) }

/-- The chaperone is to take lead by the card. -/
def takeCalled : State := { s with ch.cardTake := true, ch.take := .idle }.takeBegin

theorem takeCalled_cardKept : CardKept s (takeCalled s) := by
  refine .trans ?_ (takeBegin_cardKept _)
  exact ⟨rfl, rfl, fun _ _ => rfl⟩

/-- A card issued: sent, and taken by the chaperone where the lane does not lead yet. -/
def cardIssued : State :=
  let t := ((cardNamed s reason now).sendCard 1 (cardNamed s reason now).laneNo (nextExpiry s now)).stepReached 10
  (t.when (!t.ld.leading) takeCalled).when (reason ≤ 2) (·.testBegin now)

theorem issueCard_eq : s.issueCard reason now =
    if !s.clk.joined ∨ (s.ld.card.any ∧ now < s.nat Obj.CARD_EXPIRY + inMs 2) then none else some (cardIssued s reason now) := rfl

theorem cardIssued_kept : CardKept (cardNamed s reason now) (cardIssued s reason now) := by
  unfold cardIssued
  dsimp only
  exact .trans (.trans ((sendCard_cardKept ..).trans (stepReached_cardKept ..)) (when_cardKept (takeCalled_cardKept _) _))
    (when_cardKept (testBegin_cardKept ..) _)

theorem cardNamed_n (k : Nat) : (cardNamed s reason now).n k = (cardEntered s now).n k := rfl

theorem cardEntered_laneNo : (cardEntered s now).laneNo = s.laneNo := by
  unfold State.laneNo State.nat State.n cardEntered
  rw [get_putN_ne _ _ (by decide), get_putN_ne _ _ (by decide), get_putN_ne _ _ (by decide), cardMode_get s (by decide) (by decide)]

theorem cardEntered_leadMode : (cardEntered s now).nat Obj.LEAD_MODE = 1 := by
  rw [cardEntered, nat_putN_ne _ _ (by decide), nat_putN_ne _ _ (by decide), nat_putN_ne _ _ (by decide), cardMode_leadMode]

theorem cardEntered_holder : (cardEntered s now).n Obj.CARD_HOLDER = s.laneNo := by
  rw [cardEntered, n_putN_ne _ _ (by decide), n_putN_self]

theorem cardEntered_number : (cardEntered s now).n Obj.CARD_NUMBER = nextNumber s := by
  rw [cardEntered, n_putN_ne _ _ (by decide), n_putN_ne _ _ (by decide), n_putN_self]

/-! ### The end of card mode (R361). -/

theorem Withdrawn.of_told {s t : State} (h : Told s t) : Withdrawn s t := h.aside.withdrawn

theorem ebAsk_withdrawn (on : Bool) : Withdrawn s (s.ebAsk on) := by
  have h := (ebUpdate_touches (fun _ => True) { s with ch.ebRequest := on }).rest
  exact ⟨(congrArg State.clk h :), (congrArg State.pw h :), (congrArg State.ld h :), by rw [ebAsk_ch], by rw [ebAsk_ch], by rw [ebAsk_ch]⟩

/-- The lane's leadership and lease, and the entries that name its card, stand. -/
structure LeadKept (s t : State) : Prop where
  ld : t.ld = s.ld
  lease : t.ch.lease = s.ch.lease
  get : ∀ k ∈ cardKeys, t.get k = s.get k

theorem LeadKept.refl (s : State) : LeadKept s s := ⟨rfl, rfl, fun _ _ => rfl⟩
theorem LeadKept.trans {s t u : State} (h : LeadKept s t) (h' : LeadKept t u) : LeadKept s u :=
  ⟨h'.ld.trans h.ld, h'.lease.trans h.lease, fun k hk => (h'.get k hk).trans (h.get k hk)⟩

theorem Withdrawn.leadKept {s t : State} (h : Withdrawn s t) (hg : ∀ k ∈ cardKeys, t.get k = s.get k) : LeadKept s t := ⟨h.ld, h.lease, hg⟩

theorem cardKeys_stand : ∀ k ∈ cardKeys, k ∉ downKeys := by decide

theorem armJudge_takenDown : TakenDown s s.armJudge := by
  refine foldl_takenDown _ (fun u b _ => ?_) s
  split
  · exact armDrop_takenDown u b
  · exact .refl u

theorem armJudge_leadKept : LeadKept s s.armJudge :=
  (armJudge_withdrawn s).leadKept fun k hk => (armJudge_takenDown s).get k (cardKeys_stand k hk)

theorem stepReached_leadKept (n : Nat) : LeadKept s (s.stepReached n) :=
  ⟨by unfold State.stepReached; split <;> rfl, (stepReached_cardKept s n).lease, (stepReached_cardKept s n).get⟩

theorem ebAsk_leadKept (on : Bool) : LeadKept s (s.ebAsk on) :=
  (ebAsk_withdrawn s on).leadKept fun k hk => ebAsk_get s on (ne_of_mem_of_not_mem hk (by decide))

theorem takeBegin_leadKept : LeadKept s s.takeBegin :=
  ⟨by unfold State.takeBegin; split <;> rfl, (takeBegin_cardKept s).lease, (takeBegin_cardKept s).get⟩

theorem permit_leadKept (rank : Option Nat) : LeadKept s (s.permit rank) := by
  have abandoned : LeadKept s s.takeAbandon := (takeAbandon_withdrawn s).leadKept fun k hk => takeAbandon_get s (cardKeys_stand k hk)
  unfold State.permit
  split
  · refine .trans ?_ (takeBegin_leadKept _)
    exact ⟨rfl, rfl, fun _ _ => rfl⟩
  · split
    · exact abandoned.trans ⟨rfl, rfl, fun _ _ => rfl⟩
    · exact ⟨rfl, rfl, fun _ _ => rfl⟩

theorem logRoom_get {k : Nat} (h : k ≠ Obj.FAULT_DROPS) : s.logRoom.get k = s.get k := by
  unfold State.logRoom
  split
  · rfl
  · split
    · exact get_putN_ne _ _ h
    · rfl

theorem logAdd_leadKept (type : Nat) (escalated : Bool) (m : FaultMsg) : LeadKept s (s.logAdd type escalated m) :=
  (logAdd_aside s type escalated m []).withdrawn.leadKept fun k hk =>
    (get_putN_ne s.logRoom _ (ne_of_mem_of_not_mem hk (by decide))).trans (logRoom_get s (ne_of_mem_of_not_mem hk (by decide)))

/-- Card mode has ended: what the hand-over enters before it settles arm signals, EB_OUT and permission. -/
structure HandedOver (t : State) : Prop where
  mode : t.nat Obj.LEAD_MODE = 0
  holder : t.nat Obj.CARD_HOLDER = 0
  lease : t.ch.lease = none
  released : t.ld.card.released = false
  testing : t.ld.testing = false
  settled : t.ld.settled = true

theorem LeadKept.nat {s t : State} (h : LeadKept s t) {k : Nat} (hk : k ∈ cardKeys) : t.nat k = s.nat k := by
  unfold State.nat State.n
  rw [h.get k hk]

theorem HandedOver.kept {s t : State} (h : HandedOver s) (k : LeadKept s t) : HandedOver t :=
  ⟨(k.nat (by decide)).trans h.mode, (k.nat (by decide)).trans h.holder, k.lease.trans h.lease, by rw [k.ld, h.released], by rw [k.ld, h.testing],
    by rw [k.ld, h.settled]⟩

/-- The hand-over's own entries. -/
def handedOver : State :=
  let rejoin := s.ld.card.reason = 0 ∨ s.ld.card.reason = 2 ∨ (s.ld.card.reason = 1 ∧ s.ld.included)
  let t := ((s.putN Obj.LEAD_MODE 0).putN Obj.CARD_HOLDER 0).cardMod fun c => { c with released := false, named := false }
  { t with ch.lease := none, ld.testing := false, ld.settled := true, ld.gaveUp := t.ld.gaveUp && !rejoin, ld.included := t.ld.included && !rejoin }

theorem handedOver_handedOver : HandedOver (handedOver s) := by
  refine ⟨?_, ?_, rfl, rfl, rfl, rfl⟩
  · exact (nat_putN_ne (s.putN Obj.LEAD_MODE 0) 0 (by decide : Obj.LEAD_MODE ≠ Obj.CARD_HOLDER)).trans (nat_putN_self ..)
  · exact nat_putN_self (s.putN Obj.LEAD_MODE 0) Obj.CARD_HOLDER 0

/-- A lane that follows or leads asks for EB_OUT's release. -/
def ebHandover : State := s.when (!s.ld.standing && (s.role == 1 || s.role == 2)) (·.ebAsk true)

theorem cardHandover_eq (hm : s.nat Obj.LEAD_MODE = 1) (hr : s.ld.card.released = true) : s.cardHandover =
    let u := ebHandover ((handedOver s).stepReached 12).armJudge
    if u.ld.leading then u else u.permit (if u.mayCutIn then some (if u.ld.rank = 0 then u.laneNo else u.ld.rank) else none) :=
  if_pos ⟨hm, hr⟩

theorem when_leadKept {s : State} {f : State → State} (h : LeadKept s (f s)) (c : Bool) : LeadKept s (s.when c f) := by
  cases c
  · exact .refl s
  · exact h

theorem cardHandover_handedOver (hm : s.nat Obj.LEAD_MODE = 1) (hr : s.ld.card.released = true) : HandedOver s.cardHandover := by
  have settled : LeadKept (handedOver s) ((handedOver s).stepReached 12).armJudge := (stepReached_leadKept ..).trans (armJudge_leadKept _)
  refine (handedOver_handedOver s).kept (settled.trans ?_)
  rw [cardHandover_eq s hm hr]
  generalize ((handedOver s).stepReached 12).armJudge = t
  have asked : LeadKept t (ebHandover t) := when_leadKept (ebAsk_leadKept t true) _
  refine asked.trans ?_
  dsimp only
  split
  · exact .refl _
  · exact permit_leadKept ..

/-- The state in which the hand-over has completed a start. -/
def startCompleted : State :=
  let t := s.putN Obj.START_DURATION ((((s.clk.now : Int) - s.st.began).toNat / 100) % 2 ^ 32 : Nat)
  let u := (t.logAdd 4 false (logMsg Src.keeper 0 (t.nat Obj.FULL_START_REASON))).when t.st.wakeStart (·.count Obj.TRANSITIONS 32)
  { u with st.wakeStart := false }

theorem startCompleted_leadKept : LeadKept s (startCompleted s) := by
  have put (t : State) {k : Nat} (v : Int) (hk : k ∉ cardKeys) : LeadKept t (t.putN k v) := ⟨rfl, rfl, (putN_cardKept t v hk).get⟩
  have counted (t : State) : LeadKept t (t.when s.st.wakeStart (·.count Obj.TRANSITIONS 32)) := when_leadKept (put t _ (by decide)) _
  exact ((put s _ (by decide : Obj.START_DURATION ∉ cardKeys)).trans ((logAdd_leadKept _ 4 false _).trans (counted _))).trans
    (u := startCompleted s) ⟨rfl, rfl, fun _ _ => rfl⟩

theorem cardHandoverEdge_eq : runCardHandoverEdge s =
    if s.nat Obj.START_STEP < 12 ∧ s.cardHandover.nat Obj.START_STEP = 12 then .next (startCompleted s.cardHandover) else .next s.cardHandover := rfl

theorem cardHandoverEdge_handedOver (hm : s.nat Obj.LEAD_MODE = 1) (hr : s.ld.card.released = true) :
    ∃ u, runCardHandoverEdge s = .next u ∧ HandedOver u := by
  have h := cardHandover_handedOver s hm hr
  rw [cardHandoverEdge_eq]
  split
  · exact ⟨_, rfl, h.kept (startCompleted_leadKept _)⟩
  · exact ⟨_, rfl, h⟩

end

/-! ### Renewal, expiry, succession and hand-over (R361–R363). -/

section
variable {s : State} (now : Nat)

theorem cardRenewTimer_renews (hc : s.holdsCard = true) (hl : s.ch.lease.isSome = true) (hr : s.ld.card.resigned = false) (hrole : s.role ≤ 2) :
    runCardRenewTimer now s = .next { (s.putN Obj.CARD_EXPIRY (now + 100000 * s.nat Obj.CARD_LEASE : Nat)).sendCard 2 s.laneNo
      (now + 100000 * s.nat Obj.CARD_LEASE) with ch.lease := some (now + 100000 * s.nat Obj.CARD_LEASE) } := by
  rw [Nat.mul_comm 100000]
  exact if_pos ⟨hc, hl, by simp [hr], by omega⟩

theorem cardRenewTimer_idle (h : s.holdsCard = false ∨ s.ch.lease = none ∨ s.ld.card.resigned = true ∨ 2 < s.role) :
    runCardRenewTimer now s = .next s := by
  refine if_neg ?_
  rintro ⟨hc, hl, hr, hrole⟩
  rcases h with h | h | h | h
  · simp [h] at hc
  · simp [h] at hl
  · simp [h] at hr
  · omega

section
variable {r : Nat} (hr : r = if s.ld.card.named = true then 1 else if s.ld.rank = 0 then s.laneNo else s.ld.rank)
include hr

theorem cardSuccessionIssue_eq : runCardSuccessionIssue now s =
    if s.nat Obj.LEAD_MODE = 1 ∧ (!s.holdsCard) = true ∧ s.eligible = true ∧ (!s.ld.gaveUp) = true ∧
        s.nat Obj.CARD_EXPIRY + inMs 2 + inMs (r - 1) ≤ now then
      .next ((s.issueCard 3 now).getD s)
    else .next s := by
  subst hr
  rfl

theorem cardSuccessionIssue_issues (hm : s.nat Obj.LEAD_MODE = 1) (hc : s.holdsCard = false) (he : s.eligible = true) (hg : s.ld.gaveUp = false)
    (ht : s.nat Obj.CARD_EXPIRY + 200000 + 100000 * (r - 1) ≤ now) : runCardSuccessionIssue now s = .next ((s.issueCard 3 now).getD s) := by
  rw [cardSuccessionIssue_eq now hr, if_pos]
  exact ⟨hm, by simp [hc], he, by simp [hg], by unfold inMs; omega⟩

theorem cardSuccessionIssue_idle (h : s.nat Obj.LEAD_MODE ≠ 1 ∨ s.holdsCard = true ∨ s.eligible = false ∨ s.ld.gaveUp = true ∨
    now < s.nat Obj.CARD_EXPIRY + 200000 + 100000 * (r - 1)) : runCardSuccessionIssue now s = .next s := by
  rw [cardSuccessionIssue_eq now hr, if_neg]
  rintro ⟨hm, hc, he, hg, ht⟩
  rcases h with h | h | h | h | h
  · exact h hm
  · simp [h] at hc
  · simp [h] at he
  · simp [h] at hg
  · unfold inMs at ht
    omega

end

theorem issueCard_some {reason : Nat} {t : State} (h : s.issueCard reason now = some t) :
    s.clk.joined = true ∧ (s.ld.card.any = true → s.nat Obj.CARD_EXPIRY + 200000 ≤ now) ∧ t = cardIssued s reason now := by
  rw [issueCard_eq] at h
  split at h
  · cases h
  · next hn =>
    cases h
    refine ⟨by_contra fun hj => hn (.inl (by simpa using hj)), fun hany => not_lt.1 fun hlt => hn (.inr ⟨hany, hlt⟩), rfl⟩

theorem cardLeaseExpiry_idle (h : s.nat Obj.LEAD_MODE ≠ 1 ∨ s.ch.lease = none) : runCardLeaseExpiry s = .next s := by
  refine if_neg ?_
  rintro ⟨hm, hl⟩
  rcases h with h | h
  · exact h hm
  · simp [h] at hl

theorem cardHandoverEdge_idle (h : s.nat Obj.LEAD_MODE ≠ 1 ∨ s.ld.card.released = false) : runCardHandoverEdge s = .next s := by
  have stays : s.cardHandover = s := by
    refine if_neg ?_
    rintro ⟨hm, hr⟩
    rcases h with h | h
    · exact h hm
    · simp [h] at hr
  rw [cardHandoverEdge_eq, stays, if_neg (by omega)]

end

/-- Settles O43: each command's run, under the condition that lets it do something and under its negation; a card issued by its entries. -/
theorem cardsFollowTheirTimes : Obligations.CardsFollowTheirTimes := by
  refine fun s => ⟨fun now => ⟨fun hc hl hr hrole => ?_, fun h => ?_, fun r hr => ⟨fun hm hc he hg ht => ⟨fun t hi => ?_, fun hi => ?_⟩, fun h => ?_⟩,
    fun t reason h => ?_⟩, fun hm hl => ?_, fun h => ?_, fun h => ?_, fun hm hr => ?_⟩
  · exact .of_run (exec_cardRenewTimer ..) (cardRenewTimer_renews now hc hl hr hrole)
  · exact .of_run (exec_cardRenewTimer ..) (cardRenewTimer_idle now h)
  · exact .of_run (exec_cardSuccessionIssue ..) ((cardSuccessionIssue_issues now hr hm hc he hg ht).trans (by rw [hi]; rfl))
  · exact .of_run (exec_cardSuccessionIssue ..) ((cardSuccessionIssue_issues now hr hm hc he hg ht).trans (by rw [hi]; rfl))
  · exact .of_run (exec_cardSuccessionIssue ..) (cardSuccessionIssue_idle now hr h)
  · obtain ⟨hj, hguard, rfl⟩ := issueCard_some now h
    have kept := cardIssued_kept s reason now
    refine ⟨hj, hguard, by rw [kept.card]; rfl, ?_, by rw [kept.card]; rfl, ?_, ?_, ?_, ?_⟩
    · rw [kept.card]
      exact cardEntered_laneNo s now
    · rw [kept.lease, Nat.mul_comm 100000]
      rfl
    · rw [kept.nat (by decide)]
      exact cardEntered_leadMode s now
    · rw [kept.nat (by decide), State.nat, cardNamed_n, cardEntered_holder, Int.toNat_natCast]
    · rw [kept.n (by decide), cardNamed_n, cardEntered_number, nextNumber]
  · exact .of_run (exec_cardLeaseExpiry ..) (if_pos ⟨hm, hl⟩)
  · exact .of_run (exec_cardLeaseExpiry ..) (cardLeaseExpiry_idle h)
  · exact .of_run (exec_cardHandoverEdge ..) (cardHandoverEdge_idle h)
  · obtain ⟨u, hu, handed⟩ := cardHandoverEdge_handedOver s hm hr
    exact ⟨u, .of_run (exec_cardHandoverEdge ..) hu, handed.mode, handed.holder, handed.lease, handed.released, handed.testing, handed.settled⟩

/-! ### The interlock line test (R364, R365). -/

section
variable {s : State}

theorem lineTestPulse_idle {k : Fin 4} (seen : Bool) (h : s.ld.testing = false ∨ k.val = 0) : runLineTestPulse k seen s = .next s :=
  if_pos (h.imp (by simp [·]) id)

section
variable (ht : s.ld.testing = true) {k : Fin 4} (seen : Bool) (h0 : k.val ≠ 0)
include ht h0

theorem lineTestPulse_own (hk : k.val = s.laneNo) :
    runLineTestPulse k seen s = .next (s.when (s.chapState == 2) (·.emit (.leadPulse (!s.holdsCard)))) :=
  (if_neg (by simp [ht, h0])).trans (if_pos hk)

theorem lineTestPulse_partner (hk : k.val ≠ s.laneNo) : runLineTestPulse k seen s = .next (s.each 2 fun x p =>
    if x.peerLane p = k.val then { x with ld.pulseSeen := vset x.ld.pulseSeen p seen } else x) := by
  refine ((if_neg (by simp [ht, h0])).trans (if_neg hk)).trans (congrArg (fun f => Host.Outcome.next (s.each 2 f)) ?_)
  funext x p
  simp [State.when]

end

/-- The state whose test has been evaluated, before what the lane then does as holder: the evaluation of R365 for what was seen. -/
def lineJudged (s : State) (failed unseen : Bool) (ps missed : List Nat) : State :=
  let a : State := { s.putN Obj.LINE_TEST_RESULT (16 + 8 * b2n (!vget s.ld.stray 1) + 4 * b2n (vget s.ld.pulseSeen 1) +
    2 * b2n (vget s.ld.pulseSeen 0) + b2n (decide (∀ p ∈ ps, s.sawUs p = true)) : Nat) with ld.testing := false, ld.lineFailed := failed }
  let b : State := if unseen = true then a.raise Src.lane Kind.INTERLOCK_TEST_FAIL 1 (some (a.laneNo : Int)) else a
  let c : State := missed.foldl (fun x p => x.raise Src.lane Kind.INTERLOCK_TEST_FAIL (2 + p) (some (x.peerLane p : Int))) b
  if failed = true then (c.stepReached 11).permit none else c.stepReached 11

/-- An evaluation judges by the partners present, those missed and those that saw this lane. -/
theorem lineTestEvaluate_eq (now : Nat) (ht : s.ld.testing = true) {failed unseen : Bool} {ps missed : List Nat}
    (hps : ps = [0, 1].filter fun p => s.peerPresent p) (hmissed : missed = ps.filter fun p => !vget s.ld.pulseSeen p)
    (hunseen : unseen = true ↔ ps ≠ [] ∧ ∀ p ∈ ps, s.sawUs p = false)
    (hfailed : failed = true ↔ unseen = true ∨ vget s.ld.stray 0 = true ∨ vget s.ld.stray 1 = true ∨ missed ≠ [])
    {d : State} (hd : d = lineJudged s failed unseen ps missed) : runLineTestEvaluate now s =
      if (!d.holdsCard) = true then .next d
      else if failed = true ∧ (!(d.followers false fun w => 1 ≤ wordScore w).isEmpty) = true then .next (d.giveUp 2 0 0 true)
      else .next (d.releaseCard now) := by
  have eunseen : unseen = (!ps.isEmpty && (ps.filter fun p => s.sawUs p).isEmpty) := by
    rw [Bool.eq_iff_iff, hunseen]
    simp
  have efailed : failed = (unseen || (vget s.ld.stray 0 || vget s.ld.stray 1) || !missed.isEmpty) := by
    rw [Bool.eq_iff_iff, hfailed]
    simp [or_assoc]
  have esaw : decide (∀ p ∈ ps, s.sawUs p = true) = ((ps.filter fun p => s.sawUs p).length == ps.length) := by
    rw [Bool.eq_iff_iff]
    simp [List.length_filter_eq_length_iff]
  have eresult : (16 + 8 * b2n (!vget s.ld.stray 1) + 4 * b2n (vget s.ld.pulseSeen 1) + 2 * b2n (vget s.ld.pulseSeen 0) +
      b2n (decide (∀ p ∈ ps, s.sawUs p = true)) : Nat) = 16 + b2n (!vget s.ld.stray 1) <<< 3 + b2n (vget s.ld.pulseSeen 1) <<< 2 +
      b2n (vget s.ld.pulseSeen 0) <<< 1 + b2n ((ps.filter fun p => s.sawUs p).length == ps.length) := by
    rw [esaw]
    simp only [Nat.shiftLeft_eq]
    ring
  rw [hd, lineJudged, eresult]
  rw [efailed, eunseen, hmissed, hps]
  exact if_neg (by simp [ht])

theorem lineTest_issues {now : Nat} {t : State} (hl : s.ld.leading = true) (hm : s.nat Obj.LEAD_MODE = 0) (ht : s.issueCard 1 now = some t) :
    runLineTestPeriodExpiry now s = .next t := by
  rw [runLineTestPeriodExpiry, State.lineTest, if_pos ⟨hl, hm⟩, ht]
  rfl

theorem lineTest_idle {now : Nat} (h : s.ld.leading = false ∨ s.nat Obj.LEAD_MODE ≠ 0 ∨ s.issueCard 1 now = none) :
    runLineTestPeriodExpiry now s = .next s := by
  rw [runLineTestPeriodExpiry, State.lineTest]
  split
  · next hl => rw [(h.resolve_left (by simp [hl.1])).resolve_left (by simp [hl.2])]; rfl
  · rfl

end

/-- Settles O44: a pulse by its place, an evaluation by what was seen and by the card, a period by the lead. -/
theorem lineTestsRunAndAreJudged : Obligations.LineTestsRunAndAreJudged := by
  refine fun s => ⟨fun k seen => ⟨fun h => ?_, fun ht h0 hk => ⟨fun hc => ?_, fun hc => ?_⟩, fun ht h0 hk => ?_⟩, fun now => ⟨fun h => ?_, ?_,
    fun hl hm t ht => ?_, fun h => ?_⟩⟩
  · exact .of_run (exec_lineTestPulse ..) (lineTestPulse_idle seen h)
  · exact .of_run (exec_lineTestPulse ..) ((lineTestPulse_own ht seen h0 hk).trans (congrArg _ (if_pos (by simp [hc]))))
  · exact .of_run (exec_lineTestPulse ..) ((lineTestPulse_own ht seen h0 hk).trans (congrArg _ (if_neg (by simp [hc]))))
  · exact .of_run (exec_lineTestPulse ..) (lineTestPulse_partner ht seen h0 hk)
  · exact .of_run (exec_lineTestEvaluate ..) (if_pos (by simp [h]))
  · intro ht failed unseen ps missed hps hmissed hunseen hfailed a b c d
    have judged := lineTestEvaluate_eq now ht hps hmissed hunseen hfailed (d := d) rfl
    refine ⟨fun hc => ?_, fun hc hf hw => ?_, fun hc h => ?_⟩
    · exact .of_run (exec_lineTestEvaluate ..) (judged.trans (if_pos (by simp [hc])))
    · exact .of_run (exec_lineTestEvaluate ..) (judged.trans ((if_neg (by simp [hc])).trans (if_pos ⟨hf, by simpa using hw⟩)))
    · refine .of_run (exec_lineTestEvaluate ..) (judged.trans ((if_neg (by simp [hc])).trans (if_neg ?_)))
      rintro ⟨hf, hw⟩
      rcases h with h | h
      · simp [h] at hf
      · simp [h] at hw
  · exact .of_run (exec_lineTestPeriodExpiry ..) (lineTest_issues hl hm ht)
  · exact .of_run (exec_lineTestPeriodExpiry ..) (lineTest_idle h)

end Sys2Proof.Laws
end

section
/-!
PROOFS. The Ralune bus: received frames, reference frames and time, ports, announcements and Azsin times (R407–R460).
-/
namespace Sys2Proof.Laws
open Sys2Proof.Machine

/-! ### Conditional operations, by their condition. -/

theorem when_beq_nat (s : State) (a b : Nat) (f : State → State) : s.when (a == b) f = if a = b then f s else s := by
  simp [State.when]

/-! ### Received frames (R407, R421, R429, R434). -/

theorem frameStart_eq (s : State) (p : Nat) : s.frameStart p =
    { (if (s.port p).cold = 1 then s.portMod p (fun x => { x with cold := 0 }) else s) with
      ch.silent := if s.ch.silent.testBit p = true then s.ch.silent - 2 ^ p else s.ch.silent } := by
  rw [State.frameStart, when_beq_nat]

theorem frameStart_get (s : State) (p k : Nat) : (s.frameStart p).get k = s.get k := by
  unfold State.frameStart State.when
  dsimp only
  split <;> rfl

theorem frameStart_nat (s : State) (p k : Nat) : (s.frameStart p).nat k = s.nat k := by
  unfold State.nat State.n
  rw [frameStart_get]

section
variable {s : State} {p : Fin 4} {f : RxFrame} {o : State} (now : Nat) (ho : o = s.frameStart p)
include ho

theorem frameReceived_portOff (hp : p.val = 3 ∧ s.nat (Obj.PORT_ROLE 3) = 0) : runRaluneFrameReceived p f now s = .next o := by
  rw [← frameStart_nat s p, ← ho] at hp
  subst ho
  exact if_pos hp

section
variable (hp : p.val ≠ 3 ∨ s.nat (Obj.PORT_ROLE 3) ≠ 0)
include hp

theorem frameReceived_unseen (hfd : f.fd = false) (hforeign : f.foreign = false) (h : f.sec = true ∨ f.sdt.toNat ≠ s.nat (Obj.PORT_SDT p)) :
    runRaluneFrameReceived p f now s = .next o := by
  rw [← frameStart_nat s p, ← ho] at hp h
  subst ho
  refine (if_neg (by tauto)).trans (if_pos ?_)
  simpa [hfd, hforeign] using h

section
variable (hseen : f.fd = true ∨ f.foreign = true ∨ (f.sec = false ∧ f.sdt.toNat = s.nat (Obj.PORT_SDT p)))
include hseen

/-- A frame that is seen passes the port and its format. -/
theorem frameReceived_passes : ¬ (p.val = 3 ∧ o.nat (Obj.PORT_ROLE 3) = 0) ∧
    ¬ ((!f.fd) = true ∧ (!f.foreign) = true ∧ (f.sec = true ∨ f.sdt.toNat ≠ o.nat (Obj.PORT_SDT p))) := by
  rw [← frameStart_nat s p, ← ho] at hp hseen
  refine ⟨by tauto, ?_⟩
  simp only [Bool.not_eq_true']
  rintro ⟨hfd, hforeign, h⟩
  rcases hseen with hs | hs | ⟨hsec, hsdt⟩
  · simp [hs] at hfd
  · simp [hs] at hforeign
  · simp [hsec, hsdt] at h

theorem frameReceived_rejected (hr : o.acceptRow p f = none) :
    runRaluneFrameReceived p f now s = .next (o.count (Obj.PORT_RX_REJECTS p) 32) := by
  obtain ⟨hport, hformat⟩ := frameReceived_passes ho hp hseen
  unfold runRaluneFrameReceived
  dsimp only
  rw [← ho, if_neg hport, if_neg hformat, hr]

theorem frameReceived_accepted {row : SchedRow} (hr : o.acceptRow p f = some row) {a t : State} (ha : a = o.portAccept p)
    (ht : t = a.when (leNat ((f.payload.drop 2).take 1) == a.portAddr p) (·.raise (Src.port p) Kind.RALUNE_DUP_ID 2 (some (a.portAddr p : Int)))) :
    runRaluneFrameReceived p f now s =
      if (leNat ((f.payload.drop 1).take 1)).testBit 0 = true then .next t
      else if leNat (f.payload.take 1) = 4 then .next (t.claimHeard p (leNat ((f.payload.drop 2).take 1)) (f.payload.drop 4))
      else if leNat (f.payload.take 1) = 2 then .next (t.azReceive p now (f.payload.drop 4))
      else .next t := by
  obtain ⟨hport, hformat⟩ := frameReceived_passes ho hp hseen
  subst ht ha
  unfold runRaluneFrameReceived
  dsimp only
  rw [← ho, if_neg hport, if_neg hformat, hr]

end
end
end

/-- Settles O51: a frame by its port and format, by its row, by the NULL flag and by its type. -/
theorem receivedFramesAreSorted : Obligations.ReceivedFramesAreSorted := by
  intro s p f now o ho
  rw [← frameStart_eq] at ho
  refine ⟨fun hoff => .of_run (exec_raluneFrameReceived ..) (frameReceived_portOff now ho hoff), fun hp => ⟨fun hfd hforeign h =>
    .of_run (exec_raluneFrameReceived ..) (frameReceived_unseen now ho hp hfd hforeign h), fun hseen => ⟨fun hr =>
    .of_run (exec_raluneFrameReceived ..) (frameReceived_rejected now ho hp hseen hr), fun hr => ?_⟩⟩⟩
  obtain ⟨row, hrow⟩ := Option.isSome_iff_exists.1 hr
  obtain ⟨t, ht⟩ : ∃ t, t = (o.portAccept p).when (leNat ((f.payload.drop 2).take 1) == (o.portAccept p).portAddr p)
      (·.raise (Src.port p) Kind.RALUNE_DUP_ID 2 (some ((o.portAccept p).portAddr p : Int))) := ⟨_, rfl⟩
  have sorted := frameReceived_accepted now ho hp hseen hrow rfl ht
  rw [when_beq_nat] at ht
  refine ⟨leNat (f.payload.take 1), leNat ((f.payload.drop 2).take 1), o.portAccept p, t, rfl, rfl, rfl, fun h => ht.trans (if_neg h),
    fun h => ht.trans (if_pos h), fun hnull => ?_, fun hnull => ⟨fun h4 => ?_, fun h2 => ?_, fun h4 h2 => ?_⟩⟩
  all_goals refine .of_run (exec_raluneFrameReceived ..) (sorted.trans ?_)
  · rw [if_pos hnull]
  · rw [if_neg (ne_true_of_eq_false hnull), if_pos h4]
    rfl
  · rw [if_neg (ne_true_of_eq_false hnull), if_neg (by omega), if_pos h2]
  · rw [if_neg (ne_true_of_eq_false hnull), if_neg h4, if_neg h2]

/-! ### Reference frames (R421–R426, R428, R434). -/

/-- A reference frame noted at its port: the frame itself, the port's time, and the confirmations shown. -/
def refNoted (o : State) (p : Fin 4) (f : RefFrame) : State :=
  let a := (o.portMod p fun x => { x with ref := some (f.prio, f.own), sinceRef := 0, confirms := f.confirms, collisions := 0 }).portAccept p
  let b := a.when (a.clk.joined && !a.bit (Obj.PORT_STATUS p) 2) fun a =>
    (a.putBit (Obj.PORT_STATUS p) 2 true).portMod p fun x => { x with announce := true }
  let c := b.when (p.val == 0) (·.put Obj.CONFIRM_AB (.oct (f.confirms.flatMap (le 2))))
  c.when (p.val == 3) (·.put Obj.CONFIRM_D (.oct (f.confirms.flatMap (le 2))))

/-- A reference frame of another sender heard: its address, the candidate's part, its signature and the claims. -/
def refHeard (d : State) (p : Fin 4) (f : RefFrame) : State :=
  let e := d.when (f.sender == d.portAddr p) (·.raise (Src.port p) Kind.RALUNE_DUP_ID 2 (some (d.portAddr p : Int)))
  let u := e.when (e.candidate p) (·.putMaster p 1)
  (u.sigCheck p f.signature).each 4 fun x n => x.claimSee p n

theorem refNoted_eq (o : State) (p : Fin 4) (f : RefFrame) : refNoted o p f =
    let a : State := (o.portMod p fun x => { x with ref := some (f.prio, f.own), sinceRef := 0, confirms := f.confirms, collisions := 0 }).portAccept p
    let b : State := (if a.clk.joined = true ∧ a.bit (Obj.PORT_STATUS p) 2 = false then (a.putBit (Obj.PORT_STATUS p) 2 true).portMod p fun x => { x with announce := true } else a)
    let c : State := (if p.val = 0 then b.put Obj.CONFIRM_AB (.oct (f.confirms.flatMap (le 2))) else b)
    if p.val = 3 then c.put Obj.CONFIRM_D (.oct (f.confirms.flatMap (le 2))) else c := by
  simp only [refNoted, State.when, Bool.and_eq_true, Bool.not_eq_true', beq_iff_eq]

theorem refHeard_eq (d : State) (p : Fin 4) (f : RefFrame) : refHeard d p f =
    let e : State := (if f.sender = d.portAddr p then d.raise (Src.port p) Kind.RALUNE_DUP_ID 2 (some (d.portAddr p : Int)) else d)
    let u : State := (if e.candidate p = true then e.putMaster p 1 else e)
    (u.sigCheck p f.signature).each 4 (fun x n => x.claimSee p n) := by
  simp only [refHeard, State.when, beq_iff_eq]

/-- A reference frame is better than the one the lane's time comes from: of a lower priority number, or of an equal one on a lower port (R424). -/
def refBetter (v : State) (p : Fin 4) (f : RefFrame) : Bool :=
  match v.ra.used with
  | none => true
  | some (q, pr) => decide (f.prio < pr ∨ (f.prio = pr ∧ p.val < q))

theorem refBetter_iff (v : State) (p : Fin 4) (f : RefFrame) :
    refBetter v p f = true ↔ ∀ q pr, v.ra.used = some (q, pr) → f.prio < pr ∨ (f.prio = pr ∧ p.val < q) := by
  unfold refBetter
  cases h : v.ra.used with
  | none => simp
  | some used =>
    simp only [decide_eq_true_eq, Option.some.injEq]
    exact ⟨fun hb q pr he => by rw [he] at hb; exact hb, fun hb => hb _ _ rfl⟩

/-- What a heard reference frame does to the lane's time: over the uplink, as the better reference, or nothing. -/
def refTime (p : Fin 4) (f : RefFrame) (off : Int) (v : State) : Res :=
  if v.clk.joined ∧ v.nat Obj.TIME_SOURCE = 4 ∧ v.uplinks.contains p.val then .next (v.uplinkGain p off (v.clk.now / v.beatCounts))
  else if v.givesTime p && refBetter v p f then .next ((v.timeCorrect p f.prio off f.time).stepHear f.step)
  else .next v

section
variable {s : State} {p : Fin 4} {f : RefFrame} {o : State} (ho : o = if f.own = true then s else s.frameStart p)
include ho

theorem referenceFrame_rejected (h : o.refSuits p f = false) : runReferenceFrame p f s = .next (o.count (Obj.PORT_RX_REJECTS p) 32) := by
  subst ho
  exact if_pos (by simp [h])

variable (h : o.refSuits p f = true)
include h

theorem referenceFrame_own (hown : f.own = true) : runReferenceFrame p f s =
    .next (((refNoted o p f).putMaster p 2).timeOwn.each 4 fun x n => x.claimSee p n) := by
  subst ho
  exact (if_neg (by simp [h])).trans (if_pos hown)

theorem referenceFrame_other (hown : f.own = false) : runReferenceFrame p f s =
    refTime p f ((f.stamp : Int) - o.nat (Obj.PORT_PROP_NS p) - f.time * 10) (refHeard (refNoted o p f) p f) := by
  subst ho
  exact (if_neg (by simp [h])).trans (if_neg (by simp [hown]))

end

section
variable {p : Fin 4} {f : RefFrame} {off : Int} {v : State}

theorem refTime_uplink (h : v.clk.joined = true ∧ v.nat Obj.TIME_SOURCE = 4 ∧ p.val ∈ v.uplinks) :
    refTime p f off v = .next (v.uplinkGain p off (v.clk.now / v.beatCounts)) :=
  if_pos (by simpa using h)

variable (h : ¬ (v.clk.joined = true ∧ v.nat Obj.TIME_SOURCE = 4 ∧ p.val ∈ v.uplinks))
include h

theorem refTime_better (hg : v.givesTime p = true) (hb : refBetter v p f = true) :
    refTime p f off v = .next ((v.timeCorrect p f.prio off f.time).stepHear f.step) :=
  (if_neg (by simpa using h)).trans (if_pos (by simp [hg, hb]))

theorem refTime_none (hg : v.givesTime p = false ∨ refBetter v p f = false) : refTime p f off v = .next v :=
  (if_neg (by simpa using h)).trans (if_neg (by simpa [Bool.and_eq_true, imp_iff_not_or] using hg))

end

/-! ### Time: loss, cold start, collisions, steps (R425, R429–R431, R435). -/

theorem syncTimeout_lost {s : State} (hj : s.clk.joined = true) (hs : s.abSilent = true) : runSyncTimeout s = .next
    ((s.raise (Src.port 0) Kind.RALUNE_SYNC_LOST 1 (some ((min (s.port 0).sinceRef (s.port 1).sinceRef : Nat) : Int))).timeLost (Src.port 0)
      Kind.RALUNE_SYNC_LOST) :=
  if_pos (by simp [hj, hs])

theorem syncTimeout_none {s : State} (h : s.clk.joined = false ∨ s.abSilent = false) : runSyncTimeout s = .next s :=
  if_neg (by rcases h with h | h <;> simp [h])

section
variable {s t : State} {p : Fin 4} (ht : t = if s.masterEn = true then { s with ch.silent := s.ch.silent ||| 2 ^ p.val } else s)
include ht

/-- The measured silence of a lane with MASTER_EN leaves what a cold start begins on. -/
theorem silenceMeasured_kept : t.candidate p = s.candidate p ∧ t.clk = s.clk ∧ t.ra = s.ra := by
  subst ht
  split
  · exact ⟨rfl, rfl, rfl⟩
  · exact ⟨rfl, rfl, rfl⟩

theorem coldStartSilence_begins (hc : s.candidate p = true) (hj : s.clk.joined = false) (hr : s.ra.timed = false) :
    runColdStartSilence p s = .next (t.portMod p fun x => { x with cold := 1 }) := by
  obtain ⟨hcand, hclk, hra⟩ := silenceMeasured_kept ht
  subst ht
  exact if_pos (by simp only [hcand, hclk, hra, hc, hj, hr]; rfl)

theorem coldStartSilence_none (h : s.candidate p = false ∨ s.clk.joined = true ∨ s.ra.timed = true) : runColdStartSilence p s = .next t := by
  obtain ⟨hcand, hclk, hra⟩ := silenceMeasured_kept ht
  subst ht
  refine if_neg ?_
  simp only [hcand, hclk, hra]
  rcases h with h | h | h <;> simp [h]

end

theorem portAddr_putMaster (s : State) (p : Fin 4) (v : Nat) : (s.putMaster p v).portAddr p = s.portAddr p := by
  have strap : (s.putMaster p v).nat Obj.STRAP_WORD = s.nat Obj.STRAP_WORD := nat_putN_ne s _ (by decide)
  have role : (s.putMaster p v).nat (Obj.PORT_ROLE 3) = s.nat (Obj.PORT_ROLE 3) := nat_putN_ne s _ (by decide)
  unfold State.portAddr State.bridgeAddr State.nodeAddr State.unitNo State.funcNo State.laneNo
  rw [strap, role]

section
variable {s t : State} {p : Fin 4} (now : Nat) (hc : s.candidate p = true)
  (ht : t = s.portMod p (fun x => { x with collisions := (s.port p).collisions + 1, backoff := now + 100000 * s.nodeAddr }))
include hc ht

theorem referenceCollision_counts (h : (s.port p).collisions ≠ 2) : runReferenceCollision p now s = .next t := by
  rw [mul_comm] at ht
  subst ht
  exact (if_neg (by simp [hc])).trans (if_neg (by omega))

theorem referenceCollision_third (h : (s.port p).collisions = 2) : runReferenceCollision p now s =
    .next ((t.putMaster p 3).raise (Src.port p) Kind.RALUNE_DUP_ID 1 (some ((t.putMaster p 3).portAddr p : Int))) := by
  rw [portAddr_putMaster]
  rw [mul_comm] at ht
  subst ht
  exact (if_neg (by simp [hc])).trans (if_pos (by omega))

end

theorem timeStepApply_applies {s t u : State} {reel : Nat} {d : Int} (h : s.ra.step = some (reel, d))
    (ht : t = ((s.shiftTimes d).putN Obj.STEP_STATE 0).putN Obj.STEP_OFFSET 0)
    (hu : u = { t with ra.step := none, ra.deferred := none, ra.within := 0, ra.withinBefore := 0
                       ra.ports := t.ra.ports.map (fun (x : RaPort) => { x with backoff := shiftTime x.backoff d })
                       az.step := some (t.clk.now, d / 100) }) :
    runTimeStepApply s = .next (if u.clk.joined = true then u.timeJoin u.clk.now else u) := by
  subst hu ht
  unfold runTimeStepApply
  rw [h]

/-- Settles O52: each event of the bus's time by its own lemma. -/
theorem referencesKeepTime : Obligations.ReferencesKeepTime := by
  intro s
  refine ⟨fun p f o hown hother => ?_, fun hj hs => .of_run (exec_syncTimeout ..) (syncTimeout_lost hj hs),
    fun h => .of_run (exec_syncTimeout ..) (syncTimeout_none h), fun p => ⟨fun t ht => ⟨fun hc hj hr =>
      .of_run (exec_coldStartSilence ..) (coldStartSilence_begins ht hc hj hr), fun h =>
      .of_run (exec_coldStartSilence ..) (coldStartSilence_none ht h)⟩, fun h => .of_run (exec_coldStartDelay ..) (if_pos h),
      fun h => .of_run (exec_coldStartDelay ..) (if_neg h), fun now => ⟨fun hc => .of_run (exec_referenceCollision ..) (if_pos (by simp [hc])),
        fun hc => ⟨fun h => .of_run (exec_referenceCollision ..) (referenceCollision_counts now hc rfl h), fun h =>
          .of_run (exec_referenceCollision ..) (referenceCollision_third now hc rfl h)⟩⟩,
      fun idx => ⟨fun h => .of_run (exec_spareSilence ..) (if_pos h), fun h => .of_run (exec_spareSilence ..) (if_neg h)⟩⟩,
    fun h => .of_run (exec_timeStepApply ..) (by unfold runTimeStepApply; rw [h]), fun reel d h => ⟨fun hj => ?_, fun hj => ?_⟩⟩
  · have ho : o = if f.own = true then s else s.frameStart p := by
      by_cases h : f.own = true
      · rw [if_pos h, hown h]
      · rw [if_neg h, hother (by simpa using h)]
    refine ⟨fun h => .of_run (exec_referenceFrame ..) (referenceFrame_rejected ho h), fun h => ?_⟩
    have noted := refNoted_eq o p f
    refine ⟨fun hf => .of_run (exec_referenceFrame ..) ?_, fun hf => ?_⟩
    · rw [referenceFrame_own ho h hf, noted]
    · intro e u v uplink better huplink hbetter off hoff
      have heard : refHeard (refNoted o p f) p f = v := by rw [noted, refHeard_eq]
      have judged : runReferenceFrame p f s = refTime p f off v := by rw [referenceFrame_other ho h hf, heard, hoff]
      rw [huplink, hbetter, ← refBetter_iff]
      exact ⟨fun hu => .of_run (exec_referenceFrame ..) (judged.trans (refTime_uplink hu)), fun hu hg hb =>
        .of_run (exec_referenceFrame ..) (judged.trans (refTime_better hu hg hb)), fun hu hg =>
        .of_run (exec_referenceFrame ..) (judged.trans (refTime_none hu (by simpa using hg)))⟩
  · exact .of_run (exec_timeStepApply ..) ((timeStepApply_applies h rfl rfl).trans (congrArg Host.Outcome.next (if_pos hj)))
  · exact .of_run (exec_timeStepApply ..) ((timeStepApply_applies h rfl rfl).trans (congrArg Host.Outcome.next (if_neg (ne_true_of_eq_false hj))))

/-! ### Ports, announcements and Azsin times (R409, R452, R458, R460). -/

/-- A port that ceases to be up: bus-off, a transceiver fault and a lost reference show in its status (R409). -/
def portFallen (s : State) (p : Fin 4) (q : Fin 5) : State :=
  let a : State := if q.val = 1 then s.putBit (Obj.PORT_STATUS p) 3 true else s
  let b : State := if q.val = 2 then a.putBit (Obj.PORT_STATUS p) 0 true else a
  let c : State := if q.val = 4 then b.putBit (Obj.PORT_STATUS p) 2 false else b
  c.putBit (Obj.PORT_STATUS p) 4 false

theorem portDown_eq (s : State) (p : Fin 4) (q : Fin 5) (elapsed : Nat) : runPortDown p q elapsed s =
    .next ((portFallen s p q).when (s.portUp p && q.val != 0) (·.raise (Src.port p) Kind.RALUNE_PORT_DOWN q.val (some (elapsed : Int)))) := by
  simp only [runPortDown, portFallen, when_beq_nat]

theorem portDown_raised {s : State} {p : Fin 4} {q : Fin 5} (elapsed : Nat) (hup : s.portUp p = true) (hq : q.val ≠ 0) :
    runPortDown p q elapsed s = .next ((portFallen s p q).raise (Src.port p) Kind.RALUNE_PORT_DOWN q.val (some (elapsed : Int))) := by
  rw [portDown_eq, State.when, if_pos (by simpa [hup] using hq)]

theorem portDown_quiet {s : State} {p : Fin 4} {q : Fin 5} (elapsed : Nat) (h : s.portUp p = false ∨ q.val = 0) :
    runPortDown p q elapsed s = .next (portFallen s p q) := by
  rw [portDown_eq, State.when, if_neg (by rcases h with h | h <;> simp [h])]

/-- The node list of a port with an announcement entered: a row of its address renewed, a new row while there is room (R458). -/
def announced (s : State) (p : Fin 4) (addr : Nat) (row : List Byte) : State :=
  let rows := rowsOf 32 (s.oct (nodesKey p))
  if ∃ r ∈ rows, leNat (r.take 1) = addr then
    s.put (nodesKey p) (.oct (rows.map fun r => if leNat (r.take 1) = addr then row else r).flatten)
  else if rows.length < 126 then s.put (nodesKey p) (.oct (rows.flatten ++ row)) else s

theorem networkAnnouncement_eq {s : State} {p : Fin 4} (addr : BitVec 7) (content : BitVec 192) (now : Nat)
    (hp : p.val ≠ 2 ∧ (p.val ≠ 3 ∨ s.nat (Obj.PORT_ROLE 3) ≠ 0)) {t : State}
    (ht : t = announced s p addr.toNat (le 1 addr.toNat ++ zeros 3 ++ le 24 content.toNat ++ le 4 (now / 100))) :
    runNetworkAnnouncement p addr content now s =
      if addr.toNat = t.portAddr p ∧ content.toNat / 2 ^ 128 ≠ Config.serial.toNat then
        .next (t.raise (Src.port p) Kind.RALUNE_DUP_ID 2 (some (addr.toNat : Int))) else .next t := by
  subst ht
  unfold runNetworkAnnouncement announced
  rw [if_neg (by tauto)]
  simp only [List.any_eq_true, beq_iff_eq]

theorem azsinTimeout_fails {s : State} {c : Fin 1024} {state cause : Nat} (hr : s.nat (Obj.AZ_ROLE c) = 2) (hs : s.nat (Obj.AZ_STATE c) = state)
    (h : state = 1 ∨ state = 2) (hc : cause = if state = 2 then 1 else 2) :
    runAzsinTimeout c s = .next (s.azFail c Kind.AZSIN_TIMEOUT cause) := by
  subst hc hs
  exact if_pos ⟨hr, h⟩

theorem azsinTimeout_none {s : State} {c : Fin 1024}
    (h : s.nat (Obj.AZ_ROLE c) ≠ 2 ∨ (s.nat (Obj.AZ_STATE c) ≠ 1 ∧ s.nat (Obj.AZ_STATE c) ≠ 2)) : runAzsinTimeout c s = .next s :=
  if_neg (by tauto)

theorem routeWaitExpiry_eq (s : State) : runRouteWaitExpiry s =
    .next ({ s with az.queue := s.az.queue.filter (fun f : AzForward => decide (f.age < s.nat Obj.ROUTE_MAX_WAIT)) }.putN Obj.ROUTE_DROP_WAIT
      ((s.n Obj.ROUTE_DROP_WAIT + (s.az.queue.filter (fun f : AzForward => decide (s.nat Obj.ROUTE_MAX_WAIT ≤ f.age))).length) % 2 ^ 32)) := by
  have kept : (fun f : AzForward => !decide (s.nat Obj.ROUTE_MAX_WAIT ≤ f.age)) = fun f : AzForward => decide (f.age < s.nat Obj.ROUTE_MAX_WAIT) := by
    funext f
    rw [← decide_not]
    exact decide_eq_decide.2 Nat.not_le
  rw [← kept]
  rfl

/-- Settles O53: ports, announcements and waits, each by the lemma of its command. -/
theorem portsAnnouncementsAndAzsin : Obligations.PortsAnnouncementsAndAzsin := by
  intro s
  refine ⟨fun p q elapsed => ⟨fun hup hq => .of_run (exec_portDown ..) (portDown_raised elapsed hup hq), fun h =>
      .of_run (exec_portDown ..) (portDown_quiet elapsed h)⟩, fun p => .of_run rfl rfl, fun p addr content now => ⟨fun h =>
      .of_run (exec_networkAnnouncement ..) (if_pos h), fun hp => ?_⟩, fun h => .of_run (exec_announceRepeatTimer ..) (if_pos (by simpa using h)),
    fun hn hj => .of_run (exec_announceRepeatTimer ..) (if_neg (by simp [hn, hj])), fun c => ⟨fun hr hs =>
      .of_run (exec_azsinTimeout ..) (azsinTimeout_fails hr hs (.inr rfl) rfl), fun hr hs =>
      .of_run (exec_azsinTimeout ..) (azsinTimeout_fails hr hs (.inl rfl) rfl), fun h => .of_run (exec_azsinTimeout ..) (azsinTimeout_none h)⟩,
    _, _, rfl, rfl, .of_run rfl (routeWaitExpiry_eq s)⟩
  obtain ⟨t, ht⟩ : ∃ t, t = announced s p addr.toNat (le 1 addr.toNat ++ zeros 3 ++ le 24 content.toNat ++ le 4 (now / 100)) := ⟨_, rfl⟩
  have entered := networkAnnouncement_eq addr content now hp ht
  refine ⟨_, _, t, rfl, rfl, fun h => ht.trans (if_pos h), fun h hroom => ?_, fun h hfull => ?_, fun ha hs =>
    .of_run (exec_networkAnnouncement ..) (entered.trans (if_pos ⟨ha, hs⟩)), fun h => .of_run (exec_networkAnnouncement ..) (entered.trans (if_neg (by tauto)))⟩
  · exact ht.trans ((if_neg (by simpa using h)).trans (if_pos hroom))
  · exact ht.trans ((if_neg (by simpa using h)).trans (if_neg (by omega)))

end Sys2Proof.Laws
end

section
/-!
PROOFS. Writes to leadership, connections, the stream port, the recorder, the collector and the governor (R356–R547).
-/
namespace Sys2Proof.Laws
open Sys2Proof.Machine

/-! ### What each of these entries does with its value. -/

theorem orReject_ok {s t : State} {r : Except AbortCode State} (h : r = .ok t) : (s.orReject r).1 = t := by rw [h]; rfl
theorem orReject_error {s : State} {e : AbortCode} {r : Except AbortCode State} (h : r = .error e) : (s.orReject r).1 = s := by rw [h]; rfl

section
variable {s : State} {w : Writer}

/-! Leadership (R356, R364). -/

theorem leadRequest_stands {b : Byte} {x : Int} (hb : Ty.u8.decode [b] = .ok (.num x)) (hx : (Chk.set [71, 84]).judge x = none) (hw : MayWrite s w 1) :
    s.clientWrite w Obj.LEAD_REQUEST [b] = .next (s.orReject (s.leadRequest x.toNat w.now)).1 :=
  entryWrite_stands hw row_leadRequest le_rfl (.inl rfl) (by decide) hb hx rfl fun _ => effect_leadRequest ..

theorem leadRequestGiveUp_stands (hw : MayWrite s w 1) : runLeadRequestGiveUp w s = .next (s.orReject (s.leadRequest 0x47 w.now)).1 :=
  leadRequest_stands rfl rfl hw

theorem leadRequestLineTest_stands (hw : MayWrite s w 1) : runLeadRequestLineTest w s = .next (s.orReject (s.leadRequest 0x54 w.now)).1 :=
  leadRequest_stands rfl rfl hw

theorem leadRequest_rejected (h : s.ld.leading = false) (v now : Nat) : s.leadRequest v now = .error 0x06060002 := if_pos (by simp [h])

section
variable (h : s.ld.leading = true)
include h

theorem leadRequest_giveUp (now : Nat) : s.leadRequest 0x47 now = .ok (s.giveUp 5 0 0 true) :=
  (if_neg (by simp [h])).trans (if_pos rfl)

theorem leadRequest_lineTest (now : Nat) : (s.orReject (s.leadRequest 0x54 now)).1 = (s.lineTest now).getD s := by
  unfold State.leadRequest
  rw [if_neg (by simp [h]), if_neg (by decide)]
  cases s.lineTest now with
  | none => rfl
  | some t => rfl

end

/-! Connections (R453). -/

theorem namedLevel_azCommand : ∀ c : Fin 1024, namedLevel (Obj.AZ_COMMAND c) [0x52] = 0 := by decide +kernel

theorem depends_azCommand (c : Fin 1024) (v : Val) : s.depends (Obj.AZ_COMMAND c) v = 0 := by
  have hidx : Obj.AZ_COMMAND c / 256 = 0xB000 + c := by unfold Obj.AZ_COMMAND; omega
  have := c.isLt
  unfold State.depends
  dsimp only
  rw [hidx, if_neg (by unfold Obj.AZ_COMMAND Obj.TICKS_PER_BEAT Obj.BEAT_LENGTH; omega)]
  iterate 6 rw [if_neg (by omega)]
  rw [if_neg (by unfold Obj.AZ_COMMAND Obj.RECORD_PRE Obj.RECORD_POST; omega)]

theorem azCommandRecover_stands {c : Fin 1024} (hw : MayWrite s w 0) : runAzCommandRecover w c s = .next (s.azRecover c) :=
  entryWrite_stands hw (row_azCommand c) (by rw [namedLevel_azCommand]; decide) (.inl rfl) (by decide) rfl rfl (depends_azCommand c _)
    fun _ => effect_azCommand ..

/-! The stream port (R470). -/

theorem streamEnableWrite_stands (on : Bool) (hw : MayWrite s w 1) : runStreamEnableWrite w on s = .next (s.streamEnable on) :=
  entryWrite_stands (x := b2n on) hw row_streamEnable (by cases on <;> decide) (.inr (.inl rfl)) (by decide) (by cases on <;> rfl)
    (by cases on <;> rfl) rfl fun _ => (effect_streamEnable ..).trans (by cases on <;> rfl)

theorem nat_putStored_ne {j k : Nat} (v : Val) (h : j ≠ k) : (s.putStored k v).nat j = s.nat j := by
  unfold State.nat State.n State.putStored
  rw [get_put_ne _ _ h]
  rfl

/-- The port's state and its clock domain are other entries. -/
theorem putStored_streamEnable (s : State) (v : Val) : (s.putStored Obj.STREAM_ENABLE v).streamState = s.streamState ∧
    (s.putStored Obj.STREAM_ENABLE v).domainUp 0 = s.domainUp 0 := by
  refine ⟨nat_putStored_ne v (by decide), ?_⟩
  unfold State.domainUp State.bit
  rw [nat_putStored_ne v (by decide)]

theorem streamEnable_trains (h : s.streamState = 0) (hd : s.domainUp 0 = true) :
    s.streamEnable true = (s.putStored Obj.STREAM_ENABLE (.nat 1)).putN Obj.STREAM_STATE 1 := by
  obtain ⟨hstate, hup⟩ := putStored_streamEnable s (.nat 1)
  exact if_pos ⟨hstate.trans h, hup.trans hd⟩

theorem streamEnable_waits (h : s.streamState ≠ 0 ∨ s.domainUp 0 = false) :
    s.streamEnable true = s.putStored Obj.STREAM_ENABLE (.nat 1) := by
  obtain ⟨hstate, hup⟩ := putStored_streamEnable s (.nat 1)
  refine if_neg ?_
  rintro ⟨h0, hd⟩
  rcases h with h | h
  · exact h (hstate.symm.trans h0)
  · exact absurd (hup.symm.trans hd) (by simp [h])

/-! The recorder (R499, R502, R505). -/

theorem recordTriggerCommand_stands (hw : MayWrite s w 0) : runRecordTriggerCommand w s = .next (s.recTrigger 3 0) :=
  entryWrite_stands hw row_recordCommand (by decide) (.inl rfl) (by decide) rfl rfl rfl fun _ => (effect_recordCommand ..).trans (if_pos rfl)

theorem recordErase_stands (hw : MayWrite s w 1) : runRecordErase w s = .next s.recErase :=
  entryWrite_stands hw row_recordCommand (by decide) (.inl rfl) (by decide) rfl rfl rfl fun _ =>
    (effect_recordCommand ..).trans (if_neg (by decide))

theorem recordDownload_stands {slot : Byte} (h : slot.toNat ≤ 7) (hw : MayWrite s w 0) :
    runRecordDownload w slot s = .next (s.recordDownload w.client slot.toNat).1 := by
  have hrange : (Chk.rng 0 7).judge (slot.toNat : Int) = none := if_pos (by omega)
  exact entryWrite_stands hw row_recordDownload le_rfl (.inl rfl) (by decide) (decode_u8 slot) hrange rfl fun _ => effect_recordDownload ..

theorem downloadStart_begins {n : Nat} (h : n ≤ 7) (he : s.rc.event.map (·.slot) ≠ some n) :
    s.downloadStart n = .ok (s.recMod fun r => { r with download := some (n, 0), cut := false }) :=
  (if_neg (by omega)).trans (if_neg he)

/-! The collector and the governor (R521, R547). -/

theorem faultClearWrite_stands (v : Word) (hw : MayWrite s w 1) : runFaultClearWrite w v s = .next (s.orReject (s.faultClear v.toNat)).1 :=
  entryWrite_stands hw row_faultClear le_rfl (.inl rfl) (by decide) (decode_u32 v) rfl rfl fun _ => effect_faultClear ..

theorem faultClear_noRow {v : Nat} (h : s.row (field v 17 8) (field v 7 0) = none) : s.faultClear v = .error 0x06060002 := by
  unfold State.faultClear
  dsimp only
  rw [h]

section
variable {v : Nat} {r : FaultRow} (h : s.row (field v 17 8) (field v 7 0) = some r)
include h

theorem faultClear_row : s.faultClear v = if r.state = 1 ∨ (r.state = 3 ∧ !s.causeStands (field v 17 8) (field v 7 0)) then
    .ok (s.rowFree (field v 17 8) (field v 7 0)) else .error 0x06060002 := by
  unfold State.faultClear
  dsimp only
  rw [h]

theorem faultClear_frees (hr : r.state = 1 ∨ (r.state = 3 ∧ s.causeStands (field v 17 8) (field v 7 0) = false)) :
    s.faultClear v = .ok (s.rowFree (field v 17 8) (field v 7 0)) :=
  (faultClear_row h).trans (if_pos (by simpa using hr))

theorem faultClear_keeps (hr : r.state = 2 ∨ r.state = 4 ∨ r.state = 5 ∨ (r.state = 3 ∧ s.causeStands (field v 17 8) (field v 7 0) = true)) :
    s.faultClear v = .error 0x06060002 := by
  refine (faultClear_row h).trans (if_neg ?_)
  rintro (h1 | ⟨h3, hcause⟩)
  · omega
  · rcases hr with h' | h' | h' | ⟨-, h'⟩
    · omega
    · omega
    · omega
    · simp [h'] at hcause

end

theorem tjPowerPeakClear_stands (hw : MayWrite s w 2) : runTjPowerPeakClear w s = .next (s.putN Obj.TJ_POWER_PEAK (s.n Obj.TJ_POWER)) :=
  entryWrite_stands hw row_tjPowerPeak (by decide) (.inr (.inl rfl)) (by decide) rfl rfl rfl fun _ => effect_tjPowerPeak ..

end

/-- Settles O20: the judgement lets each write stand, and its behaviour is the entry's own. -/
theorem laneWrites : Obligations.LaneWrites := by
  refine fun s w => ⟨fun hw => ⟨fun h => .of_run (exec_leadRequestGiveUp ..) ?_, fun h =>
      ⟨.of_run (exec_leadRequestGiveUp ..) ?_, .of_run (exec_leadRequestLineTest ..) ?_⟩, fun h => .of_run (exec_leadRequestLineTest ..) ?_⟩,
    fun c hw => ⟨fun hs hg => .of_run (exec_azCommandRecover ..) ?_, fun h => .of_run (exec_azCommandRecover ..) ?_⟩,
    fun hw => ⟨fun h hd => .of_run (exec_streamEnableWrite ..) ?_, fun h => .of_run (exec_streamEnableWrite ..) ?_,
      .of_run (exec_streamEnableWrite ..) (streamEnableWrite_stands false hw)⟩,
    fun hw => .of_run rfl (recordTriggerCommand_stands hw), fun hw => .of_run (exec_recordErase ..) (recordErase_stands hw),
    fun slot hslot hw => ⟨fun hc he => .of_run (exec_recordDownload ..) ?_, fun hc => .of_run (exec_recordDownload ..) ?_⟩, fun v hw => ⟨fun r hr =>
      ⟨fun h => .of_run (exec_faultClearWrite ..) ?_, fun h => .of_run (exec_faultClearWrite ..) ?_⟩, fun h => .of_run (exec_faultClearWrite ..) ?_⟩,
    fun hw => .of_run (exec_tjPowerPeakClear ..) (tjPowerPeakClear_stands hw)⟩
  · rw [leadRequestGiveUp_stands hw, orReject_ok (leadRequest_giveUp h _)]
  · rw [leadRequestGiveUp_stands hw, orReject_error (leadRequest_rejected h ..)]
  · exact (leadRequestLineTest_stands hw).trans (congrArg _ (orReject_error (leadRequest_rejected h ..)))
  · exact (leadRequestLineTest_stands hw).trans (congrArg _ (leadRequest_lineTest h _))
  · exact (azCommandRecover_stands hw).trans (congrArg _ (if_pos ⟨hs, hg⟩))
  · exact (azCommandRecover_stands hw).trans (congrArg _ (if_neg (by omega)))
  · rw [streamEnableWrite_stands true hw, streamEnable_trains h hd]
  · rw [streamEnableWrite_stands true hw, streamEnable_waits h]
  · refine (recordDownload_stands hslot hw).trans (congrArg _ ?_)
    rw [State.recordDownload, if_pos hc]
    exact orReject_ok (downloadStart_begins hslot he)
  · refine (recordDownload_stands hslot hw).trans (congrArg _ ?_)
    rw [State.recordDownload, if_neg hc]
  · rw [faultClearWrite_stands v hw, orReject_ok (faultClear_frees hr h)]
  · rw [faultClearWrite_stands v hw, orReject_error (faultClear_keeps hr h)]
  · rw [faultClearWrite_stands v hw, orReject_error (faultClear_noRow h)]

end Sys2Proof.Laws
end

section
/-!
PROOFS. The stream port: its link, its credits, what it sends and receives (R468–R478).
-/
namespace Sys2Proof.Laws
open Sys2Proof.Machine

/-! ### Training and link loss (R468–R470, R482). -/

section
variable {s : State}

theorem streamClockDetect_trains (he : s.n Obj.STREAM_ENABLE ≠ 0) (hd : s.domainUp 0 = true) (hs : s.streamState = 1) :
    runStreamClockDetect s = .next s.trainBegin :=
  congrArg Host.Outcome.next (if_pos ⟨by simpa [State.on] using he, hd, hs⟩)

theorem streamClockDetect_none (h : s.n Obj.STREAM_ENABLE = 0 ∨ s.domainUp 0 = false ∨ s.streamState ≠ 1) :
    runStreamClockDetect s = .next s := by
  refine congrArg Host.Outcome.next (if_neg ?_)
  rintro ⟨he, hd, hs⟩
  rcases h with h | h | h
  · simp [State.on, h] at he
  · simp [h] at hd
  · exact h hs

section
variable (c0 c1 : BitVec 16) (skew us : BitVec 32) {version role : Byte}

theorem streamTsReceived_up (hs : s.streamState = 2) (hi : s.sp.idle = false) (hv : version = 1) (hr : role = 2) {t : State}
    (ht : t = ((((s.emit (.ts2 512 1024 1 1)).putN Obj.STREAM_STATE 3).putN Obj.STREAM_PARTNER_CREDITS (c1.toNat * 65536 + c0.toNat : Nat)).putN
      Obj.STREAM_DESKEW skew.toNat).putN Obj.STREAM_TRAIN_TIME us.toNat) :
    runStreamTsReceived c0 c1 ⟨skew, version, role⟩ us s =
      .next (({ t.holdoffCancel with sp := { gap := s.sp.gap } }.emit (.credit 0 0)).emit (.credit 1 0)) := by
  subst ht
  exact if_pos ⟨hs, by simp [hi], hv, hr⟩

theorem streamTsReceived_none (h : s.streamState ≠ 2 ∨ s.sp.idle = true ∨ version ≠ 1 ∨ role ≠ 2) :
    runStreamTsReceived c0 c1 ⟨skew, version, role⟩ us s = .next s := by
  refine if_neg ?_
  rintro ⟨hs, hi, hv, hr⟩
  rcases h with h | h | h | h
  · exact h hs
  · simp [h] at hi
  · exact h hv
  · exact h hr

end

theorem streamTrainingTimeout_pauses (lanes : BitVec 4) (hs : s.streamState = 2) (hi : s.sp.idle = false) {t : State}
    (ht : t = (s.spMod fun x => { x with idle := true, failed := true }).emit .idle) : runStreamTrainingTimeout lanes s =
      .next (if s.sp.failed = true then t else t.raise Src.stream Kind.STREAM_LINK_DOWN 4 (some (lanes.toNat : Int))) := by
  subst ht
  refine (if_pos ⟨hs, by simp [hi]⟩).trans (congrArg Host.Outcome.next ?_)
  cases s.sp.failed <;> rfl

theorem streamTrainingTimeout_none (lanes : BitVec 4) (h : s.streamState ≠ 2 ∨ s.sp.idle = true) : runStreamTrainingTimeout lanes s = .next s :=
  if_neg (by rcases h with h | h <;> simp [h])

section
variable (lanes : BitVec 4) (errors : Nat) {q : Fin 6}

/-- The link of a lost clock waits for the clock, any other trains at once; the loss is counted (R470). -/
def linkLost (s : State) (q : Fin 6) : State :=
  (if q.val = 1 then s.linkEnd.putN Obj.STREAM_STATE 1 else s.linkEnd.trainBegin).count Obj.STREAM_LINK_DOWNS 32

theorem linkLost_codeErrors : (linkLost s q).nat Obj.STREAM_CODE_ERRORS =
    (if q.val = 1 then s.linkEnd.putN Obj.STREAM_STATE 1 else s.linkEnd.trainBegin).nat Obj.STREAM_CODE_ERRORS :=
  nat_putN_ne _ _ (by decide)

theorem streamLinkLoss_ends (hs : s.streamState = 3) (h0 : q.val ≠ 0) (h4 : q.val ≠ 4) : runStreamLinkLoss q lanes errors s =
    .next (((linkLost s q).putN Obj.STREAM_CODE_ERRORS (((linkLost s q).nat Obj.STREAM_CODE_ERRORS + errors) % 2 ^ 32 : Nat)).raise Src.stream
      Kind.STREAM_LINK_DOWN q (some (lanes.toNat : Int))) := by
  rw [linkLost_codeErrors]
  exact if_pos ⟨hs, by omega⟩

theorem streamLinkLoss_none (h : s.streamState ≠ 3 ∨ q.val = 0 ∨ q.val = 4) : runStreamLinkLoss q lanes errors s = .next s :=
  if_neg (by omega)

end

theorem streamIdleEnd_trains (hs : s.streamState = 2) (hi : s.sp.idle = true) :
    runStreamIdleEnd s = .next (s.spMod fun x => { x with idle := false }).trainBegin :=
  congrArg Host.Outcome.next (if_pos ⟨hs, hi⟩)

theorem streamIdleEnd_none (h : s.streamState ≠ 2 ∨ s.sp.idle = false) : runStreamIdleEnd s = .next s :=
  congrArg Host.Outcome.next (if_neg (by rcases h with h | h <;> simp [h]))

/-! ### Sending (R471, R474, R475, R478). -/

section
variable (now : Nat) (hs : s.streamState = 3)
include hs

/-- A frame started at the transmitter: out of its queue, counted, its credits spent and its number taken. -/
def frameStarted (s : State) (f : Outgoing) : State :=
  ((s.frameTaken f).count Obj.STREAM_FRAMES_TX 32).spMod fun x =>
    { x with used := vmod x.used (streamClass f.type) fun n => (n + streamCredits f.payload.length) % 65536
             seqTx := vset x.seqTx (f.type - 1) ((vget s.sp.seqTx (f.type - 1) + 1) % 65536) }

theorem streamFrameSend_sends {f : Outgoing}
    (hf : (s.waitingFrames now).find? (fun f => decide (streamCredits f.payload.length ≤ s.creditsLeft (streamClass f.type))) = some f) :
    runStreamFrameSend now s = .next ((frameStarted s f).emit (.stream f.type f.flags (vget s.sp.seqTx (f.type - 1)) f.offset f.payload
      (streamCrc f.type f.flags (vget s.sp.seqTx (f.type - 1)) f.offset f.payload))).loaderDone := by
  unfold runStreamFrameSend
  rw [if_neg (by simp [hs]), hf]
  rfl

theorem streamFrameSend_idles
    (hf : (s.waitingFrames now).find? (fun f => decide (streamCredits f.payload.length ≤ s.creditsLeft (streamClass f.type))) = none) :
    runStreamFrameSend now s = .next (s.emit .idle) := by
  unfold runStreamFrameSend
  rw [if_neg (by simp [hs]), hf]

theorem streamAzsinLatch_latches (hc : s.col.failSilent = false) (ha : s.appStopped = false) (hn : s.nat Obj.STREAM_NETWORK ≠ 0xFF) :
    runStreamAzsinLatch now s = .next ((s.azCollect 4 8192 (fun _ => true) now).2.spMod fun x =>
      { x with latched := (s.azCollect 4 8192 (fun _ => true) now).1 }) :=
  if_pos ⟨hs, by simp [hc], by simp [ha], hn⟩

theorem streamCreditTimeout_raises {c : Fin 2}
    (h : ∃ f ∈ (s.waitingFrames s.clk.now).filter (fun f => streamClass f.type == c.val), s.creditsLeft c < streamCredits f.payload.length) :
    runStreamCreditTimeout c s = .next (s.raise Src.stream Kind.STREAM_CREDIT_TIMEOUT (c + 1) (some (s.classWaiting c : Int))) :=
  if_pos ⟨hs, by simpa only [List.any_eq_true, decide_eq_true_eq] using h⟩

end

theorem streamAzsinLatch_none (now : Nat)
    (h : s.streamState ≠ 3 ∨ s.col.failSilent = true ∨ s.appStopped = true ∨ s.nat Obj.STREAM_NETWORK = 0xFF) :
    runStreamAzsinLatch now s = .next s := by
  refine if_neg ?_
  rintro ⟨hs, hc, ha, hn⟩
  rcases h with h | h | h | h
  · exact h hs
  · simp [h] at hc
  · simp [h] at ha
  · exact hn h

theorem streamCreditTimeout_none {c : Fin 2} (h : s.streamState ≠ 3 ∨
    ∀ f ∈ (s.waitingFrames s.clk.now).filter (fun f => streamClass f.type == c.val), streamCredits f.payload.length ≤ s.creditsLeft c) :
    runStreamCreditTimeout c s = .next s := by
  refine if_neg ?_
  simp only [List.any_eq_true, decide_eq_true_eq]
  rintro ⟨hs, f, hf, hless⟩
  rcases h with h | h
  · exact h hs
  · exact absurd (h f hf) (by omega)

theorem loaderDone_resets (hr : s.sp.reboot = true) (hi : s.sp.image = []) : s.loaderDone = s.resetTo 4 s.pw.tick :=
  if_pos ⟨hr, by simp [hi]⟩

theorem loaderDone_none (h : s.sp.reboot = false ∨ s.sp.image ≠ []) : s.loaderDone = s :=
  if_neg (by rcases h with h | h <;> simp [h])

/-! ### Receiving (R471–R473). -/

section
variable {f : StreamFrame} (now : Nat) (hs : s.streamState = 3)

/-- A received frame frees its buffers, and its code errors count, be it broken or not. -/
def frameFreed (s : State) (f : StreamFrame) : State :=
  (s.putN Obj.STREAM_CODE_ERRORS ((s.nat Obj.STREAM_CODE_ERRORS + f.codeErrors) % 2 ^ 32 : Nat)).spMod fun x =>
    { x with freed := vmod x.freed (streamClass f.type.toNat) fun n => (n + streamCredits f.payload.length) % 65536 }

include hs

theorem streamFrameReceived_bad (h : streamGood f = false ∨ streamValid f.type.toNat f.payload.length (f.flags.toNat.testBit 0) = false) :
    runStreamFrameReceived f now s = .next ((frameFreed s f).count Obj.STREAM_CRC_ERRORS 32) :=
  (if_neg (by simp [hs])).trans (if_pos (by simpa only [Bool.not_eq_true'] using h))

theorem streamFrameReceived_good (hg : streamGood f = true) (hv : streamValid f.type.toNat f.payload.length (f.flags.toNat.testBit 0) = true)
    {u : State} (hu : u = ((frameFreed s f).count Obj.STREAM_FRAMES_RX 32).streamSeq f.type.toNat f.seq.toNat) :
    runStreamFrameReceived f now s = if f.type.toNat = 2 then .next (u.azReceive 4 now f.payload)
      else if f.type.toNat = 4 then .next (u.imageFrame f) else .next u := by
  subst hu
  exact (if_neg (by simp [hs])).trans (if_neg (by simp only [hg, hv, Bool.not_true, Bool.false_eq_true, or_self, not_false_eq_true]))

end

end

/-- Settles O54: each event of the link and of its frames by the lemma of its command. -/
theorem streamPortRuns : Obligations.StreamPortRuns := by
  refine ⟨fun s => ⟨fun he hd hs => .of_run (exec_streamClockDetect ..) (streamClockDetect_trains he hd hs), fun h =>
      .of_run (exec_streamClockDetect ..) (streamClockDetect_none h), fun c0 c1 skew us version role => ⟨fun hs hi hv hr =>
      .of_run (exec_streamTsReceived ..) (streamTsReceived_up c0 c1 skew us hs hi hv hr rfl), fun h =>
      .of_run (exec_streamTsReceived ..) (streamTsReceived_none c0 c1 skew us h)⟩, fun lanes => ⟨fun hs hi => ⟨fun hf =>
      .of_run (exec_streamTrainingTimeout ..) ?_, fun hf => .of_run (exec_streamTrainingTimeout ..) ?_⟩, fun h =>
      .of_run (exec_streamTrainingTimeout ..) (streamTrainingTimeout_none lanes h), fun q errors => ⟨fun hs h0 h4 =>
      .of_run (exec_streamLinkLoss ..) (streamLinkLoss_ends lanes errors hs h0 h4), fun h =>
      .of_run (exec_streamLinkLoss ..) (streamLinkLoss_none lanes errors h)⟩⟩, fun hs hi => .of_run (exec_streamIdleEnd ..) (streamIdleEnd_trains hs hi),
    fun h => .of_run (exec_streamIdleEnd ..) (streamIdleEnd_none h), fun c count => ⟨fun hs =>
      ⟨.of_run (exec_creditColumn ..) (congrArg Host.Outcome.next (if_pos hs)), .of_run (exec_creditColumnSend ..) (congrArg Host.Outcome.next (if_pos hs))⟩, fun hs =>
      ⟨.of_run (exec_creditColumn ..) (congrArg Host.Outcome.next (if_neg hs)), .of_run (exec_creditColumnSend ..) (congrArg Host.Outcome.next (if_neg hs))⟩⟩⟩,
    fun s => ⟨fun now => ⟨fun hs => .of_run (exec_streamFrameSend ..) (if_pos hs), ?_, fun h => loaderDone_resets h.1 h.2, loaderDone_none, ?_, fun h =>
      .of_run (exec_streamAzsinLatch ..) (streamAzsinLatch_none now h)⟩, ?_, fun f now => ⟨fun hs => .of_run (exec_streamFrameReceived ..) (if_pos hs), fun hs =>
      ⟨_, _, rfl, fun h => .of_run (exec_streamFrameReceived ..) (streamFrameReceived_bad now hs h), rfl, fun hg hv => ?_⟩⟩, .of_run rfl rfl⟩⟩
  · exact (streamTrainingTimeout_pauses lanes hs hi rfl).trans (congrArg Host.Outcome.next (if_neg (by simp [hf])))
  · exact (streamTrainingTimeout_pauses lanes hs hi rfl).trans (congrArg Host.Outcome.next (if_pos hf))
  · rintro hs ready rfl
    exact ⟨fun f hf => .of_run (exec_streamFrameSend ..) (streamFrameSend_sends now hs hf), fun hf =>
      .of_run (exec_streamFrameSend ..) (streamFrameSend_idles now hs hf)⟩
  · rintro hs hc ha hn r rfl
    exact .of_run (exec_streamAzsinLatch ..) (streamAzsinLatch_latches now hs hc ha hn)
  · rintro c mine rfl
    exact ⟨fun hs h => .of_run (exec_streamCreditTimeout ..) (streamCreditTimeout_raises hs h), fun h =>
      .of_run (exec_streamCreditTimeout ..) (streamCreditTimeout_none h)⟩
  · have received := streamFrameReceived_good now hs hg hv rfl
    refine ⟨fun h2 => .of_run (exec_streamFrameReceived ..) (received.trans (if_pos h2)), fun h4 =>
      .of_run (exec_streamFrameReceived ..) (received.trans ?_), fun h2 h4 => .of_run (exec_streamFrameReceived ..) (received.trans ?_)⟩
    · rw [if_neg (by omega), if_pos h4]
      rfl
    · rw [if_neg h2, if_neg h4]
      rfl

end Sys2Proof.Laws
end

section
/-!
PROOFS. The fault collector, the thermal governor and the hour (R508–R547).
-/
namespace Sys2Proof.Laws
open Sys2Proof.Machine

/-! ### CRITICAL lines (R516, R519, R527). -/

/-- The line kept when lines are compared one by one: the lower source. -/
def lowerSource (a b : FaultMsg) : FaultMsg := if b.src < a.src then b else a

theorem lowerSource_le (a b : FaultMsg) : (lowerSource a b).src ≤ a.src ∧ (lowerSource a b).src ≤ b.src := by
  unfold lowerSource
  split
  · exact ⟨by omega, le_rfl⟩
  · exact ⟨le_rfl, by omega⟩

theorem lowerSource_mem (a b : FaultMsg) : lowerSource a b = a ∨ lowerSource a b = b := by
  unfold lowerSource
  split
  · exact .inr rfl
  · exact .inl rfl

theorem foldl_lowerSource (l : List FaultMsg) (m : FaultMsg) :
    l.foldl lowerSource m ∈ m :: l ∧ ∀ y ∈ m :: l, (l.foldl lowerSource m).src ≤ y.src := by
  induction l generalizing m with
  | nil => simp
  | cons b l ih =>
    obtain ⟨hmem, hle⟩ := ih (lowerSource m b)
    obtain ⟨hm, hb⟩ := lowerSource_le m b
    have hfirst := hle _ List.mem_cons_self
    refine ⟨?_, fun y hy => ?_⟩
    · rcases List.mem_cons.1 hmem with h | h
      · rw [List.foldl_cons, h]
        rcases lowerSource_mem m b with h | h <;> simp [h]
      · exact List.mem_cons_of_mem _ (List.mem_cons_of_mem _ h)
    · rcases List.mem_cons.1 hy with rfl | hy
      · exact hfirst.trans hm
      · rcases List.mem_cons.1 hy with rfl | hy
        · exact hfirst.trans hb
        · exact hle _ (List.mem_cons_of_mem _ hy)

section
variable {s : State}

theorem criticalLine_reacts {m : FaultMsg} {l : List FaultMsg} (h : s.col.lines = m :: l) {x : FaultMsg} (hx : x = l.foldl lowerSource m) :
    runCriticalLine s = .next ((({ s with col := { s.col with lines := [], reacting := some (x.src, x.kind) } } : State).rowsCritical
      (m :: l)).criticalReaction x.src x.kind x.qual) := by
  subst hx
  unfold runCriticalLine
  rw [h]
  rfl

theorem criticalLine_none (h : s.col.lines = []) : runCriticalLine s = .next s := by
  unfold runCriticalLine
  rw [h]

/-! ### Messages (R515, R518, R520). -/

theorem faultMessage_none (h : s.col.queue = [] ∨ s.logBlocked = true) : runFaultMessage s = .next s := by
  unfold runFaultMessage
  cases hq : s.col.queue with
  | nil => rfl
  | cons m q => exact if_pos (h.resolve_left (by simp [hq]))

/-- A message taken from the queue: counted and logged. -/
def messageTaken (s : State) (m : FaultMsg) : State := (s.queuePop.count (Obj.KIND_COUNT m.kind) 32).logAdd 0 false m

/-- A message at its row: opened, updated, or none for a NOTE. -/
def rowTaken (b : State) (m : FaultMsg) : State :=
  if m.cls = 0 then b else if (b.row m.src m.kind).isSome then b.rowUpdate m else b.rowOpen m

/-- What a taken message leaves: with the reaction of its source and kind running, a CRITICAL one becomes LAST_CRITICAL. -/
def reactionNoted (d : State) (m : FaultMsg) : State :=
  if d.col.reacting = some (m.src, m.kind) ∧ m.cls = 3 then { d with col := { d.col with reacting := none } }.lastCritical m else d

theorem faultMessage_taken {m : FaultMsg} {q : List FaultMsg} (h : s.col.queue = m :: q) (hb : s.logBlocked = false) :
    runFaultMessage s = .next (reactionNoted ((rowTaken (((messageTaken s m).recFault m).traceFault m.kind m.cls) m).keeperAck m) m) := by
  unfold runFaultMessage
  rw [h]
  exact if_neg (by simp [hb])

theorem keeperAck_acks {c : State} {m : FaultMsg} (h : (m.kind = Kind.THERMAL_LIMIT ∧ c.role = 1) ∨
    (m.cls = 2 ∧ (m.kind = Kind.ECC_UNCORR_FETCH ∨ m.kind = Kind.ECC_UNCORR_DATA))) : c.keeperAck m = c.rowAck m.src m.kind m.seq :=
  if_pos (by simpa using h)

theorem keeperAck_none {c : State} {m : FaultMsg} (h : m.kind ≠ Kind.THERMAL_LIMIT ∨ c.role ≠ 1)
    (he : m.cls ≠ 2 ∨ (m.kind ≠ Kind.ECC_UNCORR_FETCH ∧ m.kind ≠ Kind.ECC_UNCORR_DATA)) : c.keeperAck m = c := by
  refine if_neg ?_
  simp only [Bool.or_eq_true, Bool.and_eq_true, beq_iff_eq]
  tauto

/-! ### Rows (R520, R521). -/

theorem rowAck_none {src kind seq : Nat} (h : s.row src kind = none) : s.rowAck src kind seq = s := by
  unfold State.rowAck
  rw [h]

theorem rowAck_some {src kind seq : Nat} {r : FaultRow} (h : s.row src kind = some r) : s.rowAck src kind seq =
    if r.state = 2 ∧ r.last.seq = seq then (s.rowMod src kind fun r => { r with state := 3 }).logAdd 2 false r.last else s := by
  unfold State.rowAck
  rw [h]

section
variable {src : BitVec 10} {kind : Byte}

theorem faultAcknowledge_lead (seq : Byte) (hk : kind.toNat = Kind.THERMAL_LIMIT) (hl : s.ld.leading = true) :
    runFaultAcknowledge src kind seq s = .next s :=
  congrArg Host.Outcome.next (if_pos ⟨hk, hl⟩)

theorem faultAcknowledge_acks (seq : Byte) (h : kind.toNat ≠ Kind.THERMAL_LIMIT ∨ s.ld.leading = false) :
    runFaultAcknowledge src kind seq s = .next (s.rowAck src.toNat kind.toNat seq.toNat) :=
  congrArg Host.Outcome.next (if_neg (by rcases h with h | h <;> simp [h]))

section
variable (h : s.row src.toNat kind.toNat = none)
include h

theorem faultReactExpiry_noRow : runFaultReactExpiry src kind s = .next s := by
  unfold runFaultReactExpiry
  rw [h]

theorem faultAcknowledge_noRow (seq : Byte) : runFaultAcknowledge src kind seq s = .next s :=
  congrArg Host.Outcome.next (by rw [rowAck_none h, ite_self])

theorem faultRowClear_noRow : runFaultRowClear src kind s = .next s := by
  unfold runFaultRowClear
  rw [h]

end

section
variable {r : FaultRow} (h : s.row src.toNat kind.toNat = some r)
include h

theorem faultReactExpiry_row : runFaultReactExpiry src kind s =
    if r.state = 2 then .next ((s.rowMod src.toNat kind.toNat fun r => { r with state := 5 }).escalate r.last) else .next s := by
  unfold runFaultReactExpiry
  rw [h]

theorem faultRowClear_row : runFaultRowClear src kind s =
    if (r.state = 1 ∨ r.state = 3) ∧ !s.causeStands src.toNat kind.toNat then .next (s.rowFree src.toNat kind.toNat) else .next s := by
  unfold runFaultRowClear
  rw [h]

theorem faultRowClear_clears (hr : r.state = 1 ∨ r.state = 3) (hc : s.causeStands src.toNat kind.toNat = false) :
    runFaultRowClear src kind s = .next (s.rowFree src.toNat kind.toNat) :=
  (faultRowClear_row h).trans (if_pos ⟨hr, by simp [hc]⟩)

theorem faultRowClear_keeps (hr : (r.state ≠ 1 ∧ r.state ≠ 3) ∨ s.causeStands src.toNat kind.toNat = true) :
    runFaultRowClear src kind s = .next s :=
  (faultRowClear_row h).trans (if_neg (by rcases hr with ⟨h1, h3⟩ | hr <;> simp [*]))

theorem faultAcknowledge_row (seq : Byte) (hr : r.state = 2) (hs : r.last.seq = seq.toNat)
    (hl : kind.toNat ≠ Kind.THERMAL_LIMIT ∨ s.ld.leading = false) : runFaultAcknowledge src kind seq s =
      .next ((s.rowMod src.toNat kind.toNat fun r => { r with state := 3 }).logAdd 2 false r.last) := by
  rw [faultAcknowledge_acks seq hl, rowAck_some h, if_pos ⟨hr, hs⟩]

theorem faultAcknowledge_keeps (seq : Byte)
    (hr : r.state ≠ 2 ∨ r.last.seq ≠ seq.toNat ∨ (kind.toNat = Kind.THERMAL_LIMIT ∧ s.ld.leading = true)) :
    runFaultAcknowledge src kind seq s = .next s := by
  by_cases hl : kind.toNat = Kind.THERMAL_LIMIT ∧ s.ld.leading = true
  · exact faultAcknowledge_lead seq hl.1 hl.2
  · rw [faultAcknowledge_acks seq (by simpa [imp_iff_not_or] using hl), rowAck_some h, if_neg (by tauto)]

end
end

/-! ### The thermal governor (R542–R544, R547). -/

/-- The reading and its peak (R547). -/
def readingNoted (s : State) (t : Int) : State :=
  (s.govClock.putN Obj.TJ_POWER t).putN Obj.TJ_POWER_PEAK (max ((s.govClock.putN Obj.TJ_POWER t).n Obj.TJ_POWER_PEAK) t)

/-- The next level, and the warnings and limits that come or go with a reading (R542, R543). -/
def governed (b : State) (t : Int) (apart : Nat) : State :=
  ((((b.thMod fun x => { x with coming := govLevel x.coming t }).thermalRaise 0 (decide (140 ≤ t)) (decide (t < 135)) t).thermalRaise 2
    (decide (10 < apart)) (decide (apart < 5)) t).thermalRaise 3 (decide (150 ≤ t)) (decide (t < 145)) t).thermalRaise 5 false (decide (t < 155)) t

theorem tjPowerPeak_readingPut (s : State) (t : Int) : (s.putN Obj.TJ_POWER t).n Obj.TJ_POWER_PEAK = s.n Obj.TJ_POWER_PEAK :=
  n_putN_ne _ _ (by decide)

theorem governorSample_eq (t1 t2 : BitVec 16) {t : Int} (ht : t = max t1.toInt t2.toInt) {c : State}
    (hc : c = governed (readingNoted s t) t (t1.toInt - t2.toInt).natAbs) : runGovernorSample t1 t2 s =
      .next (if c.th.shut = true ∧ t < 140 then c.stagesOff.thMod fun x => { x with shut := false } else c.stageShut t) := by
  rw [readingNoted, tjPowerPeak_readingPut] at hc
  subst ht hc
  rfl

theorem stageShut_none {t : Int} (h : s.th.shut = true ∨ t < 160) : s.stageShut t = s := if_pos h

theorem stageShut_shuts {t : Int} (hs : s.th.shut = false) (ht : 160 ≤ t) : s.stageShut t =
    ((s.stagesOff.thMod fun x => { x with shut := true }).count Obj.STAGE_SHUTDOWNS 32).thermalRaise 5 true false t :=
  if_neg (by simp [hs, ht])

end

/-- Settles O56: the lowest CRITICAL line, the taken message, its row, and the governor's sample, each by its own lemma. -/
theorem faultsAndTemperatureAreHandled : Obligations.FaultsAndTemperatureAreHandled := by
  refine ⟨fun s => ⟨fun h => .of_run (exec_criticalLine ..) (criticalLine_none h), fun m l h => ?_, fun h =>
      .of_run (exec_faultMessage ..) (faultMessage_none h), fun m q h hb => ?_, fun src kind seq => ⟨fun h =>
      ⟨.of_run (exec_faultReactExpiry ..) (faultReactExpiry_noRow h), .of_run (exec_faultAcknowledge ..) (faultAcknowledge_noRow h seq),
        .of_run (exec_faultRowClear ..) (faultRowClear_noRow h)⟩, fun r h =>
      ⟨fun h2 => .of_run (exec_faultReactExpiry ..) ((faultReactExpiry_row h).trans (if_pos h2)), fun h2 =>
        .of_run (exec_faultReactExpiry ..) ((faultReactExpiry_row h).trans (if_neg h2)), fun h2 hs hl =>
        .of_run (exec_faultAcknowledge ..) (faultAcknowledge_row h seq h2 hs hl), fun hr =>
        .of_run (exec_faultAcknowledge ..) (faultAcknowledge_keeps h seq hr), fun hr hc =>
        .of_run (exec_faultRowClear ..) (faultRowClear_clears h hr hc), fun hr =>
        .of_run (exec_faultRowClear ..) (faultRowClear_keeps h hr)⟩⟩, .of_run (exec_faultLogCommit ..) rfl, .of_run (exec_hourlyCommit ..) rfl⟩,
    fun s => ⟨fun t1 t2 => ?_, fun t => ⟨fun h => .of_run (exec_stageShutdown ..) (congrArg Host.Outcome.next (stageShut_none h)), fun hs ht =>
      .of_run (exec_stageShutdown ..) (congrArg Host.Outcome.next (stageShut_shuts hs ht))⟩⟩⟩
  · obtain ⟨hmem, hle⟩ := foldl_lowerSource l m
    exact ⟨l.foldl lowerSource m, hmem, hle, .of_run (exec_criticalLine ..) (criticalLine_reacts h rfl)⟩
  · have taken := faultMessage_taken h hb
    refine ⟨messageTaken s m, ((messageTaken s m).recFault m).traceFault m.kind m.cls,
      rowTaken (((messageTaken s m).recFault m).traceFault m.kind m.cls) m,
      (rowTaken (((messageTaken s m).recFault m).traceFault m.kind m.cls) m).keeperAck m, rfl, rfl, fun h0 => if_pos h0, fun h0 hr =>
      (if_neg h0).trans (if_neg (by simp [hr])), fun h0 hr => (if_neg h0).trans (if_pos hr), keeperAck_acks, keeperAck_none, fun hr h3 =>
      .of_run (exec_faultMessage ..) (taken.trans (congrArg Host.Outcome.next (if_pos ⟨hr, h3⟩))), fun hr =>
      .of_run (exec_faultMessage ..) (taken.trans (congrArg Host.Outcome.next (if_neg (by tauto))))⟩
  · obtain ⟨c, hc⟩ : ∃ c, c = governed (readingNoted s (max t1.toInt t2.toInt)) (max t1.toInt t2.toInt) (t1.toInt - t2.toInt).natAbs := ⟨_, rfl⟩
    have sampled := governorSample_eq t1 t2 rfl hc
    refine ⟨max t1.toInt t2.toInt, s.govClock.putN Obj.TJ_POWER (max t1.toInt t2.toInt), readingNoted s (max t1.toInt t2.toInt), c, rfl, rfl, rfl, hc,
      fun hs ht => .of_run (exec_governorSample ..) (sampled.trans (congrArg Host.Outcome.next (if_pos ⟨hs, ht⟩))), fun hs ht =>
      .of_run (exec_governorSample ..) (sampled.trans (congrArg Host.Outcome.next ((if_neg (by omega)).trans (stageShut_none (.inl hs))))), fun hs ht =>
      .of_run (exec_governorSample ..) (sampled.trans (congrArg Host.Outcome.next ((if_neg (by simp [hs])).trans (stageShut_none (.inr ht))))), fun hs ht =>
      .of_run (exec_governorSample ..) (sampled.trans (congrArg Host.Outcome.next ((if_neg (by simp [hs])).trans (stageShut_shuts hs ht))))⟩

end Sys2Proof.Laws
end

section
/-!
PROOFS. The memory integrity record and the recorder (R485–R501).
-/
namespace Sys2Proof.Laws
open Sys2Proof.Machine

/-! ### The columns of the data bits (R485). -/

theorem mem_chosen {α : Type} {choose : Nat → Nat} {x : α} : ∀ {k : Nat} {l : List α}, x ∈ chosen choose k l → x ∈ l
  | 0, _, h => by simp [chosen] at h
  | k + 1, l, h => by
    rw [chosen, List.mem_append] at h
    rcases h with h | h
    · exact List.mem_of_getElem? (by simpa using h)
    · exact List.mem_of_mem_eraseIdx (mem_chosen h)

theorem dataColumns_ne_zero : (0 : Byte) ∉ dataColumns := by
  intro h
  rcases List.mem_append.1 (mem_chosen h) with h | h
  · exact absurd h (by decide)
  · exact absurd (mem_chosen h) (by decide)

/-- The zero syndrome is no column of a data bit or check bit. -/
theorem oneBit_zero : oneBit 0 = false := by
  have weight : (ones8 (0 : Byte).toNat == 1) = false := by decide
  rw [oneBit, weight, Bool.false_or]
  simpa using dataColumns_ne_zero

/-! ### The copier's read of an error met in flash (R490, R501). -/

/-- An error of one bit in flash, with a data word that is good as a word of DRAM at address 0. -/
def flashError : EccError :=
  { m := 10, access := 0, app := false, addr := 0, data := 0, check := 0, bits := 1, channel := 0, left := 0, cell := 0, lost := none }

/-- A lane with a recorder event open and no row recorded. -/
def recordingLane : State := { State.reset with rc.event := some {} }

theorem copierRead_flashError_corrected : (copierRead flashError).corrected = false := oneBit_zero

/-- The copier reads a word of DRAM, whose syndrome decides; the bits of the flash error do not. -/
theorem eccTake_copierRead_flashError : recordingLane.eccTake (copierRead flashError) = recordingLane := if_pos rfl

/-- Refutes O55: the error that the copier meets is judged as a DRAM word, so an error that is one by its flash bits alone does not end the event. -/
theorem not_memoriesAndRecorderKeep : ¬ Obligations.MemoriesAndRecorderKeep := by
  rintro ⟨-, h⟩
  obtain ⟨-, opened, -⟩ := h recordingLane
  obtain ⟨-, ends, -⟩ := opened {} rfl _ rfl
  obtain ⟨hevent, -⟩ := ends flashError rfl rfl copierRead_flashError_corrected
  rw [eccTake_copierRead_flashError] at hevent
  exact absurd hevent (by decide)

end Sys2Proof.Laws
end
